-- ==== Sys2Proof/Word.lean ====
section
/-! DEFINITION. The word types of the YL24: bytes of memory and 32-bit words of the crossings and lanes. -/

namespace Sys2Proof

/-- A byte of memory or of a message. -/
abbrev Byte := BitVec 8

/-- A 32-bit word: what one crossing moves (R23) and what a memory access carries (R264). -/
abbrev Word := BitVec 32

end Sys2Proof
end

