-- ==== Sys2Proof/Syntax.lean ====
section
/-! DEFINITION. The commands of the YL24: one constructor of `Instr` per row of spec/opcode_table.json, with the
operands that reach the device from outside it (a value written, a sample taken, a frame received, a measured time). -/

namespace Sys2Proof

/-- A link port (R173). -/
inductive Port where
  | a | b | c
  deriving DecidableEq, Repr

/-- The nine clock islands of Table 1.4. -/
inductive Island where
  | mon | dsp | la | lb | lc | cpu | cnv | pd | ka
  deriving DecidableEq, Repr

/-- Who makes an object access: one of the three host channels (R251), a float request with the two privilege bits of
Table 9.5 (R259), or the head's own firmware. -/
inductive Requester where
  | canA | canB | spi
  | float (commissioning safety : Bool)
  | firmware
  deriving DecidableEq, Repr

/-- What a CAN controller met on its bus (ISO 11898-1): frames it sent or received well, and errors in either. -/
inductive CanStep where
  | sent | sendError | received | receiveError
  deriving DecidableEq, Repr

/-- What kind of access a crossing served (R25). -/
inductive CrossingUse where
  | read | write | dma
  deriving DecidableEq, Repr

/-- One received window of a row as a receiver judges it (Table 7.4, Table 7.7). -/
structure RxWindow where
  /-- window number, 0–124 -/
  index : Nat
  /-- [95:93] -/
  lead : Nat
  /-- [92:81] -/
  addr : Nat
  slot0 : Nat
  slot1 : Nat
  slot2 : Nat
  nibble : Nat
  floatBit : Bool
  crcOk : Bool
  /-- misplaced edges within the window (R196) -/
  edgeErrors : Nat
  alarmStruck : Bool
  deriving DecidableEq, Repr

/-- A service slot as received (R195). -/
structure ServiceSlot where
  target : Nat
  code : Nat
  arg : Nat
  crcOk : Bool
  deriving DecidableEq, Repr

/-- What a receiver measures of an arriving row beside its content. -/
structure MarkTiming where
  /-- time in ps since the row's reference edge arrived at a member's up port, or first departed from the head (R182, R205) -/
  sincePs : Nat
  /-- misplaced edges outside the windows (R196) -/
  edgeErrors : Nat
  /-- the turnaround that the answer to a probe in this row will carry, in units of 0.156 ns (R205) -/
  turnaround : Nat
  deriving DecidableEq, Repr

/-- One offered power data object of the partner (R343), in mV, mA and mW. -/
structure SourcePdo where
  /-- 0 Fixed, 1 PPS, 2 AVS -/
  kind : Nat
  minVoltage : Nat
  maxVoltage : Nat
  maxCurrent : Nat
  pdp : Nat
  /-- step of the voltage of a request, in mV (R343); 0 where any voltage may be asked for -/
  voltageStep : Nat
  deriving DecidableEq, Repr

/-- One reading of a phase's current sense within a row (R306): the portion it falls in (0 none, 1 rising, 2 falling), the region
(0 buck, 1 buck-boost, 2 boost), the current in mA, and the lower of the two bootstrap voltages of the phase in mV (R433). -/
structure PhaseSense where
  portion : Nat
  region : Nat
  ma : Int
  bstMv : Nat
  deriving DecidableEq, Repr

/-- A message of the PD partner that the port does not support or treats specially (R342). -/
inductive PdOther where
  | prSwap | drSwap | vconnSwap | bistOther | unstructuredVdm | structuredVdm
  deriving DecidableEq, Repr

/-- Why a Hard Reset happens, with the codes of HardResetCause (0x4600.1F). -/
inductive HardResetWhy where
  | received | watchdog | psRdyMissing | eprKeepAlive | envelope | noCapabilities
  deriving DecidableEq, Repr

/-- How the programming of a NAND page ends (R404, R405): reported good, reported failed, or cut before the report. -/
inductive ProgramResult where
  | ok | failed | cut
  deriving DecidableEq, Repr

/-- How a commit goes (R393 to R395): CRES at step 2, whether the copy of its data meets an ECC double error, and the data row
at which a fault stops it, if one does. -/
structure CommitRun where
  cresMv : Nat
  ecc : Bool
  stop : Option Nat
  deriving DecidableEq, Repr

/-- The NAND device at the log engine's port (R400, R401): its factory bad-block markers, and the blocks that fail an erase of
a format. -/
structure NandDevice where
  factoryBad : List Nat
  worn : List Nat
  deriving DecidableEq, Repr

/-- A part of a test pulse (R374): the drive is removed; the drive output has fallen so many µs later, or not at all; the 1 ms
after the pulse has passed. -/
inductive PulseStep where
  | start
  | readback (fellUs : Option Nat)
  | over
  deriving DecidableEq, Repr

/-- A fault bit number of Table 14.1. -/
abbrev FaultBit := Nat

/-- Every command, in the order of spec/opcode_table.json. -/
inductive Instr where
  -- Supplies, resets, start-up (chapters 1 to 3)
  | hvPowerOn (vstkMv : Nat)
  | hvReset
  | vlogRise (vlogMv : Nat)
  | vlogLowWarning
  | vlogLoss
  | vioChange (vioMv : Nat)
  | kaSupplyChangeover (kaBatMv : Nat)
  | kaPowerOnReset
  | externalReset
  | resetRelease (headEn : Bool) (vlogMv : Nat)
  | roleChangeReset
  | softReset (who : Requester) (value : Nat)
  | laneHLoss
  | laneFLoss
  | kaReferenceMark (monCycles : Nat)
  | monReferenceLost
  | crossingRequest (src dst : Island) (word : BitVec 32)
  | crossingTimeout (use : CrossingUse) (who : Requester) (index sub : Nat) (value : List Nat)
  | startupSelfTest (romOk sramOk : Bool)
  | framScan (logDevice : Option NandDevice)
  | monitorDieReady
  | monLock
  | crystalTimeout
  | fieldConfigLoad
  | startupComplete (elapsedUs : Nat)
  | sleepRequest (who : Requester)
  | shipRequest (who : Requester)
  | wakeSource (bit : Nat)
  | warmWake
  | rowLossSleep
  | lineActivityWake (port : Port)
  | shipExit (bit : Nat)
  -- Snapshots (chapter 1)
  | snapLatch (who : Requester) (value : Nat)
  | snapshotLatchInstant (group : Nat)
  | snapshotReadOpen (group reader : Nat)
  | snapshotHoldExpiry (group : Nat)
  -- Cell and current sampling (chapter 4)
  | sampleTick
  | tickLost
  | tickReturn (row : Nat) (withinHalf : Bool)
  | decimatorOutput (raw : List Int) (mirrorUa vdsUv : List Int)
  | filterCornerApply
  | streamRateApply
  | channelSetApply
  | settlingEnd (channel : Nat)
  | bufferTrigger (trigger : Nat)
  | bufferRearm (who : Requester)
  | bufferFreeze
  | auxStart (who : Requester) (value : Nat)
  | auxPaceTick
  | auxConversionDone (input : Nat) (code : Int) (pulledCode : Int)
  | auxScanComplete
  | auxRefSelect (who : Requester) (converter : Nat) (value : Nat)
  | auxRefSettled (converter : Nat) (refinInRange : Bool)
  | auxUrgent (who : Requester) (input : Nat)
  | auxUrgentDone (converter : Nat) (code : Int)
  | selfCalCommand (who : Requester) (value : Nat)
  | selfCalDone (offsetA : Int) (gainA : Nat) (offsetB : Int) (gainB : Nat)
  -- Measurement integrity (chapter 5)
  | checkSarSlot (slot code : Nat)
  | comparatorRawChange (cell : Nat) (ov active : Bool)
  | comparatorTrip (cell : Nat) (ov : Bool)
  | comparatorRelease (cell : Nat) (ov : Bool)
  | thresholdWrite (who : Requester) (sub value : Nat)
  | faultStateChange (merged : Nat)
  | alarmReinject (merged : Nat)
  | comparatorTest (who : Requester) (cell : Nat)
  | comparatorTestDone (ovTripped uvTripped : Bool)
  | openWireCommand (who : Requester) (value : Nat)
  | openWireInterval
  | openWireWindowStart
  | openWirePullOn
  | openWirePullOff
  | openWireEvaluate
  | openWireWindowEnd
  | groupTrip (wire : Nat) (ov tripped : Bool)
  | shuntCommonMode (channel : Nat) (beyond : Bool)
  | legacyWakeCheck (cellCodes : List Nat) (ain1 ain2 : Nat)
  | gaugeFieldWrite (who : Requester) (set : Nat) (bytes : List Nat)
  | gaugeFieldRemove (who : Requester) (set value : Nat)
  | gaugeTempInterval
  | gaugeFactorsApply
  -- Balancing, impedance, counters (chapter 6)
  | balanceFrameStart
  | balRequestWrite (who : Requester) (value : Nat)
  | balHoldExpiry
  | switchFaultLatch (cell : Nat) (stuck : Bool)
  | blankHold
  | wireGaugeCommand (who : Requester) (value : Nat)
  | wireGaugeStep
  | wireGaugeDone
  | impCommand (who : Requester) (value : Nat)
  | impRunStart
  | impLeadInEnd
  | impWindowEnd
  | impRunAbandon (forPower : Bool)
  | counterRowMark
  | counterClear (who : Requester) (value : Nat)
  | counterRestore (who : Requester) (bytes : List Nat)
  | counterSave
  -- Dwemar link (chapter 7)
  | portTrainingDone (port : Port) (ok rate25 : Bool) (forwardPs : List Nat)
  | portSignalLoss (port : Port)
  | portSignalReturn (port : Port)
  | rowStart
  | rowMarkReceived (port : Port) (row flags : Nat) (headerOk periodOk : Bool) (timing : MarkTiming)
      (slots : List ServiceSlot)
  | stitchInsert (window : RxWindow)
  | windowForward (port : Port) (window : RxWindow)
  | rowReturn (port : Port) (row : Nat) (headerOk periodOk : Bool) (timing : MarkTiming) (windows : List RxWindow)
      (slots : List ServiceSlot)
  | returnLimitExpiry (port : Port)
  | deadEndMark (port : Port)
  | alarmSymbolReceived (port : Port) (merged : Nat)
  | floatFrameMember (bytes : List Nat) (intact : Bool)
  | floatFrameHead (member : Nat) (bytes : List Nat) (intact : Bool)
  | diagnosticReport
  | delayProbe
  | probeAnswer (roundTripPs turnaroundPs : Nat)
  | delayReport (reportPs : Nat)
  | delayApply
  | tickAlignReceived (atRow valuePs : Nat) (crcOk : Bool)
  | beyondTickReach
  | statsClear (who : Requester) (port : Port) (value : Nat)
  -- Chain, ring and tree (chapter 8)
  | fullCastOn
  | incrementalPass
  | bindOff (sleep : Bool)
  | passOpen (pass : Nat) (full : Bool)
  | call (nonce : Nat)
  | claim (pass nonce : Nat)
  | assign (address windows nonce : Nat)
  | assignAccepted (accepted : Bool)
  | passClose
  | presenceCode (fragment : Nat)
  | castOnHole (address : Nat)
  | memberAbsent (address : Nat)
  | memberReturned (address : Nat)
  | rateFallback
  | ringBreak
  | ringBreakReceived (port : Port) (row : Nat)
  | bindOffEffect
  | mirrorSetWrite (address : Nat)
  | tickAlignUpdate (address delayPs : Nat)
  -- Object dictionary and transports (chapter 9)
  | read (who : Requester) (target index sub : Nat)
  | write (who : Requester) (target index sub : Nat) (value : List Nat)
  | readSegment (who : Requester) (target index sub n : Nat)
  | writeInitiate (who : Requester) (target index sub size : Nat)
  | writeSegment (who : Requester) (target index sub n : Nat) (last : Bool) (data : List Nat)
  | clientAbort (who : Requester) (target index sub : Nat)
  | unknownCommand (who : Requester) (message : List Nat)
  | registerWrite (who : Requester) (index sub : Nat) (value : List Nat)
  | latchClearWrite (who : Requester) (index sub : Nat) (value : List Nat)
  | serviceTimeout (who : Requester)
  | commissioningEnter (who : Requester) (code : Nat)
  | safetyUnlock (who : Requester) (code : Nat)
  | commissioningCode (who : Requester) (code : Nat)
  | commissioningExit (who : Requester) (value : Nat)
  | commissioningTimeout
  | codeLockExpiry
  | configStore (who : Requester) (value : Nat)
  | configDefaults (who : Requester) (value : Nat)
  | canFrameReceived (controllerB : Bool) (ident : Nat) (fd : Bool) (data : List Nat) (bus : List CanStep)
  | canBusOff (controllerB : Bool)
  | canBusOffRecovery (controllerB : Bool)
  | publicationDue (p : Nat)
  | spiObjectRequest (message : List Nat)
  | spiFetch
  | spiWindowRead (address count : Nat)
  | spiWindowWrite (address : Nat) (words : List (BitVec 32))
  | spiFrameRefused (bytes : List Nat)
  | memberRequestRelay (who : Requester) (target index sub : Nat) (message : List Nat)
  | memberResponse (address sequence : Nat) (message : List Nat)
  | memberResponseTimeout (address : Nat)
  -- Controller, translation, DMA, events (chapter 10)
  | pageTableWrite (who : Requester) (requestor : Nat) (entries : List (BitVec 32))
  | translationFault (requestor : Nat) (address : BitVec 32) (write fetch : Bool)
  | sramEccError (requestor address : Nat) (double : Bool)
  | dmaStart (who : Requester) (channel : Nat)
  | dmaHalt (who : Requester) (channel : Nat)
  | dmaResume (who : Requester) (channel : Nat)
  | dmaAbort (who : Requester) (channel : Nat)
  | descriptorFetch (channel : Nat)
  | dmaTrigger (source : Nat)
  | dmaElement (channel : Nat)
  | dmaWriteBack (channel : Nat)
  | dmaFault (channel kind stage wordsDone : Nat)
  | eventRaise (source : Nat)
  | eventFlagClear (who : Requester) (source value : Nat)
  | eventEnableWrite (who : Requester) (source value : Nat)
  -- Six-phase converter (chapter 11); lengths of portions and cycles in CNV cycles of 2.5 ns (R290)
  | outerLoopUpdate (vSourceMv vNodeMv : Nat) (loopDemandsMa : List Int)
  | shedComplete
  | turnOnGrant (phase sinceLastGrantNs : Nat)
  | risingPortionEnd (phase length : Nat) (sensedMa : Int)
  | fallingPortionEnd (phase length : Nat) (sensedMa : Int)
  | portionForced (phase : Nat) (rising : Bool)
  | phaseCycleEnd (phase : Nat) (meanMa : Int)
  | bootstrapRefresh (phase portionLength : Nat)
  | converterRun (vdrvMv nodeMv : Nat)
  | converterStartDone
  | converterStop
  | converterStopped
  | converterFault (cause : Nat)
  | converterFaultClear (who : Requester) (value : Nat)
  | phaseExcludedClear (who : Requester) (value : Nat)
  | phasePopulatedWrite (who : Requester) (value : Nat)
  | throttleInterval
  | throttleCompute
  | converterTelemetry (vdrvMv vSourceMv : Nat) (vNodeMv : Int) (sensed : List (List PhaseSense))
  | hbCurrentLimitFault (hb2 : Bool)
  | hbRestart (hb2 : Bool)
  | syncAcquired (periodsPs : List Nat) (slewUs : Nat)
  | syncLost (periodPs : Option Nat) (slewUs : Nat)
  -- Power path, charging, keep-alive (chapter 12)
  | dockQualified (dockMv : Nat)
  | dockPresent (dockMv : Nat)
  | sourceLost (vbus : Bool) (senseMv : Nat) (sourceMa : Int)
  | sourceSelect (noLoadMv : Nat)
  | searchStep (currentLoopHeld : Bool)
  | searchEnd (sag : Bool)
  | handOverComplete (elapsedUs : Nat)
  | reverseEntry
  | disconnectOpenInSource
  | batfetDiodeOn
  | batfetFault
  | chargeEvaluation (packMv sysMv elapsedMs : Nat)
  | chargeFault (bit : Nat)
  | chargeDone (byTimer : Bool)
  | chargeFaultRead (who : Requester)
  | kaChargerTransition (kaBatMv : Nat) (ntcCode : Nat) (elapsedS : Nat)
  | kaTermination (cause : Nat)
  | kaFault (bit : Nat)
  | kaOutFault (limitMs : Nat)
  | kaOutRestart
  -- USB-C power delivery (chapter 13)
  | typecTransition (cc1 cc2 : Nat) (vbusMv elapsedUs : Nat)
  | detach
  | vbusUsable (vbusMv : Nat)
  | vbusLost
  | policyEngineStart
  | sourceCapsTimeout
  | sourceCapabilities (epr : Bool) (pdos : List SourcePdo) (raw : List Nat)
  | ppsRerequest
  | unsupportedMessage (m : PdOther)
  | bistCarrierMode
  | sourceAttach (vconnRa : Bool)
  | discoverIdentity (answered fiveAmp eprCable farEnd : Bool)
  | sendSourceCapabilities (acknowledged : Bool)
  | eprModeEnter (capable succeeded : Bool)
  | eprKeepAlive
  | eprKeepAliveLost
  | eprModeExit
  | sinkAccept
  | sinkPsRdy (vbusMeanMv : Nat)
  | psRdyTimeout
  | sourceRequest (position currentMa : Nat)
  | sourceRampStart
  | sourcePsRdy (vbusMv : Nat)
  | transitionWatchdog
  | envelopeFault (vbusMv : Nat)
  | sinkOvervoltage (vbusMv : Nat)
  | endSourcing
  | dischargeDone (elapsedMs : Nat)
  | dischargeTimeout
  | hardReset (why : HardResetWhy)
  | hardResetSourceRestart
  | frsSignal
  | frsSourceStart
  | frsComplete
  | frsAbandon
  -- Safety functions (chapter 14)
  | safetyCycle
  | watchdogExpiry
  | lockstepDisagreement
  | safetyReset
  | shortCircuit
  | cellTempRead (member : Nat) (ainTempMax : Int) (hasThermistor : Bool)
  | safetyFaultDetect (bit : FaultBit) (active : Bool)
  | enableToggleLost
  | disconnectClose (who : Requester) (auto : Bool)
  | disconnectOpen (who : Requester)
  | sdFbChange (level : Bool) (elapsedUs : Nat)
  | sdCloseTimeout
  | sdOpenTimeout
  | testPulse (step : PulseStep)
  | dcinSample (levels : Nat)
  | degradedTick
  | degradedReset
  | degradedDischargeLimit
  | latentCycle
  | latentOverdue
  | checkValueRecompute
  | checkValueConfirm (who : Requester) (value code : Nat) (run : CommitRun)
  -- Storage, log, calendar, die temperature, self-test (chapter 15)
  | framCommit (cresMv : Nat) (sourceEcc : Bool) (stopRow : Option Nat)
  | cresMeasure (voltageMv dropUv : Nat)
  | logEntry (sourceEcc : Bool) (run : CommitRun)
  | logPageProgram (result : ProgramResult) (first second : CommitRun)
  | logFormat (who : Requester)
  | logClosePage (who : Requester)
  | logWrite (who : Requester) (bytes : List Nat)
  | skeinErase (failed : List Nat)
  | blockRetire (block : Nat)
  | logReadSequence (who : Requester) (sequence : Nat) (crcOk : Bool)
  | calendarTick
  | calendarTimeWrite (who : Requester) (value : Nat)
  | compensationStep
  | dieTempRequest (controller : Bool) (who : Requester)
  | dieTempDone (controller : Bool) (reading : Int)
  | swatch (monitor failed : Bool)
  | swatchControl (who : Requester) (monitor : Bool) (value : Nat)
  | laneFReturn
  | hbSyncSlewEnd
  | batfetDiodeOff
  | kaBatThreshold (kaBatMv : Nat)
  | sinkCapabilitiesReceived (frsCurrentMa : Nat)
  deriving DecidableEq, Repr

end Sys2Proof
end

