-- ==== Sys2Proof/Decode.lean ====
section
/-! DEFINITION. Commands by the opcode table's bits. The YL24 is a block: its commands reach it from outside, and no row of
the table gives a word. -/

namespace Sys2Proof

/-- The command that a word spells: none, since no row of spec/opcode_table.json gives bits. -/
def decodeTableWord (_nbits _w : Nat) : Option Instr := none

end Sys2Proof
end

