-- ==== Sys2Proof/Machine/Bits.lean ====
section
/-! DEFINITION. Bit fields, little-endian bytes, rounding and the CRCs of the manual, on numbers. -/

namespace Sys2Proof.Machine

/-- Bit `n` of a word set or cleared. -/
def withBit (v n : Nat) (b : Bool) : Nat :=
  if v.testBit n then (if b then v else v - 2 ^ n) else (if b then v + 2 ^ n else v)

/-- Bits [hi:lo] of a word. -/
def field (v lo hi : Nat) : Nat := (v / 2 ^ lo) % 2 ^ (hi + 1 - lo)

/-- The bits of `v` that are not in `m`. -/
def clearBits (v m : Nat) : Nat := v - (v &&& m)

/-- The `n` bytes of a number, least significant first. -/
def leBytes : Nat → Nat → List Nat
  | 0, _ => []
  | n + 1, v => v % 256 :: leBytes n (v / 256)

/-- The number that bytes spell, least significant first. -/
def ofLe : List Nat → Nat
  | [] => 0
  | b :: t => b % 256 + 256 * ofLe t

/-- The `n` bytes of a number, most significant first. -/
def beBytes (n v : Nat) : List Nat := (leBytes n v).reverse

/-- A two's complement code of `n` bits for an integer. -/
def toCode (n : Nat) (v : Int) : Nat := (v % (2 ^ n : Int)).toNat

/-- The integer that a two's complement code of `n` bits stands for. -/
def ofCode (n c : Nat) : Int := if c % 2 ^ n < 2 ^ (n - 1) then (c % 2 ^ n : Nat) else ((c % 2 ^ n : Nat) : Int) - (2 ^ n : Int)

/-- num / den to the nearest integer, ties away from zero (R95); den above 0. -/
def roundDiv (num : Int) (den : Nat) : Int :=
  if num < 0 then -((2 * num.natAbs + den) / (2 * den) : Nat) else ((2 * num.natAbs + den) / (2 * den) : Nat)

/-- v limited to lo to hi. -/
def clampInt (lo hi v : Int) : Int := if v < lo then lo else if hi < v then hi else v

/-- Mean of a list of integers, rounded; 0 of an empty list. -/
def meanInt (l : List Int) : Int := if l.isEmpty then 0 else roundDiv (l.foldl (· + ·) 0) l.length

/-- One bit of a CRC of width `w`, most significant bit first. -/
def crcBit (w poly : Nat) (crc : Nat) (b : Bool) : Nat :=
  let shifted := (2 * crc) % 2 ^ w
  if crc.testBit (w - 1) != b then shifted ^^^ poly else shifted

/-- The bits of a byte, most significant first. -/
def bitsOfByte (b : Nat) : List Bool :=
  [b.testBit 7, b.testBit 6, b.testBit 5, b.testBit 4, b.testBit 3, b.testBit 2, b.testBit 1, b.testBit 0]

/-- The lowest `n` bits of a number, most significant first. -/
def bitsOf : Nat → Nat → List Bool
  | 0, _ => []
  | n + 1, v => v.testBit n :: bitsOf n v

/-- A CRC of width `w` over bits, most significant first. -/
def crcBits (w poly init : Nat) (bits : List Bool) : Nat := bits.foldl (crcBit w poly) init

/-- A CRC of width `w` over bytes, most significant bit first. -/
def crcBytes (w poly init : Nat) (bytes : List Nat) : Nat := crcBits w poly init (bytes.flatMap bitsOfByte)

/-- CRC-16 of stitches, service slots and float frames (R183, Table 7.6). -/
def crc16Bits (bits : List Bool) : Nat := crcBits 16 0x1021 0xFFFF bits
def crc16 (bytes : List Nat) : Nat := crcBytes 16 0x1021 0xFFFF bytes

/-- CRC-8 of the row header (R180). -/
def crc8Header (bits : List Bool) : Nat := crcBits 8 0x07 0 bits

/-- CRC-8 of SPI frames (R257). -/
def crc8Spi (bytes : List Nat) : Nat := crcBytes 8 0x2F 0xFF bytes ^^^ 0xFF

/-- One bit of the reflected CRC-32. -/
def crc32Step (crc : Nat) : Nat := if crc.testBit 0 then (crc / 2) ^^^ 0xEDB88320 else crc / 2

/-- CRC-32 (IEEE 802.3) of bytes (R396, Table 5.7). -/
def crc32 (bytes : List Nat) : Nat :=
  bytes.foldl (fun c b => crc32Step (crc32Step (crc32Step (crc32Step (crc32Step (crc32Step (crc32Step
    (crc32Step (c ^^^ (b % 256)))))))))) 0xFFFFFFFF ^^^ 0xFFFFFFFF

/-- The 32-bit signature of words (R416): a multiple-input register with feedback polynomial 0x04C1_1DB7, from all ones. -/
def misr (words : List Nat) : Nat := words.foldl (fun s w => crcBit 32 0x04C11DB7 s false ^^^ (w % 2 ^ 32)) 0xFFFFFFFF

/-- Element `n` of a list of numbers, 0 beyond its end. -/
def nth (l : List Nat) (n : Nat) : Nat := l.getD n 0

/-- Element `n` of a list of integers, 0 beyond its end. -/
def nthInt (l : List Int) (n : Nat) : Int := l.getD n 0

/-- A list with element `n` replaced. -/
def setNth {α : Type} : List α → Nat → α → List α
  | [], _, _ => []
  | _ :: t, 0, v => v :: t
  | h :: t, n + 1, v => h :: setNth t n v

/-- Insertion into a list ordered by `le`, after its equals. -/
def insertBy {α : Type} (le : α → α → Bool) (v : α) : List α → List α
  | [] => [v]
  | h :: t => if le h v then h :: insertBy le v t else v :: h :: t

/-- A stable sort. -/
def sortBy {α : Type} (le : α → α → Bool) (l : List α) : List α := l.foldl (fun acc v => insertBy le v acc) []

/-- The number whose bits are those of the list. -/
def maskOf (bits : List Nat) : Nat := bits.foldl (fun m b => withBit m b true) 0

/-- The cell numbers 1 to n. -/
def upTo : Nat → List Nat
  | 0 => []
  | n + 1 => upTo n ++ [n + 1]

end Sys2Proof.Machine
end

