-- ==== Sys2Proof/Config.lean ====
section
/-! DEFINITION. What the manual leaves open. Every constant here is opaque: it has no body, so nothing that is proved of the
machine rests on a value of it. A function of `Nat` is applied to the free-value counter of the state, which every use
advances. -/

namespace Sys2Proof.Config

/-- A 32-bit result that the manual states no value for, at the nth use. -/
opaque freeWord : Nat → BitVec 32

/-- A 64-bit value that the manual states no value for, at the nth use. -/
opaque freeLong : Nat → BitVec 64

/-- A choice between two allowed behaviours, at the nth use (a write whose handshake timed out may or may not have taken
effect, R25). -/
opaque freeBool : Nat → Bool

/-- A byte whose layout or content the manual does not publish, at the nth use. -/
opaque freeByte : Nat → BitVec 8

/-- The next output of the fourth-order corner filter of a code 0 to 3 (R91 gives its corner and its delay, no coefficients):
from its last four inputs and its last four outputs, newest first, and its present input. Away from rest, where the output
is the input. -/
opaque cornerFilter : Nat → List Int → List Int → Int → BitVec 64

/-- The output of the copy of the decimator response (R150, R159; the FIR's coefficients are not given) over its last 25
inputs, newest first. Away from rest, where the output is the input. -/
opaque decimatorCopy : List Int → BitVec 64

/-- Byte `i` of the payload rows of a slot that holds an image, from its objects and its strings (R396; the coding of a payload
is not published). -/
opaque imageByte : List (Nat × Int) → List (Nat × List Nat) → Nat → BitVec 8

/-- The payload length of an image (R396). -/
opaque imageSize : List (Nat × Int) → List (Nat × List Nat) → Nat

/-- Word `w` of a row of FRAM page 0 that a commit has written (R393, R397; the layout of the journal row and of the rows of
the store generation is not published), from the journal row (page, first row, row count, sequence) and the store generation. -/
opaque systemWord : Option (Nat × Nat × Nat × Nat) → Nat → Nat → BitVec 32

/-- Word `w` of FRAM page 57 (Table 15.1; its layout is not published), from the entry count, the program intent and the void
list. -/
opaque logStateWord : Nat → Option (Nat × Nat × Nat) → List (Nat × Nat) → Nat → BitVec 32

/-- The FRAM row of an object of pages 0 and 57 within its page (not published): 0 and 6 the two rows of the store generation,
1 the entry count, 2 the program intent, 3 the first row of the signature table, 4 the journal row, 5 the void list. -/
opaque systemRow : Nat → Nat

/-- The virtual page at which the link receiver addresses the row ring, where its page table holds entries (not published). -/
opaque ringPage : BitVec 10

/-- The bootstrap undervoltage threshold of the part in mV above its minimum of 6.5 V (Table 16.11 gives a range up to 7.5 V). -/
opaque bootstrapStep : BitVec 10

/-- DeviceSerial (0x1000.05): unique per device, no value in the manual. -/
opaque deviceSerial : BitVec 64

/-- Whether the part is of grade A (GradeCode 0x41) or grade I (0x49), R8. -/
opaque gradeA : Bool

/-- FirmwareVersion (0x1000.06) bits [23:0]: they identify the ROM build and are not fixed by the manual. -/
opaque firmwareBuild : BitVec 24

/-- Offset of channel `c` (0 to 25) in the factory gauge set `set` (0 to 2): trim store contents, not published (R132). -/
opaque factoryOffset : Nat → Nat → BitVec 13

/-- Gain of channel `c` (0 to 25) in the factory gauge set `set`, as its distance from 1.0 in Q2.30. -/
opaque factoryGain : Nat → Nat → BitVec 25

end Sys2Proof.Config
end

