-- ==== Sys2Proof/Machine/Tab.lean ====
section
/-! DEFINITION. The register file: a table of register values in ascending key order that lists a register only while it
differs from its default, so that equal register files are equal data. -/

namespace Sys2Proof.Machine

/-- Values by key, keys strictly rising. -/
abbrev Tab := List (Nat × Int)

/-- A register: its dictionary key (index × 256 + subindex) and the default its table states. -/
structure Reg where
  key : Nat
  dflt : Int
  deriving DecidableEq, Repr

/-- The value listed under a key. -/
def Tab.find (q : Nat) : Tab → Option Int
  | [] => none
  | (k, v) :: t => if k = q then some v else Tab.find q t

/-- The table with one value listed under `q`. -/
def Tab.put (q : Nat) (v : Int) : Tab → Tab
  | [] => [(q, v)]
  | (k, w) :: t => if q < k then (q, v) :: (k, w) :: t else if k = q then (q, v) :: t else (k, w) :: Tab.put q v t

/-- The table without the keys that satisfy `p`. -/
def Tab.dropIf (p : Nat → Bool) : Tab → Tab
  | [] => []
  | (k, v) :: t => if p k then Tab.dropIf p t else (k, v) :: Tab.dropIf p t

/-- The table with every entry of `src` written over it. -/
def Tab.merge (src : Tab) (dst : Tab) : Tab := src.foldl (fun t e => Tab.put e.1 e.2 t) dst

/-- The value of a register in a table. -/
def Tab.val (t : Tab) (r : Reg) : Int := (Tab.find r.key t).getD r.dflt

/-- Write a register in a table; the default is not listed. -/
def Tab.assign (t : Tab) (r : Reg) (v : Int) : Tab :=
  if v = r.dflt then Tab.dropIf (fun k => k == r.key) t else Tab.put r.key v t

/-- Keys strictly rising. -/
def Tab.rising : Tab → Bool
  | [] => true
  | [_] => true
  | a :: b :: t => a.1 < b.1 && Tab.rising (b :: t)

end Sys2Proof.Machine
end

