-- ==== Sys2Proof/Machine/Regs.lean ====
section
/-! DEFINITION. The registers of the manual's object tables: each under its name, with its dictionary key and the default
its table states (0 where the table states none: assumption 3). A table row that repeats over a stride takes the number
of the instance. -/

namespace Sys2Proof.Machine

/-- Source, enable, priority and routing defaults of Tables 11.5, 12.6 and 13.4. -/
def eventDefaultsLow : List (Nat × Nat × Nat × Nat) :=
  [ (64, 1, 3, 0x0D),
    (65, 1, 2, 0x0D),
    (66, 0, 1, 0x08),
    (67, 1, 2, 0x0D),
    (68, 1, 1, 0x0D),
    (69, 1, 1, 0x0D),
    (70, 1, 2, 0x0D),
    (71, 1, 3, 0x0D),
    (72, 1, 3, 0x0D),
    (73, 1, 2, 0x0D),
    (74, 0, 1, 0x08),
    (75, 1, 1, 0x0D),
    (76, 1, 1, 0x08),
    (77, 1, 2, 0x0D),
    (78, 1, 1, 0x08),
    (79, 1, 1, 0x0D),
    (80, 0, 0, 0x08),
    (81, 1, 1, 0x0D),
    (82, 1, 3, 0x0D),
    (83, 1, 1, 0x0D),
    (84, 1, 2, 0x0D),
    (85, 1, 2, 0x0D),
    (86, 0, 0, 0x08),
    (87, 1, 2, 0x0D),
    (88, 1, 1, 0x08),
    (89, 1, 1, 0x0D),
    (90, 0, 0, 0x08),
    (91, 1, 2, 0x0D),
    (92, 1, 2, 0x0D),
    (93, 1, 2, 0x0D),
    (94, 1, 3, 0x0D) ]

/-- Source, enable, priority and routing defaults of Tables 14.4 and 15.4. -/
def eventDefaultsHigh : List (Nat × Nat × Nat × Nat) :=
  [ (95, 1, 3, 0x0D),
    (96, 1, 3, 0x0F),
    (97, 1, 3, 0x0F),
    (98, 1, 3, 0x0F),
    (99, 1, 3, 0x0F),
    (100, 1, 1, 0x08),
    (101, 1, 1, 0x08),
    (102, 1, 2, 0x0D),
    (103, 1, 1, 0x08),
    (104, 1, 3, 0x0D),
    (105, 1, 3, 0x0F),
    (106, 1, 2, 0x0D),
    (107, 1, 2, 0x0D),
    (108, 1, 1, 0x08),
    (112, 1, 2, 0x0D),
    (113, 1, 2, 0x0D),
    (114, 1, 2, 0x0D),
    (115, 1, 1, 0x0D),
    (116, 1, 2, 0x05),
    (117, 1, 1, 0x05),
    (118, 1, 1, 0x0D),
    (119, 1, 2, 0x0D),
    (120, 1, 3, 0x0D),
    (121, 1, 3, 0x0D),
    (122, 1, 3, 0x0D),
    (123, 1, 2, 0x0D),
    (124, 1, 3, 0x0D),
    (125, 1, 1, 0x08),
    (126, 0, 0, 0x00) ]

/-- The row of an event source in its chapter's table, for sources 64 to 127. -/
def eventDefault (e : Nat) : Nat × Nat × Nat :=
  match (eventDefaultsLow ++ eventDefaultsHigh).find? (fun r => r.1 == e) with
  | some r => r.2
  | none => (0, 0, 0)

/-- EventEnable default (Table 10.11 and the chapters' tables). -/
def eventEnableDefault (e : Nat) : Int :=
  if e ≤ 13 then 1 else if e < 32 then 0 else if e ≤ 47 then 1 else if e < 64 then 0 else (eventDefault e).1

/-- EventPriority default (Table 10.11 and the chapters' tables). -/
def eventPriorityDefault (e : Nat) : Int :=
  if e == 0 || e == 3 || e == 34 || e == 44 || e == 47 then 3
  else if 21 ≤ e && e ≤ 31 then 0
  else if e < 64 then 1 else (eventDefault e).2.1

/-- EventRouting default (Table 10.11 and the chapters' tables). -/
def eventRoutingDefault (e : Nat) : Int :=
  if e ≤ 13 then 0x0D else if e < 32 then 0 else if e ≤ 47 then 0x0D else if e < 64 then 1 else (eventDefault e).2.2


/-! Registers tabled in chapter 01 of spec/. -/
/-- SnapLatch (0x1A00.01), U8, WO. -/
def Reg.snapLatch : Reg := ⟨0x1A0001, 0⟩
/-- SnapAuto (0x1A00.02), U8, RW. -/
def Reg.snapAuto : Reg := ⟨0x1A0002, 1⟩
/-- SnapReady (0x1A00.03), U8, RO. -/
def Reg.snapReady : Reg := ⟨0x1A0003, 0⟩
/-- SnapSkipped (0x1A00.04), U32, RO. -/
def Reg.snapSkipped : Reg := ⟨0x1A0004, 0⟩
/-- SnapHoldLimit (0x1A00.05), U16, RW. -/
def Reg.snapHoldLimit : Reg := ⟨0x1A0005, 500⟩
/-- IslandTimeouts (0x1A00.06), U32, RO. -/
def Reg.islandTimeouts : Reg := ⟨0x1A0006, 0⟩
/-- IslandRunning (0x1A00.07), U16, RO. -/
def Reg.islandRunning : Reg := ⟨0x1A0007, 0⟩

/-! Registers tabled in chapter 03 of spec/. -/
/-- PowerModeRequest (0x1100.01), U8, WO. -/
def Reg.powerModeRequest : Reg := ⟨0x110001, 0⟩
/-- PowerMode (0x1100.02), U8, RO. -/
def Reg.powerMode : Reg := ⟨0x110002, 0⟩
/-- ResetCause (0x1100.03), U8, RO. -/
def Reg.resetCause : Reg := ⟨0x110003, 0⟩
/-- WakeSource (0x1100.04), U16, RO. -/
def Reg.wakeSource : Reg := ⟨0x110004, 0⟩
/-- WakeEnable (0x1100.05), U16, RW. -/
def Reg.wakeEnable : Reg := ⟨0x110005, 511⟩
/-- StartupState (0x1100.06), U8, RO. -/
def Reg.startupState : Reg := ⟨0x110006, 1⟩
/-- StartupControl (0x1100.07), U8, RWC. -/
def Reg.startupControl : Reg := ⟨0x110007, 3⟩
/-- SupplyStatus (0x1100.08), U16, RO. -/
def Reg.supplyStatus : Reg := ⟨0x110008, 0⟩
/-- SoftReset (0x1100.09), U32, WO. -/
def Reg.softReset : Reg := ⟨0x110009, 0⟩
/-- StartupTime (0x1100.0A), U32, RO. -/
def Reg.startupTime : Reg := ⟨0x11000A, 0⟩
/-- CrystalTimeout (0x1100.0B), U16, RW. -/
def Reg.crystalTimeout : Reg := ⟨0x11000B, 1000⟩
/-- DeviceSerial (0x1000.05), U64, CONST. -/
def Reg.deviceSerial : Reg := ⟨0x100005, 0⟩
/-- MonPowerMode (0x2F00.01), U8, RO. -/
def Reg.monPowerMode : Reg := ⟨0x2F0001, 0⟩
/-- MonResetCause (0x2F00.02), U8, RO. -/
def Reg.monResetCause : Reg := ⟨0x2F0002, 0⟩
/-- RowLossSleep (0x2F00.03), U16, RW. -/
def Reg.rowLossSleep : Reg := ⟨0x2F0003, 5000⟩
/-- FieldConfigState (0x2F00.04), U8, RO. -/
def Reg.fieldConfigState : Reg := ⟨0x2F0004, 0⟩

/-! Registers tabled in chapter 04 of spec/. -/
/-- CellCount (0x2000.01), U8, RWS. -/
def Reg.cellCount : Reg := ⟨0x200001, 24⟩
/-- FilterCorner (0x2000.02), U8, RW. -/
def Reg.filterCorner : Reg := ⟨0x200002, 2⟩
/-- FilterInForce (0x2000.03), U8, RO. -/
def Reg.filterInForce : Reg := ⟨0x200003, 2⟩
/-- StreamRate (0x2000.04), U8, RW. -/
def Reg.streamRate : Reg := ⟨0x200004, 0⟩
/-- StreamRateInForce (0x2000.05), U8, RO. -/
def Reg.streamRateInForce : Reg := ⟨0x200005, 0⟩
/-- ChannelSettling (0x2000.06), U32, RO. -/
def Reg.channelSettling : Reg := ⟨0x200006, 0⟩
/-- OverRangeCount (0x2000.07), U32, RO. -/
def Reg.overRangeCount : Reg := ⟨0x200007, 0⟩
/-- CellVoltage (0x3001–0x3018.01), I32, RO. -/
def Reg.cellVoltage (k : Nat) : Reg := ⟨0x300101 + (k - 1) * 256, 0⟩
/-- CellVoltageUncorrected (0x3001–0x3018.02), I32, RO. -/
def Reg.cellVoltageUncorrected (k : Nat) : Reg := ⟨0x300102 + (k - 1) * 256, 0⟩
/-- CellStatus (0x3001–0x3018.03), U8, RO. -/
def Reg.cellStatus (k : Nat) : Reg := ⟨0x300103 + (k - 1) * 256, 0⟩
/-- CurrentSample (0x2011–0x2012.01), I32, RO. -/
def Reg.currentSample (x : Nat) : Reg := ⟨0x201101 + (x - 1) * 256, 0⟩
/-- Current (0x2011–0x2012.02), I32, RO. -/
def Reg.current (x : Nat) : Reg := ⟨0x201102 + (x - 1) * 256, 0⟩
/-- ShuntResistance (0x2011–0x2012.03), U32, RWC. -/
def Reg.shuntResistance (x : Nat) : Reg := ⟨0x201103 + (x - 1) * 256, 100000⟩
/-- ShuntPolarity (0x2011–0x2012.04), BOOL, RWC. -/
def Reg.shuntPolarity (x : Nat) : Reg := ⟨0x201104 + (x - 1) * 256, 0⟩
/-- CurrentEnable (0x2011–0x2012.05), BOOL, RWC. -/
def Reg.currentEnable (x : Nat) : Reg := ⟨0x201105 + (x - 1) * 256, 1⟩
/-- CurrentStatus (0x2011–0x2012.06), U8, RO. -/
def Reg.currentStatus (x : Nat) : Reg := ⟨0x201106 + (x - 1) * 256, 0⟩
/-- AuxMode (0x2020.01), U8, RW. -/
def Reg.auxMode : Reg := ⟨0x202001, 0⟩
/-- AuxRefA (0x2020.02), U8, RW. -/
def Reg.auxRefA : Reg := ⟨0x202002, 2⟩
/-- AuxRefB (0x2020.03), U8, RW. -/
def Reg.auxRefB : Reg := ⟨0x202003, 2⟩
/-- AuxRefSettled (0x2020.04), U8, RO. -/
def Reg.auxRefSettled : Reg := ⟨0x202004, 0⟩
/-- AuxPace (0x2020.05), U16, RW. -/
def Reg.auxPace : Reg := ⟨0x202005, 8000⟩
/-- AuxStart (0x2020.06), U8, WO. -/
def Reg.auxStart : Reg := ⟨0x202006, 0⟩
/-- AuxUrgent (0x2020.07), U8, WO. -/
def Reg.auxUrgent : Reg := ⟨0x202007, 0⟩
/-- AuxUrgentResult (0x2020.08), U32, RO. -/
def Reg.auxUrgentResult : Reg := ⟨0x202008, 0⟩
/-- RefinNominal (0x2020.09), U32, RW. -/
def Reg.refinNominal : Reg := ⟨0x202009, 2500000⟩
/-- AuxPaceMissed (0x2020.0A), U32, RO. -/
def Reg.auxPaceMissed : Reg := ⟨0x20200A, 0⟩
/-- AinRaw (0x3101–0x3108.01), U16, RO. -/
def Reg.ainRaw (n : Nat) : Reg := ⟨0x310101 + (n - 1) * 256, 0⟩
/-- AinValue (0x3101–0x3108.02), I32, RO. -/
def Reg.ainValue (n : Nat) : Reg := ⟨0x310102 + (n - 1) * 256, 0⟩
/-- AinTemperature (0x3101–0x3108.03), I16, RO. -/
def Reg.ainTemperature (n : Nat) : Reg := ⟨0x310103 + (n - 1) * 256, -32768⟩
/-- AinStatus (0x3101–0x3108.04), U8, RO. -/
def Reg.ainStatus (n : Nat) : Reg := ⟨0x310104 + (n - 1) * 256, 2⟩
/-- AinConfig (0x3101–0x3108.05), U16, RW. -/
def Reg.ainConfig (n : Nat) : Reg := ⟨0x310105 + (n - 1) * 256, 1793⟩
/-- AinPull (0x3101–0x3108.06), U8, RW. -/
def Reg.ainPull (n : Nat) : Reg := ⟨0x310106 + (n - 1) * 256, 0⟩
/-- AinDivider (0x3101–0x3108.07), U32, RW. -/
def Reg.ainDivider (n : Nat) : Reg := ⟨0x310107 + (n - 1) * 256, 1000⟩
/-- NtcNominal (0x3101–0x3108.08), U32, RW. -/
def Reg.ntcNominal (n : Nat) : Reg := ⟨0x310108 + (n - 1) * 256, 10000⟩
/-- NtcBeta (0x3101–0x3108.09), U16, RW. -/
def Reg.ntcBeta (n : Nat) : Reg := ⟨0x310109 + (n - 1) * 256, 3435⟩
/-- NtcBias (0x3101–0x3108.0A), U32, RW. -/
def Reg.ntcBias (n : Nat) : Reg := ⟨0x31010A + (n - 1) * 256, 10000⟩
/-- SelfCalCommand (0x2030.01), U8, WO. -/
def Reg.selfCalCommand : Reg := ⟨0x203001, 0⟩
/-- SelfCalState (0x2030.02), U8, RO. -/
def Reg.selfCalState : Reg := ⟨0x203002, 0⟩
/-- AuxOffsetA (0x2030.03), I16, RO. -/
def Reg.auxOffsetA : Reg := ⟨0x203003, 0⟩
/-- AuxGainA (0x2030.04), U32, RO. -/
def Reg.auxGainA : Reg := ⟨0x203004, 1073741824⟩
/-- AuxOffsetB (0x2030.05), I16, RO. -/
def Reg.auxOffsetB : Reg := ⟨0x203005, 0⟩
/-- AuxGainB (0x2030.06), U32, RO. -/
def Reg.auxGainB : Reg := ⟨0x203006, 1073741824⟩
/-- BufferMode (0x2040.01), U8, RW. -/
def Reg.bufferMode : Reg := ⟨0x204001, 0⟩
/-- BufferTrigger (0x2040.02), U8, RW. -/
def Reg.bufferTrigger : Reg := ⟨0x204002, 1⟩
/-- BufferPostFrames (0x2040.03), U16, RW. -/
def Reg.bufferPostFrames : Reg := ⟨0x204003, 606⟩
/-- BufferCommand (0x2040.04), U8, WO. -/
def Reg.bufferCommand : Reg := ⟨0x204004, 0⟩
/-- BufferState (0x2040.05), U8, RO. -/
def Reg.bufferState : Reg := ⟨0x204005, 0⟩
/-- BufferFirstFrame (0x2040.06), U16, RO. -/
def Reg.bufferFirstFrame : Reg := ⟨0x204006, 0⟩
/-- BufferTriggerRow (0x2040.07), U32, RO. -/
def Reg.bufferTriggerRow : Reg := ⟨0x204007, 0⟩
/-- BufferData (0x2040.08), DOMAIN, RO. -/
def Reg.bufferData : Reg := ⟨0x204008, 0⟩

/-! Registers tabled in chapter 05 of spec/. -/
/-- CheckEnable (0x2050.01), BOOL, RWS. -/
def Reg.checkEnable : Reg := ⟨0x205001, 1⟩
/-- CheckThreshold (0x2050.02), U16, RWS. -/
def Reg.checkThreshold : Reg := ⟨0x205002, 15⟩
/-- CheckConfirm (0x2050.03), U8, RWS. -/
def Reg.checkConfirm : Reg := ⟨0x205003, 1⟩
/-- CheckMismatchLatched (0x2050.04), U32, RO. -/
def Reg.checkMismatchLatched : Reg := ⟨0x205004, 0⟩
/-- CheckMismatchCount (0x2050.05), U32, RO. -/
def Reg.checkMismatchCount : Reg := ⟨0x205005, 0⟩
/-- CheckSkipped (0x2050.06), U32, RO. -/
def Reg.checkSkipped : Reg := ⟨0x205006, 0⟩
/-- StackCheckVoltage (0x2050.07), U32, RO. -/
def Reg.stackCheckVoltage : Reg := ⟨0x205007, 0⟩
/-- StackMismatchThreshold (0x2050.08), U16, RWS. -/
def Reg.stackMismatchThreshold : Reg := ⟨0x205008, 500⟩
/-- StackSumDifference (0x2050.09), I32, RO. -/
def Reg.stackSumDifference : Reg := ⟨0x205009, 0⟩
/-- CheckSarStatus (0x2050.0A), U8, RO. -/
def Reg.checkSarStatus : Reg := ⟨0x20500A, 0⟩
/-- CheckVoltage (0x3001–0x3018.04), I32, RO. -/
def Reg.checkVoltage (k : Nat) : Reg := ⟨0x300104 + (k - 1) * 256, 0⟩
/-- CheckDifference (0x3001–0x3018.05), I32, RO. -/
def Reg.checkDifference (k : Nat) : Reg := ⟨0x300105 + (k - 1) * 256, 0⟩
/-- OvCode (0x2060.01), U8, RWS. -/
def Reg.ovCode : Reg := ⟨0x206001, 225⟩
/-- UvCode (0x2060.02), U8, RWS. -/
def Reg.uvCode : Reg := ⟨0x206002, 150⟩
/-- OvUvDeglitch (0x2060.03), U8, RWS. -/
def Reg.ovUvDeglitch : Reg := ⟨0x206003, 3⟩
/-- OvLive (0x2060.04), U32, RO. -/
def Reg.ovLive : Reg := ⟨0x206004, 0⟩
/-- UvLive (0x2060.05), U32, RO. -/
def Reg.uvLive : Reg := ⟨0x206005, 0⟩
/-- OvLatched (0x2060.06), U32, RO. -/
def Reg.ovLatched : Reg := ⟨0x206006, 0⟩
/-- UvLatched (0x2060.07), U32, RO. -/
def Reg.uvLatched : Reg := ⟨0x206007, 0⟩
/-- ComparatorTest (0x2060.08), U8, WO. -/
def Reg.comparatorTest : Reg := ⟨0x206008, 0⟩
/-- ComparatorTestResult (0x2060.09), U32, RO. -/
def Reg.comparatorTestResult : Reg := ⟨0x206009, 0⟩
/-- OpenWireInterval (0x2070.01), U16, RWS. -/
def Reg.openWireInterval : Reg := ⟨0x207001, 60⟩
/-- OpenWireThreshold (0x2070.02), U16, RWS. -/
def Reg.openWireThreshold : Reg := ⟨0x207002, 100⟩
/-- OpenWireCommand (0x2070.03), U8, WO. -/
def Reg.openWireCommand : Reg := ⟨0x207003, 0⟩
/-- OpenWireState (0x2070.04), U32, RO. -/
def Reg.openWireState : Reg := ⟨0x207004, 0⟩
/-- OpenWireLatched (0x2070.05), U32, RO. -/
def Reg.openWireLatched : Reg := ⟨0x207005, 0⟩
/-- SenseSeriesR (0x2070.06), U16, RWC. -/
def Reg.senseSeriesR : Reg := ⟨0x207006, 100⟩
/-- OpenWireLastPass (0x2070.07), U32, RO. -/
def Reg.openWireLastPass : Reg := ⟨0x207007, 0⟩
/-- LegacyWakeEnable (0x2080.01), BOOL, RW. -/
def Reg.legacyWakeEnable : Reg := ⟨0x208001, 0⟩
/-- LegacyWakePeriod (0x2080.02), U8, RW. -/
def Reg.legacyWakePeriod : Reg := ⟨0x208002, 3⟩
/-- LegacyOvCode (0x2080.03), U16, RW. -/
def Reg.legacyOvCode : Reg := ⟨0x208003, 3482⟩
/-- LegacyUvCode (0x2080.04), U16, RW. -/
def Reg.legacyUvCode : Reg := ⟨0x208004, 2048⟩
/-- LegacyTempHot (0x2080.05), U16, RW. -/
def Reg.legacyTempHot : Reg := ⟨0x208005, 941⟩
/-- LegacyTempCold (0x2080.06), U16, RW. -/
def Reg.legacyTempCold : Reg := ⟨0x208006, 3628⟩
/-- LegacyWakeStatus (0x2080.07), U8, RO. -/
def Reg.legacyWakeStatus : Reg := ⟨0x208007, 0⟩
/-- NtcValidMin (0x2090.01), I16, RW. -/
def Reg.ntcValidMin : Reg := ⟨0x209001, -600⟩
/-- NtcValidMax (0x2090.02), I16, RW. -/
def Reg.ntcValidMax : Reg := ⟨0x209002, 1800⟩
/-- NtcRecoverCount (0x2090.03), U8, RW. -/
def Reg.ntcRecoverCount : Reg := ⟨0x209003, 3⟩
/-- AinTempMax (0x2090.04), I16, RO. -/
def Reg.ainTempMax : Reg := ⟨0x209004, -32768⟩
/-- AinTempMaxInput (0x2090.05), U8, RO. -/
def Reg.ainTempMaxInput : Reg := ⟨0x209005, 0⟩
/-- AinTempMin (0x2090.06), I16, RO. -/
def Reg.ainTempMin : Reg := ⟨0x209006, -32768⟩
/-- AinTempMinInput (0x2090.07), U8, RO. -/
def Reg.ainTempMinInput : Reg := ⟨0x209007, 0⟩
/-- AinOpenInterval (0x2090.08), U8, RW. -/
def Reg.ainOpenInterval : Reg := ⟨0x209008, 0⟩
/-- AinOpenRaw (0x3101–0x3108.0B), U16, RO. -/
def Reg.ainOpenRaw (n : Nat) : Reg := ⟨0x31010B + (n - 1) * 256, 0⟩
/-- GaugeTempInterval (0x20A0.01), U16, RW. -/
def Reg.gaugeTempInterval : Reg := ⟨0x20A001, 10⟩
/-- GaugeTempInForce (0x20A0.02), I16, RO. -/
def Reg.gaugeTempInForce : Reg := ⟨0x20A002, 250⟩
/-- GaugeSetsInUse (0x20A0.03), U16, RO. -/
def Reg.gaugeSetsInUse : Reg := ⟨0x20A003, 7⟩
/-- GaugeApplyCount (0x20A0.04), U32, RO. -/
def Reg.gaugeApplyCount : Reg := ⟨0x20A004, 0⟩
/-- GaugeFactory1–3 (0x20A1–0x20A3.01), DOMAIN, CONST. -/
def Reg.gaugeFactory (g : Nat) : Reg := ⟨0x20A101 + (g - 1) * 256, 0⟩
/-- GaugeField1–6 (0x20B1–0x20B6.01), DOMAIN, RWC. -/
def Reg.gaugeField (g : Nat) : Reg := ⟨0x20B101 + (g - 1) * 256, 0⟩
/-- GaugeFieldValid (0x20B1–0x20B6.02), BOOL, RWC. -/
def Reg.gaugeFieldValid (g : Nat) : Reg := ⟨0x20B102 + (g - 1) * 256, 0⟩

/-! Registers tabled in chapter 06 of spec/. -/
/-- BalCurrent (0x3001–0x3018.06), U16, RO. -/
def Reg.balCurrent (k : Nat) : Reg := ⟨0x300106 + (k - 1) * 256, 0⟩
/-- BalState (0x3001–0x3018.07), U8, RO. -/
def Reg.balState (k : Nat) : Reg := ⟨0x300107 + (k - 1) * 256, 0⟩
/-- BalRequest (0x3400.01), U32, RW. -/
def Reg.balRequest : Reg := ⟨0x340001, 0⟩
/-- BalActive (0x3400.02), U32, RO. -/
def Reg.balActive : Reg := ⟨0x340002, 0⟩
/-- BalHold (0x3400.03), U16, RW. -/
def Reg.balHold : Reg := ⟨0x340003, 60⟩
/-- BalMode (0x3400.04), U8, RW. -/
def Reg.balMode : Reg := ⟨0x340004, 0⟩
/-- BalModeInForce (0x3400.05), U8, RO. -/
def Reg.balModeInForce : Reg := ⟨0x340005, 0⟩
/-- BalMinCell (0x3400.06), U16, RW. -/
def Reg.balMinCell : Reg := ⟨0x340006, 3000⟩
/-- BalPowerLimit (0x3400.07), U16, RW. -/
def Reg.balPowerLimit : Reg := ⟨0x340007, 1200⟩
/-- BalPowerEstimate (0x3400.08), U16, RO. -/
def Reg.balPowerEstimate : Reg := ⟨0x340008, 0⟩
/-- BalDuty (0x3400.09), U8, RO. -/
def Reg.balDuty : Reg := ⟨0x340009, 16⟩
/-- BalTempLimit (0x3400.0A), I16, RW. -/
def Reg.balTempLimit : Reg := ⟨0x34000A, 1100⟩
/-- BalFaultLatched (0x3400.0B), U32, RO. -/
def Reg.balFaultLatched : Reg := ⟨0x34000B, 0⟩
/-- BalHeld (0x3400.0C), BOOL, RO. -/
def Reg.balHeld : Reg := ⟨0x34000C, 0⟩
/-- BalThrottleCount (0x3400.0D), U32, RO. -/
def Reg.balThrottleCount : Reg := ⟨0x34000D, 0⟩
/-- WireGaugeCommand (0x3410.01), U8, WO. -/
def Reg.wireGaugeCommand : Reg := ⟨0x341001, 0⟩
/-- WireGaugeState (0x3410.02), U8, RO. -/
def Reg.wireGaugeState : Reg := ⟨0x341002, 0⟩
/-- WireGaugeFailCell (0x3410.03), U8, RO. -/
def Reg.wireGaugeFailCell : Reg := ⟨0x341003, 0⟩
/-- WireRup (0x3411.01–.19), U32, RO. -/
def Reg.wireRup (w : Nat) : Reg := ⟨0x341101 + w, 0⟩
/-- WireRdown (0x3412.01–.19), U32, RO. -/
def Reg.wireRdown (w : Nat) : Reg := ⟨0x341201 + w, 0⟩
/-- WireCellR (0x3413.01–.18), U32, RO. -/
def Reg.wireCellR (k : Nat) : Reg := ⟨0x341301 + (k - 1), 0⟩
/-- ImpEnable (0x3440.01), U8, RW. -/
def Reg.impEnable : Reg := ⟨0x344001, 0⟩
/-- ImpCommand (0x3440.02), U8, WO. -/
def Reg.impCommand : Reg := ⟨0x344002, 0⟩
/-- ImpSource (0x3440.03), U8, RW. -/
def Reg.impSource : Reg := ⟨0x344003, 0⟩
/-- ImpShunt (0x3440.04), U8, RW. -/
def Reg.impShunt : Reg := ⟨0x344004, 0⟩
/-- ImpWindow (0x3440.05), U8, RW. -/
def Reg.impWindow : Reg := ⟨0x344005, 16⟩
/-- ImpCells (0x3440.06), U32, RW. -/
def Reg.impCells : Reg := ⟨0x344006, 16777215⟩
/-- ImpState (0x3440.07), U8, RO. -/
def Reg.impState : Reg := ⟨0x344007, 0⟩
/-- ImpRunCount (0x3440.08), U32, RO. -/
def Reg.impRunCount : Reg := ⟨0x344008, 0⟩
/-- ImpToneFreq (0x3441.01–.08), U16, RW. -/
def Reg.impToneFreq (t : Nat) : Reg := ⟨0x344101 + (t - 1), match t with | 1 => 4 | 2 => 8 | 3 => 16 | 4 => 40 | 5 => 80 | 6 => 400 | 7 => 1600 | 8 => 8000 | _ => 0⟩
/-- ImpToneAmp (0x3442.01–.08), U16, RW. -/
def Reg.impToneAmp (t : Nat) : Reg := ⟨0x344201 + (t - 1), 64⟩
/-- ImpReal (0x3501–0x3518.01–.08), I32, RO. -/
def Reg.impReal (k t : Nat) : Reg := ⟨0x350101 + (k - 1) * 256 + (t - 1), -2147483648⟩
/-- ImpImag (0x3501–0x3518.09–.10), I32, RO. -/
def Reg.impImag (k t : Nat) : Reg := ⟨0x350109 + (k - 1) * 256 + (t - 1), -2147483648⟩
/-- ImpStatus (0x3501–0x3518.11), U16, RO. -/
def Reg.impStatus (k : Nat) : Reg := ⟨0x350111 + (k - 1) * 256, 0⟩
/-- ImpWindowRow (0x3501–0x3518.12), U32, RO. -/
def Reg.impWindowRow (k : Nat) : Reg := ⟨0x350112 + (k - 1) * 256, 0⟩
/-- ChargeIn (0x3600.01), U64, RO. -/
def Reg.chargeIn : Reg := ⟨0x360001, 0⟩
/-- ChargeOut (0x3600.02), U64, RO. -/
def Reg.chargeOut : Reg := ⟨0x360002, 0⟩
/-- EnergyIn (0x3600.03), U64, RO. -/
def Reg.energyIn : Reg := ⟨0x360003, 0⟩
/-- EnergyOut (0x3600.04), U64, RO. -/
def Reg.energyOut : Reg := ⟨0x360004, 0⟩
/-- CounterStatus (0x3600.05), U32, RO. -/
def Reg.counterStatus : Reg := ⟨0x360005, 32⟩
/-- CounterSource (0x3600.06), U8, RWC. -/
def Reg.counterSource : Reg := ⟨0x360006, 0⟩
/-- CounterClear (0x3600.07), U32, RWC. -/
def Reg.counterClear : Reg := ⟨0x360007, 0⟩
/-- CounterRestore (0x3600.08), DOMAIN, WO. -/
def Reg.counterRestore : Reg := ⟨0x360008, 0⟩
/-- BalanceCharge (0x3610.01–.18), U32, RO. -/
def Reg.balanceCharge (k : Nat) : Reg := ⟨0x361001 + (k - 1), 0⟩
/-- BalanceChargeSaturated (0x3611.01), U32, RO. -/
def Reg.balanceChargeSaturated : Reg := ⟨0x361101, 0⟩
/-- CounterSaveInterval (0x3620.01), U16, RW. -/
def Reg.counterSaveInterval : Reg := ⟨0x362001, 60⟩

/-! Registers tabled in chapter 07 of spec/. -/
/-- LinkRate (0x2E00.01), U8, RW. -/
def Reg.linkRate : Reg := ⟨0x2E0001, 0⟩
/-- LinkRateInForce (0x2E00.02), U8, RO. -/
def Reg.linkRateInForce : Reg := ⟨0x2E0002, 0⟩
/-- UpPort (0x2E00.03), U8, RO. -/
def Reg.upPort : Reg := ⟨0x2E0003, 255⟩
/-- WindowAssignment (0x2E00.04), U32, RO. -/
def Reg.windowAssignment : Reg := ⟨0x2E0004, 520319⟩
/-- CumulativeDelay (0x2E00.05), U32, RO. -/
def Reg.cumulativeDelay : Reg := ⟨0x2E0005, 0⟩
/-- TickAlign (0x2E00.06), U32, RO. -/
def Reg.tickAlign : Reg := ⟨0x2E0006, 1000000⟩
/-- LinkStatus (0x2E00.07), U16, RO. -/
def Reg.linkStatus : Reg := ⟨0x2E0007, 0⟩
/-- StatusNibble (0x2E00.08), U8, RO. -/
def Reg.statusNibble : Reg := ⟨0x2E0008, 0⟩
/-- FloatRate (0x2E00.09), U16, RO. -/
def Reg.floatRate : Reg := ⟨0x2E0009, 0⟩
/-- FloatFrameErrors (0x2E00.0A), U32, RO. -/
def Reg.floatFrameErrors : Reg := ⟨0x2E000A, 0⟩
/-- DelayProbeInterval (0x2E00.0B), U8, RW. -/
def Reg.delayProbeInterval : Reg := ⟨0x2E000B, 1⟩
/-- DelayStepCount (0x2E00.0C), U32, RO. -/
def Reg.delayStepCount : Reg := ⟨0x2E000C, 0⟩
/-- RowNumber (0x2E00.0D), U32, RO. -/
def Reg.rowNumber : Reg := ⟨0x2E000D, 0⟩
/-- PortState (0x2E01–0x2E03.01), U8, RO. -/
def Reg.portState (p : Nat) : Reg := ⟨0x2E0101 + p * 256, 0⟩
/-- EdgeErrors (0x2E01–0x2E03.02), U32, RO. -/
def Reg.edgeErrors (p : Nat) : Reg := ⟨0x2E0102 + p * 256, 0⟩
/-- RowPeriodErrors (0x2E01–0x2E03.03), U32, RO. -/
def Reg.rowPeriodErrors (p : Nat) : Reg := ⟨0x2E0103 + p * 256, 0⟩
/-- HeaderErrors (0x2E01–0x2E03.04), U32, RO. -/
def Reg.headerErrors (p : Nat) : Reg := ⟨0x2E0104 + p * 256, 0⟩
/-- CrcErrors (0x2E01–0x2E03.05), U32, RO. -/
def Reg.crcErrors (p : Nat) : Reg := ⟨0x2E0105 + p * 256, 0⟩
/-- SpoiledReceived (0x2E01–0x2E03.06), U32, RO. -/
def Reg.spoiledReceived (p : Nat) : Reg := ⟨0x2E0106 + p * 256, 0⟩
/-- AlarmStruck (0x2E01–0x2E03.07), U32, RO. -/
def Reg.alarmStruck (p : Nat) : Reg := ⟨0x2E0107 + p * 256, 0⟩
/-- AlarmsReceived (0x2E01–0x2E03.08), U32, RO. -/
def Reg.alarmsReceived (p : Nat) : Reg := ⟨0x2E0108 + p * 256, 0⟩
/-- AlarmsSent (0x2E01–0x2E03.09), U32, RO. -/
def Reg.alarmsSent (p : Nat) : Reg := ⟨0x2E0109 + p * 256, 0⟩
/-- LossOfSignal (0x2E01–0x2E03.0A), U32, RO. -/
def Reg.lossOfSignal (p : Nat) : Reg := ⟨0x2E010A + p * 256, 0⟩
/-- RowsReceived (0x2E01–0x2E03.0B), U32, RO. -/
def Reg.rowsReceived (p : Nat) : Reg := ⟨0x2E010B + p * 256, 0⟩
/-- LineDelay (0x2E01–0x2E03.0C), U32, RO. -/
def Reg.lineDelay (p : Nat) : Reg := ⟨0x2E010C + p * 256, 0⟩
/-- ForwardDelay (0x2E01–0x2E03.0D), U32, RO. -/
def Reg.forwardDelay (p : Nat) : Reg := ⟨0x2E010D + p * 256, 0⟩
/-- MissingStitches (0x2E01–0x2E03.0E), U32, RO. -/
def Reg.missingStitches (p : Nat) : Reg := ⟨0x2E010E + p * 256, 0⟩
/-- WindowErrors (0x2E01–0x2E03.0F), U32, RO. -/
def Reg.windowErrors (p : Nat) : Reg := ⟨0x2E010F + p * 256, 0⟩
/-- StatsClear (0x2E01–0x2E03.10), U8, WO. -/
def Reg.statsClear (p : Nat) : Reg := ⟨0x2E0110 + p * 256, 0⟩

/-! Registers tabled in chapter 08 of spec/. -/
/-- MirrorState (0x6001–0x6FFE.01), U8, RO. -/
def Reg.mirrorState (d : Nat) : Reg := ⟨0x600101 + (d - 1) * 256, 0⟩
/-- MemberSerial (0x6001–0x6FFE.02), U64, RO. -/
def Reg.memberSerial (d : Nat) : Reg := ⟨0x600102 + (d - 1) * 256, 0⟩
/-- MemberUpPort (0x6001–0x6FFE.03), U8, RO. -/
def Reg.memberUpPort (d : Nat) : Reg := ⟨0x600103 + (d - 1) * 256, 255⟩
/-- ParentAddress (0x6001–0x6FFE.04), U16, RO. -/
def Reg.parentAddress (d : Nat) : Reg := ⟨0x600104 + (d - 1) * 256, 0⟩
/-- WalkPosition (0x6001–0x6FFE.05), U16, RO. -/
def Reg.walkPosition (d : Nat) : Reg := ⟨0x600105 + (d - 1) * 256, 0⟩
/-- MemberDelay (0x6001–0x6FFE.06), U32, RO. -/
def Reg.memberDelay (d : Nat) : Reg := ⟨0x600106 + (d - 1) * 256, 0⟩
/-- MemberWindows (0x6001–0x6FFE.07), U32, RO. -/
def Reg.memberWindows (d : Nat) : Reg := ⟨0x600107 + (d - 1) * 256, 520319⟩
/-- ChannelCount (0x6001–0x6FFE.08), U8, RO. -/
def Reg.channelCount (d : Nat) : Reg := ⟨0x600108 + (d - 1) * 256, 0⟩
/-- LastNibble (0x6001–0x6FFE.09), U8, RO. -/
def Reg.lastNibble (d : Nat) : Reg := ⟨0x600109 + (d - 1) * 256, 0⟩
/-- LastStitchRow (0x6001–0x6FFE.0A), U32, RO. -/
def Reg.lastStitchRow (d : Nat) : Reg := ⟨0x60010A + (d - 1) * 256, 0⟩
/-- MissingRows (0x6001–0x6FFE.0B), U32, RO. -/
def Reg.missingRows (d : Nat) : Reg := ⟨0x60010B + (d - 1) * 256, 0⟩
/-- ChannelSet (0x6001–0x6FFE.0C), DOMAIN, RO. -/
def Reg.channelSet (d : Nat) : Reg := ⟨0x60010C + (d - 1) * 256, 0⟩
/-- DiagnosticReport (0x6001–0x6FFE.0D), DOMAIN, RO. -/
def Reg.diagnosticReport (d : Nat) : Reg := ⟨0x60010D + (d - 1) * 256, 0⟩
/-- MemberConfigState (0x6001–0x6FFE.0E), U8, RO. -/
def Reg.memberConfigState (d : Nat) : Reg := ⟨0x60010E + (d - 1) * 256, 0⟩
/-- MemberAbsentCount (0x6001–0x6FFE.0F), U32, RO. -/
def Reg.memberAbsentCount (d : Nat) : Reg := ⟨0x60010F + (d - 1) * 256, 0⟩
/-- Hops (0x6001–0x6FFE.10), U16, RO. -/
def Reg.hops (d : Nat) : Reg := ⟨0x600110 + (d - 1) * 256, 0⟩
/-- ChainCommand (0x6000.01), U8, WO. -/
def Reg.chainCommand : Reg := ⟨0x600001, 0⟩
/-- ChainState (0x6000.02), U8, RO. -/
def Reg.chainState : Reg := ⟨0x600002, 0⟩
/-- Topology (0x6000.03), U8, RO. -/
def Reg.topology : Reg := ⟨0x600003, 0⟩
/-- DeviceCount (0x6000.04), U16, RO. -/
def Reg.deviceCount : Reg := ⟨0x600004, 1⟩
/-- HighestAddress (0x6000.05), U16, RO. -/
def Reg.highestAddress : Reg := ⟨0x600005, 1⟩
/-- HoleCount (0x6000.06), U16, RO. -/
def Reg.holeCount : Reg := ⟨0x600006, 0⟩
/-- AbsentMembers (0x6000.07), U16, RO. -/
def Reg.absentMembers : Reg := ⟨0x600007, 0⟩
/-- LateStitchCount (0x6000.08), U32, RO. -/
def Reg.lateStitchCount : Reg := ⟨0x600008, 0⟩
/-- WalkTime (0x6000.09), U32, RO. -/
def Reg.walkTime : Reg := ⟨0x600009, 0⟩
/-- WalkTimeMax (0x6000.0A), U32, RO. -/
def Reg.walkTimeMax : Reg := ⟨0x60000A, 0⟩
/-- MaxHops (0x6000.0B), U16, RO. -/
def Reg.maxHops : Reg := ⟨0x60000B, 0⟩
/-- WindowsFree (0x6000.0C), U8, RO. -/
def Reg.windowsFree : Reg := ⟨0x60000C, 125⟩
/-- AutoIncremental (0x6000.0D), BOOL, RW. -/
def Reg.autoIncremental : Reg := ⟨0x60000D, 1⟩
/-- AbsentRows (0x6000.0E), U8, RW. -/
def Reg.absentRows : Reg := ⟨0x60000E, 8⟩
/-- ChainFlags (0x6000.0F), U16, RO. -/
def Reg.chainFlags : Reg := ⟨0x60000F, 0⟩
/-- CastOnTime (0x6000.10), U32, RO. -/
def Reg.castOnTime : Reg := ⟨0x600010, 0⟩
/-- RingBreakCount (0x6000.11), U32, RO. -/
def Reg.ringBreakCount : Reg := ⟨0x600011, 0⟩

/-! Registers tabled in chapter 09 of spec/. -/
/-- VendorId (0x1000.01), U32, CONST. -/
def Reg.vendorId : Reg := ⟨0x100001, 1347180098⟩
/-- ProductCode (0x1000.02), U32, CONST. -/
def Reg.productCode : Reg := ⟨0x100002, 24⟩
/-- SiliconRevision (0x1000.03), U8, CONST. -/
def Reg.siliconRevision : Reg := ⟨0x100003, 2⟩
/-- GradeCode (0x1000.04), U8, CONST. -/
def Reg.gradeCode : Reg := ⟨0x100004, 0⟩
/-- FirmwareVersion (0x1000.06), U32, RO. -/
def Reg.firmwareVersion : Reg := ⟨0x100006, 0⟩
/-- DictionaryVersion (0x1000.07), U16, CONST. -/
def Reg.dictionaryVersion : Reg := ⟨0x100007, 256⟩
/-- DeviceName (0x1000.08), VSTR, RW. -/
def Reg.deviceName : Reg := ⟨0x100008, 0⟩
/-- RoleInForce (0x1000.09), U8, RO. -/
def Reg.roleInForce : Reg := ⟨0x100009, 0⟩
/-- CommissioningEnter (0x1200.01), U32, WO. -/
def Reg.commissioningEnter : Reg := ⟨0x120001, 0⟩
/-- CommissioningState (0x1200.02), U8, RO. -/
def Reg.commissioningState : Reg := ⟨0x120002, 0⟩
/-- SafetyUnlock (0x1200.03), U32, WO. -/
def Reg.safetyUnlock : Reg := ⟨0x120003, 0⟩
/-- SafetyUnlockState (0x1200.04), BOOL, RO. -/
def Reg.safetyUnlockState : Reg := ⟨0x120004, 0⟩
/-- CommissioningCode (0x1200.05), U32, WO. -/
def Reg.commissioningCode : Reg := ⟨0x120005, 0⟩
/-- CommissioningTimeout (0x1200.06), U16, RWC. -/
def Reg.commissioningTimeout : Reg := ⟨0x120006, 600⟩
/-- CodeFailures (0x1200.07), U32, RO. -/
def Reg.codeFailures : Reg := ⟨0x120007, 0⟩
/-- ConfigStore (0x1200.08), U8, WO. -/
def Reg.configStore : Reg := ⟨0x120008, 0⟩
/-- ConfigStoreState (0x1200.09), U8, RO. -/
def Reg.configStoreState : Reg := ⟨0x120009, 0⟩
/-- ConfigDefaults (0x1200.0A), U8, WO. -/
def Reg.configDefaults : Reg := ⟨0x12000A, 0⟩
/-- CommissioningExit (0x1200.0B), U8, WO. -/
def Reg.commissioningExit : Reg := ⟨0x12000B, 0⟩
/-- CanEnable (0x1301–0x1302.01), BOOL, RWC. -/
def Reg.canEnable (c : Nat) : Reg := ⟨0x130101 + c * 256, if c = 0 then 1 else 0⟩
/-- NominalRate (0x1301–0x1302.02), U16, RWC. -/
def Reg.nominalRate (c : Nat) : Reg := ⟨0x130102 + c * 256, 500⟩
/-- DataRate (0x1301–0x1302.03), U16, RWC. -/
def Reg.dataRate (c : Nat) : Reg := ⟨0x130103 + c * 256, 2000⟩
/-- NominalSamplePoint (0x1301–0x1302.04), U16, RWC. -/
def Reg.nominalSamplePoint (c : Nat) : Reg := ⟨0x130104 + c * 256, 800⟩
/-- DataSamplePoint (0x1301–0x1302.05), U16, RWC. -/
def Reg.dataSamplePoint (c : Nat) : Reg := ⟨0x130105 + c * 256, 750⟩
/-- ServiceEnable (0x1301–0x1302.06), BOOL, RWC. -/
def Reg.serviceEnable (c : Nat) : Reg := ⟨0x130106 + c * 256, 1⟩
/-- BusState (0x1301–0x1302.07), U8, RO. -/
def Reg.busState (c : Nat) : Reg := ⟨0x130107 + c * 256, 3⟩
/-- TxErrorCount (0x1301–0x1302.08), U8, RO. -/
def Reg.txErrorCount (c : Nat) : Reg := ⟨0x130108 + c * 256, 0⟩
/-- RxErrorCount (0x1301–0x1302.09), U8, RO. -/
def Reg.rxErrorCount (c : Nat) : Reg := ⟨0x130109 + c * 256, 0⟩
/-- BusOffCount (0x1301–0x1302.0A), U32, RO. -/
def Reg.busOffCount (c : Nat) : Reg := ⟨0x13010A + c * 256, 0⟩
/-- FramesIgnored (0x1301–0x1302.0B), U32, RO. -/
def Reg.framesIgnored (c : Nat) : Reg := ⟨0x13010B + c * 256, 0⟩
/-- NodeId (0x1400.01), U8, RWC. -/
def Reg.nodeId : Reg := ⟨0x140001, 1⟩
/-- RequestIdBase (0x1400.02), U32, RWC. -/
def Reg.requestIdBase : Reg := ⟨0x140002, 1600⟩
/-- ResponseIdBase (0x1400.03), U32, RWC. -/
def Reg.responseIdBase : Reg := ⟨0x140003, 1728⟩
/-- EmergencyIdBase (0x1400.04), U32, RWC. -/
def Reg.emergencyIdBase : Reg := ⟨0x140004, 128⟩
/-- ServiceTimeout (0x1400.05), U16, RW. -/
def Reg.serviceTimeout : Reg := ⟨0x140005, 1000⟩
/-- RequestsServed (0x1400.06), U32, RO. -/
def Reg.requestsServed : Reg := ⟨0x140006, 0⟩
/-- AbortsSent (0x1400.07), U32, RO. -/
def Reg.abortsSent : Reg := ⟨0x140007, 0⟩
/-- LastAbort (0x1400.08), U32, RO. -/
def Reg.lastAbort : Reg := ⟨0x140008, 0⟩
/-- RequestsDiscarded (0x1400.09), U32, RO. -/
def Reg.requestsDiscarded : Reg := ⟨0x140009, 0⟩
/-- PubMode (0x1501–0x1540.01), U8, RW. -/
def Reg.pubMode (p : Nat) : Reg := ⟨0x150101 + (p - 1) * 256, 0⟩
/-- PubController (0x1501–0x1540.02), U8, RW. -/
def Reg.pubController (p : Nat) : Reg := ⟨0x150102 + (p - 1) * 256, 0⟩
/-- PubIdentifier (0x1501–0x1540.03), U32, RW. -/
def Reg.pubIdentifier (p : Nat) : Reg := ⟨0x150103 + (p - 1) * 256, 0x200 + p⟩
/-- PubPeriod (0x1501–0x1540.04), U16, RW. -/
def Reg.pubPeriod (p : Nat) : Reg := ⟨0x150104 + (p - 1) * 256, 100⟩
/-- PubGroup (0x1501–0x1540.05), U8, RW. -/
def Reg.pubGroup (p : Nat) : Reg := ⟨0x150105 + (p - 1) * 256, 0⟩
/-- PubDivider (0x1501–0x1540.06), U16, RW. -/
def Reg.pubDivider (p : Nat) : Reg := ⟨0x150106 + (p - 1) * 256, 1⟩
/-- PubEntries (0x1501–0x1540.07), U8, RW. -/
def Reg.pubEntries (p : Nat) : Reg := ⟨0x150107 + (p - 1) * 256, 0⟩
/-- PubFormat (0x1501–0x1540.08), U8, RW. -/
def Reg.pubFormat (p : Nat) : Reg := ⟨0x150108 + (p - 1) * 256, 1⟩
/-- PubOverruns (0x1501–0x1540.09), U32, RO. -/
def Reg.pubOverruns (p : Nat) : Reg := ⟨0x150109 + (p - 1) * 256, 0⟩
/-- PubMap1–16 (0x1501–0x1540.0A–.19), U32, RW. -/
def Reg.pubMap (p i : Nat) : Reg := ⟨0x15010A + (p - 1) * 256 + (i - 1), 0⟩
/-- SpiEnable (0x1700.01), BOOL, RWC. -/
def Reg.spiEnable : Reg := ⟨0x170001, 1⟩
/-- SpiServiceEnable (0x1700.02), BOOL, RWC. -/
def Reg.spiServiceEnable : Reg := ⟨0x170002, 1⟩
/-- SpiWindowEnable (0x1700.03), BOOL, RWC. -/
def Reg.spiWindowEnable : Reg := ⟨0x170003, 0⟩
/-- SpiCrcErrors (0x1700.04), U32, RO. -/
def Reg.spiCrcErrors : Reg := ⟨0x170004, 0⟩
/-- SpiRefused (0x1700.05), U32, RO. -/
def Reg.spiRefused : Reg := ⟨0x170005, 0⟩
/-- SpiFramesAccepted (0x1700.06), U32, RO. -/
def Reg.spiFramesAccepted : Reg := ⟨0x170006, 0⟩
/-- FloatRetries (0x1800.01), U8, RW. -/
def Reg.floatRetries : Reg := ⟨0x180001, 2⟩
/-- FloatTimeoutExtra (0x1800.02), U16, RW. -/
def Reg.floatTimeoutExtra : Reg := ⟨0x180002, 50⟩
/-- MemberRequestsWaiting (0x1800.03), U8, RO. -/
def Reg.memberRequestsWaiting : Reg := ⟨0x180003, 0⟩
/-- MemberTimeouts (0x1800.04), U32, RO. -/
def Reg.memberTimeouts : Reg := ⟨0x180004, 0⟩
/-- MemberNoResponse (0x1800.05), U32, RO. -/
def Reg.memberNoResponse : Reg := ⟨0x180005, 0⟩

/-! Registers tabled in chapter 10 of spec/. -/
/-- LockstepStatus (0x8000.01), U8, RO. -/
def Reg.lockstepStatus : Reg := ⟨0x800001, 0⟩
/-- SramCorrected (0x8000.02), U32, RO. -/
def Reg.sramCorrected : Reg := ⟨0x800002, 0⟩
/-- SramUncorrectable (0x8000.03), U32, RO. -/
def Reg.sramUncorrectable : Reg := ⟨0x800003, 0⟩
/-- EventPending0–3 (0x8000.04–.07), U32, RO. -/
def Reg.eventPending (g : Nat) : Reg := ⟨0x800004 + g, 0⟩
/-- IrqThreshold (0x8000.08), U8, RW. -/
def Reg.irqThreshold : Reg := ⟨0x800008, 0⟩
/-- EmergencyDropped (0x8000.09), U32, RO. -/
def Reg.emergencyDropped : Reg := ⟨0x800009, 0⟩
/-- RowRingHead (0x8000.0A), U32, RO. -/
def Reg.rowRingHead : Reg := ⟨0x80000A, 255⟩
/-- RowRingWritten (0x8000.0B), U32, RO. -/
def Reg.rowRingWritten : Reg := ⟨0x80000B, 0⟩
/-- PageTable (0x8010–0x801F.01), DOMAIN, RW. -/
def Reg.pageTable (r : Nat) : Reg := ⟨0x801001 + r * 256, 0⟩
/-- TableLength (0x8010–0x801F.02), U16, RW. -/
def Reg.tableLength (r : Nat) : Reg := ⟨0x801002 + r * 256, 0⟩
/-- RequestorFault (0x8010–0x801F.03), DOMAIN, RO. -/
def Reg.requestorFault (r : Nat) : Reg := ⟨0x801003 + r * 256, 0⟩
/-- FaultCount (0x8010–0x801F.04), U32, RO. -/
def Reg.faultCount (r : Nat) : Reg := ⟨0x801004 + r * 256, 0⟩
/-- TableOwner (0x8010–0x801F.05), U8, CONST. -/
def Reg.tableOwner (r : Nat) : Reg := ⟨0x801005 + r * 256, if r ∈ [5, 6, 7, 8, 11] then 1 else 0⟩
/-- ChannelCommand (0x8020–0x802F.01), U8, WO. -/
def Reg.channelCommand (c : Nat) : Reg := ⟨0x802001 + c * 256, 0⟩
/-- ChannelState (0x8020–0x802F.02), U8, RO. -/
def Reg.channelState (c : Nat) : Reg := ⟨0x802002 + c * 256, 0⟩
/-- FirstDescriptor (0x8020–0x802F.03), U32, RW. -/
def Reg.firstDescriptor (c : Nat) : Reg := ⟨0x802003 + c * 256, 0⟩
/-- ChannelPriority (0x8020–0x802F.04), U8, RW. -/
def Reg.channelPriority (c : Nat) : Reg := ⟨0x802004 + c * 256, 0⟩
/-- CurrentDescriptor (0x8020–0x802F.05), U32, RO. -/
def Reg.currentDescriptor (c : Nat) : Reg := ⟨0x802005 + c * 256, 0⟩
/-- Remaining (0x8020–0x802F.06), U32, RO. -/
def Reg.remaining (c : Nat) : Reg := ⟨0x802006 + c * 256, 0⟩
/-- FaultRecord (0x8020–0x802F.07), DOMAIN, RO. -/
def Reg.faultRecord (c : Nat) : Reg := ⟨0x802007 + c * 256, 0⟩
/-- DescriptorsDone (0x8020–0x802F.08), U32, RO. -/
def Reg.descriptorsDone (c : Nat) : Reg := ⟨0x802008 + c * 256, 0⟩
/-- Preemptions (0x8020–0x802F.09), U32, RO. -/
def Reg.preemptions (c : Nat) : Reg := ⟨0x802009 + c * 256, 0⟩
/-- EventFlag (0x7000–0x707F.01), BOOL, RW. -/
def Reg.eventFlag (e : Nat) : Reg := ⟨0x700001 + e * 256, 0⟩
/-- EventEnable (0x7000–0x707F.02), BOOL, RW. -/
def Reg.eventEnable (e : Nat) : Reg := ⟨0x700002 + e * 256, eventEnableDefault e⟩
/-- EventPriority (0x7000–0x707F.03), U8, RW. -/
def Reg.eventPriority (e : Nat) : Reg := ⟨0x700003 + e * 256, eventPriorityDefault e⟩
/-- EventRouting (0x7000–0x707F.04), U8, RW. -/
def Reg.eventRouting (e : Nat) : Reg := ⟨0x700004 + e * 256, eventRoutingDefault e⟩
/-- EventCount (0x7000–0x707F.05), U32, RO. -/
def Reg.eventCount (e : Nat) : Reg := ⟨0x700005 + e * 256, 0⟩
/-- EventLastRow (0x7000–0x707F.06), U32, RO. -/
def Reg.eventLastRow (e : Nat) : Reg := ⟨0x700006 + e * 256, 0⟩

/-! Registers tabled in chapter 11 of spec/. -/
/-- ConverterState (0x4000.01), U8, RO. -/
def Reg.converterState : Reg := ⟨0x400001, 0⟩
/-- DirectionInForce (0x4000.02), U8, RO. -/
def Reg.directionInForce : Reg := ⟨0x400002, 0⟩
/-- ConverterStatus (0x4000.03), U8, RO. -/
def Reg.converterStatus : Reg := ⟨0x400003, 0⟩
/-- PhaseUsable (0x4000.04), U8, RO. -/
def Reg.phaseUsable : Reg := ⟨0x400004, 63⟩
/-- PhaseActive (0x4000.05), U8, RO. -/
def Reg.phaseActive : Reg := ⟨0x400005, 0⟩
/-- PhaseExcluded (0x4000.06), U8, RO. -/
def Reg.phaseExcluded : Reg := ⟨0x400006, 0⟩
/-- PhaseExcludedClear (0x4000.07), U8, WO. -/
def Reg.phaseExcludedClear : Reg := ⟨0x400007, 0⟩
/-- ShedEnable (0x4000.08), BOOL, RW. -/
def Reg.shedEnable : Reg := ⟨0x400008, 1⟩
/-- AddLevel (0x4000.09), U16, RW. -/
def Reg.addLevel : Reg := ⟨0x400009, 20000⟩
/-- ShedLevel (0x4000.0A), U16, RW. -/
def Reg.shedLevel : Reg := ⟨0x40000A, 12000⟩
/-- ShedDelay (0x4000.0B), U16, RW. -/
def Reg.shedDelay : Reg := ⟨0x40000B, 200⟩
/-- WindowMin (0x4000.0C), U16, RW. -/
def Reg.windowMin : Reg := ⟨0x40000C, 2000⟩
/-- WindowMax (0x4000.0D), U16, RW. -/
def Reg.windowMax : Reg := ⟨0x40000D, 12000⟩
/-- FreqLow (0x4000.0E), U16, RW. -/
def Reg.freqLow : Reg := ⟨0x40000E, 250⟩
/-- FreqHigh (0x4000.0F), U16, RW. -/
def Reg.freqHigh : Reg := ⟨0x40000F, 600⟩
/-- DeadTime (0x4000.10), U8, RW. -/
def Reg.deadTime : Reg := ⟨0x400010, 12⟩
/-- PhaseShunt (0x4000.11), U32, RWC. -/
def Reg.phaseShunt : Reg := ⟨0x400011, 1000⟩
/-- PhaseCurrentLimit (0x4000.12), U16, RWC. -/
def Reg.phaseCurrentLimit : Reg := ⟨0x400012, 25000⟩
/-- PhasePeakLimit (0x4000.13), U16, RWC. -/
def Reg.phasePeakLimit : Reg := ⟨0x400013, 40000⟩
/-- ConverterCurrentLimit (0x4000.14), U32, RWC. -/
def Reg.converterCurrentLimit : Reg := ⟨0x400014, 150000⟩
/-- PowerLimit (0x4000.15), U32, RWC. -/
def Reg.powerLimit : Reg := ⟨0x400015, 3600000⟩
/-- CurrentLimitInForce (0x4000.16), U32, RO. -/
def Reg.currentLimitInForce : Reg := ⟨0x400016, 0⟩
/-- PowerLimitInForce (0x4000.17), U32, RO. -/
def Reg.powerLimitInForce : Reg := ⟨0x400017, 0⟩
/-- FailDeviation (0x4000.18), U8, RWC. -/
def Reg.failDeviation : Reg := ⟨0x400018, 35⟩
/-- FailCycles (0x4000.19), U8, RWC. -/
def Reg.failCycles : Reg := ⟨0x400019, 20⟩
/-- PhaseCheckMin (0x4000.1A), U16, RWC. -/
def Reg.phaseCheckMin : Reg := ⟨0x40001A, 2000⟩
/-- VLoopKp (0x4000.1B), U16, RW. -/
def Reg.vLoopKp : Reg := ⟨0x40001B, 2000⟩
/-- VLoopKi (0x4000.1C), U16, RW. -/
def Reg.vLoopKi : Reg := ⟨0x40001C, 5000⟩
/-- OutputOvMargin (0x4000.1D), U16, RWC. -/
def Reg.outputOvMargin : Reg := ⟨0x40001D, 80⟩
/-- ThrottleInterval (0x4000.1E), U16, RW. -/
def Reg.throttleInterval : Reg := ⟨0x40001E, 1000⟩
/-- DieThrottleStart (0x4000.1F), I16, RWC. -/
def Reg.dieThrottleStart : Reg := ⟨0x40001F, 1100⟩
/-- DieThrottleStep (0x4000.20), U16, RWC. -/
def Reg.dieThrottleStep : Reg := ⟨0x400020, 20⟩
/-- CellThrottleStart (0x4000.21), I16, RWC. -/
def Reg.cellThrottleStart : Reg := ⟨0x400021, 450⟩
/-- CellThrottleStep (0x4000.22), U16, RWC. -/
def Reg.cellThrottleStep : Reg := ⟨0x400022, 10⟩
/-- ThrottleNoTemp (0x4000.23), U8, RWC. -/
def Reg.throttleNoTemp : Reg := ⟨0x400023, 8⟩
/-- ThrottleStep (0x4000.24), U8, RO. -/
def Reg.throttleStep : Reg := ⟨0x400024, 0⟩
/-- OutputVoltage (0x4000.25), I32, RO. -/
def Reg.outputVoltage : Reg := ⟨0x400025, 0⟩
/-- OutputCurrent (0x4000.26), I32, RO. -/
def Reg.outputCurrent : Reg := ⟨0x400026, 0⟩
/-- InputPower (0x4000.27), I32, RO. -/
def Reg.inputPower : Reg := ⟨0x400027, 0⟩
/-- DemandCurrent (0x4000.28), I32, RO. -/
def Reg.demandCurrent : Reg := ⟨0x400028, 0⟩
/-- ConverterFaultCause (0x4000.29), U8, RO. -/
def Reg.converterFaultCause : Reg := ⟨0x400029, 0⟩
/-- ConverterFaultClear (0x4000.2A), U8, WO. -/
def Reg.converterFaultClear : Reg := ⟨0x40002A, 0⟩
/-- ShedCancelCount (0x4000.2B), U32, RO. -/
def Reg.shedCancelCount : Reg := ⟨0x40002B, 0⟩
/-- ExclusionCount (0x4000.2C), U32, RO. -/
def Reg.exclusionCount : Reg := ⟨0x40002C, 0⟩
/-- PhasePopulated (0x4000.2D), U8, RWC. -/
def Reg.phasePopulated : Reg := ⟨0x40002D, 63⟩
/-- HbFrequency (0x4000.30), U16, RWC. -/
def Reg.hbFrequency : Reg := ⟨0x400030, 1000⟩
/-- Hb2Enable (0x4000.31), BOOL, RW. -/
def Reg.hb2Enable : Reg := ⟨0x400031, 0⟩
/-- Hb2Sleep (0x4000.32), BOOL, RW. -/
def Reg.hb2Sleep : Reg := ⟨0x400032, 0⟩
/-- HbFaultCount (0x4000.33), U32, RO. -/
def Reg.hbFaultCount : Reg := ⟨0x400033, 0⟩
/-- HbSyncEnable (0x4000.34), BOOL, RWC. -/
def Reg.hbSyncEnable : Reg := ⟨0x400034, 0⟩
/-- HbSyncState (0x4000.35), U8, RO. -/
def Reg.hbSyncState : Reg := ⟨0x400035, 0⟩
/-- HbSyncFrequency (0x4000.36), U32, RO. -/
def Reg.hbSyncFrequency : Reg := ⟨0x400036, 0⟩
/-- PhaseMeanCurrent (0x4101–0x4106.01), I32, RO. -/
def Reg.phaseMeanCurrent (p : Nat) : Reg := ⟨0x410101 + (p - 1) * 256, 0⟩
/-- PhasePeakCurrent (0x4101–0x4106.02), I32, RO. -/
def Reg.phasePeakCurrent (p : Nat) : Reg := ⟨0x410102 + (p - 1) * 256, 0⟩
/-- PhaseFrequency (0x4101–0x4106.03), U32, RO. -/
def Reg.phaseFrequency (p : Nat) : Reg := ⟨0x410103 + (p - 1) * 256, 0⟩
/-- PhaseState (0x4101–0x4106.04), U8, RO. -/
def Reg.phaseState (p : Nat) : Reg := ⟨0x410104 + (p - 1) * 256, 0⟩
/-- PhaseRegion (0x4101–0x4106.05), U8, RO. -/
def Reg.phaseRegion (p : Nat) : Reg := ⟨0x410105 + (p - 1) * 256, 0⟩
/-- PhaseWindow (0x4101–0x4106.06), U16, RO. -/
def Reg.phaseWindow (p : Nat) : Reg := ⟨0x410106 + (p - 1) * 256, 2000⟩
/-- PhaseDeviation (0x4101–0x4106.07), U8, RO. -/
def Reg.phaseDeviation (p : Nat) : Reg := ⟨0x410107 + (p - 1) * 256, 0⟩
/-- PhaseDeviationCount (0x4101–0x4106.08), U8, RO. -/
def Reg.phaseDeviationCount (p : Nat) : Reg := ⟨0x410108 + (p - 1) * 256, 0⟩
/-- PhaseClampedCycles (0x4101–0x4106.09), U32, RO. -/
def Reg.phaseClampedCycles (p : Nat) : Reg := ⟨0x410109 + (p - 1) * 256, 0⟩
/-- PhaseForcedCycles (0x4101–0x4106.0A), U32, RO. -/
def Reg.phaseForcedCycles (p : Nat) : Reg := ⟨0x41010A + (p - 1) * 256, 0⟩

/-! Registers tabled in chapter 12 of spec/. -/
/-- PathState (0x4400.01), U8, RO. -/
def Reg.pathState : Reg := ⟨0x440001, 0⟩
/-- SelectedSource (0x4400.02), U8, RO. -/
def Reg.selectedSource : Reg := ⟨0x440002, 0⟩
/-- SourcePriority (0x4400.03), U8, RW. -/
def Reg.sourcePriority : Reg := ⟨0x440003, 0⟩
/-- SourceStatus (0x4400.04), U8, RO. -/
def Reg.sourceStatus : Reg := ⟨0x440004, 0⟩
/-- DockCurrentLimit (0x4400.05), U32, RWC. -/
def Reg.dockCurrentLimit : Reg := ⟨0x440005, 0⟩
/-- DockLossVoltage (0x4400.06), U16, RW. -/
def Reg.dockLossVoltage : Reg := ⟨0x440006, 18000⟩
/-- InputLimitInForce (0x4400.07), U32, RO. -/
def Reg.inputLimitInForce : Reg := ⟨0x440007, 0⟩
/-- SearchEnable (0x4400.08), U8, RW. -/
def Reg.searchEnable : Reg := ⟨0x440008, 3⟩
/-- SearchStart (0x4400.09), U16, RW. -/
def Reg.searchStart : Reg := ⟨0x440009, 500⟩
/-- SearchStep (0x4400.0A), U16, RW. -/
def Reg.searchStep : Reg := ⟨0x44000A, 250⟩
/-- SearchStepTime (0x4400.0B), U16, RW. -/
def Reg.searchStepTime : Reg := ⟨0x44000B, 10⟩
/-- SearchSag (0x4400.0C), U8, RW. -/
def Reg.searchSag : Reg := ⟨0x44000C, 5⟩
/-- SearchResult (0x4400.0D), U32, RO. -/
def Reg.searchResult : Reg := ⟨0x44000D, 0⟩
/-- SysMinVoltage (0x4400.0E), U32, RWC. -/
def Reg.sysMinVoltage : Reg := ⟨0x44000E, 30000⟩
/-- SysHeadroom (0x4400.0F), U16, RW. -/
def Reg.sysHeadroom : Reg := ⟨0x44000F, 500⟩
/-- HandOverCount (0x4400.10), U32, RO. -/
def Reg.handOverCount : Reg := ⟨0x440010, 0⟩
/-- HandOverTime (0x4400.11), U32, RO. -/
def Reg.handOverTime : Reg := ⟨0x440011, 0⟩
/-- ReversePowerLimit (0x4400.13), U32, RWC. -/
def Reg.reversePowerLimit : Reg := ⟨0x440013, 240000⟩
/-- PackVoltage (0x4400.14), I32, RO. -/
def Reg.packVoltage : Reg := ⟨0x440014, 0⟩
/-- SysVoltage (0x4400.15), I32, RO. -/
def Reg.sysVoltage : Reg := ⟨0x440015, 0⟩
/-- BatfetState (0x4400.16), U8, RO. -/
def Reg.batfetState : Reg := ⟨0x440016, 0⟩
/-- ReverseMinCell (0x4400.17), U16, RWS. -/
def Reg.reverseMinCell : Reg := ⟨0x440017, 3300⟩
/-- ChargeEnable (0x4410.01), BOOL, RW. -/
def Reg.chargeEnable : Reg := ⟨0x441001, 1⟩
/-- ChargeState (0x4410.02), U8, RO. -/
def Reg.chargeState : Reg := ⟨0x441002, 0⟩
/-- CellChargeVoltage (0x4410.03), U16, RWS. -/
def Reg.cellChargeVoltage : Reg := ⟨0x441003, 4200⟩
/-- ChargeVoltageLimit (0x4410.04), U32, RWS. -/
def Reg.chargeVoltageLimit : Reg := ⟨0x441004, 100800⟩
/-- ChargeCurrent (0x4410.05), U32, RWS. -/
def Reg.chargeCurrent : Reg := ⟨0x441005, 10000⟩
/-- ChargeCapacity (0x4410.06), U32, RWC. -/
def Reg.chargeCapacity : Reg := ⟨0x441006, 20000⟩
/-- TrickleThreshold (0x4410.07), U16, RWS. -/
def Reg.trickleThreshold : Reg := ⟨0x441007, 2000⟩
/-- TrickleCurrent (0x4410.08), U16, RWS. -/
def Reg.trickleCurrent : Reg := ⟨0x441008, 50⟩
/-- PrechargeThreshold (0x4410.09), U16, RWS. -/
def Reg.prechargeThreshold : Reg := ⟨0x441009, 3000⟩
/-- PrechargeCurrent (0x4410.0A), U16, RWS. -/
def Reg.prechargeCurrent : Reg := ⟨0x44100A, 1000⟩
/-- TrickleTimer (0x4410.0B), U16, RWS. -/
def Reg.trickleTimer : Reg := ⟨0x44100B, 60⟩
/-- PrechargeTimer (0x4410.0C), U16, RWS. -/
def Reg.prechargeTimer : Reg := ⟨0x44100C, 120⟩
/-- ChargeTimer (0x4410.0D), U16, RWS. -/
def Reg.chargeTimer : Reg := ⟨0x44100D, 600⟩
/-- CvTimer (0x4410.0E), U16, RW. -/
def Reg.cvTimer : Reg := ⟨0x44100E, 120⟩
/-- TerminationTime (0x4410.0F), U16, RW. -/
def Reg.terminationTime : Reg := ⟨0x44100F, 600⟩
/-- RechargeDelta (0x4410.10), U16, RW. -/
def Reg.rechargeDelta : Reg := ⟨0x441010, 100⟩
/-- ChargeTempMin (0x4410.11), I16, RWS. -/
def Reg.chargeTempMin : Reg := ⟨0x441011, 0⟩
/-- ChargeTempMax (0x4410.12), I16, RWS. -/
def Reg.chargeTempMax : Reg := ⟨0x441012, 450⟩
/-- ChargeTarget (0x4410.13), I32, RO. -/
def Reg.chargeTarget : Reg := ⟨0x441013, 0⟩
/-- ChargeMaxCell (0x4410.14), U16, RO. -/
def Reg.chargeMaxCell : Reg := ⟨0x441014, 0⟩
/-- ChargeMinCell (0x4410.15), U16, RO. -/
def Reg.chargeMinCell : Reg := ⟨0x441015, 0⟩
/-- ChargeSuspendCause (0x4410.16), U8, RO. -/
def Reg.chargeSuspendCause : Reg := ⟨0x441016, 0⟩
/-- ChargeFaultLatched (0x4410.17), U8, RO. -/
def Reg.chargeFaultLatched : Reg := ⟨0x441017, 0⟩
/-- ChargeElapsed (0x4410.18), U32, RO. -/
def Reg.chargeElapsed : Reg := ⟨0x441018, 0⟩
/-- ChargeTermination (0x4410.19), U8, RO. -/
def Reg.chargeTermination : Reg := ⟨0x441019, 0⟩
/-- CvGain (0x4410.1A), U16, RW. -/
def Reg.cvGain : Reg := ⟨0x44101A, 20⟩
/-- KaChargeEnable (0x4500.01), BOOL, RW. -/
def Reg.kaChargeEnable : Reg := ⟨0x450001, 1⟩
/-- KaCapacity (0x4500.02), U16, RW. -/
def Reg.kaCapacity : Reg := ⟨0x450002, 300⟩
/-- KaChargeState (0x4500.03), U8, RO. -/
def Reg.kaChargeState : Reg := ⟨0x450003, 0⟩
/-- KaFaultLatched (0x4500.04), U8, RO. -/
def Reg.kaFaultLatched : Reg := ⟨0x450004, 0⟩
/-- KaBatVoltage (0x4500.05), U16, RO. -/
def Reg.kaBatVoltage : Reg := ⟨0x450005, 0⟩
/-- KaTemperature (0x4500.06), I16, RO. -/
def Reg.kaTemperature : Reg := ⟨0x450006, -32768⟩
/-- KaNtcNominal (0x4500.07), U32, RW. -/
def Reg.kaNtcNominal : Reg := ⟨0x450007, 10000⟩
/-- KaNtcBeta (0x4500.08), U16, RW. -/
def Reg.kaNtcBeta : Reg := ⟨0x450008, 3435⟩
/-- KaFastTimer (0x4500.09), U16, RW. -/
def Reg.kaFastTimer : Reg := ⟨0x450009, 240⟩
/-- KaChargeCurrent (0x4500.0A), U16, RO. -/
def Reg.kaChargeCurrent : Reg := ⟨0x45000A, 0⟩
/-- KaTermination (0x4500.0B), U8, RO. -/
def Reg.kaTermination : Reg := ⟨0x45000B, 0⟩
/-- KaOutEnable (0x4500.0C), BOOL, RW. -/
def Reg.kaOutEnable : Reg := ⟨0x45000C, 1⟩
/-- KaOutState (0x4500.0D), U8, RO. -/
def Reg.kaOutState : Reg := ⟨0x45000D, 0⟩
/-- LastShipExit (0x4500.0E), U8, RO. -/
def Reg.lastShipExit : Reg := ⟨0x45000E, 0⟩

/-! Registers tabled in chapter 13 of spec/. -/
/-- PortEnable (0x4600.01), BOOL, RWC. -/
def Reg.portEnable : Reg := ⟨0x460001, 1⟩
/-- RolePolicy (0x4600.02), U8, RW. -/
def Reg.rolePolicy : Reg := ⟨0x460002, 0⟩
/-- PortState (0x4600.03), U8, RO. -/
def Reg.pdPortState : Reg := ⟨0x460003, 0⟩
/-- PowerRole (0x4600.04), U8, RO. -/
def Reg.powerRole : Reg := ⟨0x460004, 0⟩
/-- Orientation (0x4600.05), U8, RO. -/
def Reg.orientation : Reg := ⟨0x460005, 0⟩
/-- TypeCCurrent (0x4600.06), U16, RO. -/
def Reg.typeCCurrent : Reg := ⟨0x460006, 0⟩
/-- ContractState (0x4600.07), U8, RO. -/
def Reg.contractState : Reg := ⟨0x460007, 0⟩
/-- ContractVoltage (0x4600.08), U32, RO. -/
def Reg.contractVoltage : Reg := ⟨0x460008, 5000⟩
/-- ContractCurrent (0x4600.09), U32, RO. -/
def Reg.contractCurrent : Reg := ⟨0x460009, 0⟩
/-- ContractPdoType (0x4600.0A), U8, RO. -/
def Reg.contractPdoType : Reg := ⟨0x46000A, 0⟩
/-- ContractPdoPosition (0x4600.0B), U8, RO. -/
def Reg.contractPdoPosition : Reg := ⟨0x46000B, 0⟩
/-- VbusVoltage (0x4600.0C), I32, RO. -/
def Reg.vbusVoltage : Reg := ⟨0x46000C, 0⟩
/-- CableCurrent (0x4600.0D), U8, RO. -/
def Reg.cableCurrent : Reg := ⟨0x46000D, 0⟩
/-- CableEpr (0x4600.0E), BOOL, RO. -/
def Reg.cableEpr : Reg := ⟨0x46000E, 0⟩
/-- HardResetCount (0x4600.0F), U32, RO. -/
def Reg.hardResetCount : Reg := ⟨0x46000F, 0⟩
/-- TransitionWatchdog (0x4600.10), U16, RW. -/
def Reg.transitionWatchdog : Reg := ⟨0x460010, 40⟩
/-- SinkVoltageMax (0x4600.11), U32, RW. -/
def Reg.sinkVoltageMax : Reg := ⟨0x460011, 48000⟩
/-- SinkPowerMax (0x4600.12), U32, RW. -/
def Reg.sinkPowerMax : Reg := ⟨0x460012, 240000⟩
/-- SinkPdoTypes (0x4600.13), U8, RW. -/
def Reg.sinkPdoTypes : Reg := ⟨0x460013, 7⟩
/-- SinkEprEnable (0x4600.14), BOOL, RW. -/
def Reg.sinkEprEnable : Reg := ⟨0x460014, 1⟩
/-- SourcePdoMask (0x4600.15), U8, RWC. -/
def Reg.sourcePdoMask : Reg := ⟨0x460015, 127⟩
/-- SourceCurrentMax (0x4600.16), U16, RWC. -/
def Reg.sourceCurrentMax : Reg := ⟨0x460016, 5000⟩
/-- SourceRp (0x4600.17), U8, RW. -/
def Reg.sourceRp : Reg := ⟨0x460017, 2⟩
/-- FrsEnable (0x4600.18), BOOL, RW. -/
def Reg.frsEnable : Reg := ⟨0x460018, 0⟩
/-- FrsState (0x4600.19), U8, RO. -/
def Reg.frsState : Reg := ⟨0x460019, 0⟩
/-- PartnerFrsCurrent (0x4600.1A), U16, RO. -/
def Reg.partnerFrsCurrent : Reg := ⟨0x46001A, 0⟩
/-- PartnerCaps (0x4600.1B), DOMAIN, RO. -/
def Reg.partnerCaps : Reg := ⟨0x46001B, 0⟩
/-- DischargeTime (0x4600.1C), U16, RO. -/
def Reg.dischargeTime : Reg := ⟨0x46001C, 0⟩
/-- VbusFault (0x4600.1D), U8, RO. -/
def Reg.vbusFault : Reg := ⟨0x46001D, 0⟩
/-- TransitionCount (0x4600.1E), U32, RO. -/
def Reg.transitionCount : Reg := ⟨0x46001E, 0⟩
/-- HardResetCause (0x4600.1F), U8, RO. -/
def Reg.hardResetCause : Reg := ⟨0x46001F, 0⟩

/-! Registers tabled in chapter 14 of spec/. -/
/-- SafetyState (0x5000.01), U8, RO. -/
def Reg.safetyState : Reg := ⟨0x500001, 0⟩
/-- DisconnectCommand (0x5000.02), U8, WO. -/
def Reg.disconnectCommand : Reg := ⟨0x500002, 0⟩
/-- SdAutoClose (0x5000.03), BOOL, RWS. -/
def Reg.sdAutoClose : Reg := ⟨0x500003, 0⟩
/-- SdDriveMode (0x5000.04), U8, RWS. -/
def Reg.sdDriveMode : Reg := ⟨0x500004, 0⟩
/-- SdFbPolarity (0x5000.05), U8, RWS. -/
def Reg.sdFbPolarity : Reg := ⟨0x500005, 0⟩
/-- SdCloseTime (0x5000.06), U16, RWS. -/
def Reg.sdCloseTime : Reg := ⟨0x500006, 20⟩
/-- SdOpenTime (0x5000.07), U16, RWS. -/
def Reg.sdOpenTime : Reg := ⟨0x500007, 3500⟩
/-- SdTestPulse (0x5000.08), U16, RWS. -/
def Reg.sdTestPulse : Reg := ⟨0x500008, 200⟩
/-- SdPullInTime (0x5000.09), U16, RWS. -/
def Reg.sdPullInTime : Reg := ⟨0x500009, 100⟩
/-- SdHoldDuty (0x5000.0A), U8, RWS. -/
def Reg.sdHoldDuty : Reg := ⟨0x50000A, 50⟩
/-- TripCause (0x5000.0B), U32, RO. -/
def Reg.tripCause : Reg := ⟨0x50000B, 0⟩
/-- ActiveFaults (0x5000.0C), U32, RO. -/
def Reg.activeFaults : Reg := ⟨0x50000C, 0⟩
/-- FaultLatched (0x5000.0D), U32, RO. -/
def Reg.faultLatched : Reg := ⟨0x50000D, 0⟩
/-- DegradedTime (0x5000.0E), U16, RWS. -/
def Reg.degradedTime : Reg := ⟨0x50000E, 60⟩
/-- DegradedFraction (0x5000.0F), U8, RWS. -/
def Reg.degradedFraction : Reg := ⟨0x50000F, 8⟩
/-- DegradedRemaining (0x5000.10), U16, RO. -/
def Reg.degradedRemaining : Reg := ⟨0x500010, 60⟩
/-- FaultPromote (0x5000.11), U32, RWS. -/
def Reg.faultPromote : Reg := ⟨0x500011, 0⟩
/-- OvercurrentCharge (0x5000.12), U32, RWS. -/
def Reg.overcurrentCharge : Reg := ⟨0x500012, 40000⟩
/-- OvercurrentDischarge (0x5000.13), U32, RWS. -/
def Reg.overcurrentDischarge : Reg := ⟨0x500013, 100000⟩
/-- OvercurrentDelay (0x5000.14), U16, RWS. -/
def Reg.overcurrentDelay : Reg := ⟨0x500014, 500⟩
/-- ShortCircuitLimit (0x5000.15), U32, RWS. -/
def Reg.shortCircuitLimit : Reg := ⟨0x500015, 300000⟩
/-- CellTempMax (0x5000.16), I16, RWS. -/
def Reg.cellTempMax : Reg := ⟨0x500016, 650⟩
/-- DieTempMax (0x5000.17), I16, RWS. -/
def Reg.dieTempMax : Reg := ⟨0x500017, 1250⟩
/-- DcinEnable (0x5000.18), U8, RWS. -/
def Reg.dcinEnable : Reg := ⟨0x500018, 0⟩
/-- DcinDiscrepancy (0x5000.19), U16, RWS. -/
def Reg.dcinDiscrepancy : Reg := ⟨0x500019, 50⟩
/-- DcinState (0x5000.1A), U8, RO. -/
def Reg.dcinState : Reg := ⟨0x50001A, 0⟩
/-- CheckValueComputed (0x5000.1B), U32, RO. -/
def Reg.checkValueComputed : Reg := ⟨0x50001B, 0⟩
/-- CheckValueConfirmed (0x5000.1C), U32, RO. -/
def Reg.checkValueConfirmed : Reg := ⟨0x50001C, 0⟩
/-- CheckValueConfirm (0x5000.1D), DOMAIN, WO. -/
def Reg.checkValueConfirm : Reg := ⟨0x50001D, 0⟩
/-- ConfirmState (0x5000.1E), U8, RO. -/
def Reg.confirmState : Reg := ⟨0x50001E, 0⟩
/-- LatentInterval (0x5000.1F), U8, RWS. -/
def Reg.latentInterval : Reg := ⟨0x50001F, 60⟩
/-- LatentAge (0x5000.20), U16, RO. -/
def Reg.latentAge : Reg := ⟨0x500020, 0⟩
/-- SafetyResetCause (0x5000.21), U8, RO. -/
def Reg.safetyResetCause : Reg := ⟨0x500021, 0⟩
/-- SdTestCount (0x5000.22), U32, RO. -/
def Reg.sdTestCount : Reg := ⟨0x500022, 0⟩
/-- LastTripRow (0x5000.23), U32, RO. -/
def Reg.lastTripRow : Reg := ⟨0x500023, 0⟩
/-- ReactionTime (0x5000.24), U32, RO. -/
def Reg.reactionTime : Reg := ⟨0x500024, 0⟩
/-- DischargeLimitInForce (0x5000.25), U32, RO. -/
def Reg.dischargeLimitInForce : Reg := ⟨0x500025, 100000⟩
/-- SafetyResetCount (0x5000.26), U32, RO. -/
def Reg.safetyResetCount : Reg := ⟨0x500026, 0⟩

/-! Registers tabled in chapter 15 of spec/. -/
/-- FramStatus (0x5800.01), U8, RO. -/
def Reg.framStatus : Reg := ⟨0x580001, 0⟩
/-- CommitsDone (0x5800.02), U32, RO. -/
def Reg.commitsDone : Reg := ⟨0x580002, 0⟩
/-- CommitsRefused (0x5800.03), U32, RO. -/
def Reg.commitsRefused : Reg := ⟨0x580003, 0⟩
/-- LastRefusal (0x5800.04), U8, RO. -/
def Reg.lastRefusal : Reg := ⟨0x580004, 0⟩
/-- CresVoltage (0x5800.05), U16, RO. -/
def Reg.cresVoltage : Reg := ⟨0x580005, 0⟩
/-- CresCapacitance (0x5800.06), U16, RO. -/
def Reg.cresCapacitance : Reg := ⟨0x580006, 0⟩
/-- StoreGeneration (0x5800.07), U32, RO. -/
def Reg.storeGeneration : Reg := ⟨0x580007, 0⟩
/-- LogState (0x5810.01), U8, RO. -/
def Reg.logState : Reg := ⟨0x581001, 0⟩
/-- LogPageSize (0x5810.02), U16, RWC. -/
def Reg.logPageSize : Reg := ⟨0x581002, 2048⟩
/-- LogBlockCount (0x5810.03), U16, RWC. -/
def Reg.logBlockCount : Reg := ⟨0x581003, 1024⟩
/-- LogCommand (0x5810.04), U8, WO. -/
def Reg.logCommand : Reg := ⟨0x581004, 0⟩
/-- LogOldestSequence (0x5810.05), U32, RO. -/
def Reg.logOldestSequence : Reg := ⟨0x581005, 0⟩
/-- LogNewestSequence (0x5810.06), U32, RO. -/
def Reg.logNewestSequence : Reg := ⟨0x581006, 0⟩
/-- LogReadSequence (0x5810.07), U32, RW. -/
def Reg.logReadSequence : Reg := ⟨0x581007, 0⟩
/-- LogPageData (0x5810.08), DOMAIN, RO. -/
def Reg.logPageData : Reg := ⟨0x581008, 0⟩
/-- LogOpenPage (0x5810.09), DOMAIN, RO. -/
def Reg.logOpenPage : Reg := ⟨0x581009, 0⟩
/-- LogEntriesOpen (0x5810.0A), U16, RO. -/
def Reg.logEntriesOpen : Reg := ⟨0x58100A, 0⟩
/-- LogDropped (0x5810.0B), U32, RO. -/
def Reg.logDropped : Reg := ⟨0x58100B, 0⟩
/-- LogBadBlocks (0x5810.0C), U16, RO. -/
def Reg.logBadBlocks : Reg := ⟨0x58100C, 0⟩
/-- LogVoidPages (0x5810.0D), U32, RO. -/
def Reg.logVoidPages : Reg := ⟨0x58100D, 0⟩
/-- LogWraps (0x5810.0E), U32, RO. -/
def Reg.logWraps : Reg := ⟨0x58100E, 0⟩
/-- LogWrite (0x5810.0F), DOMAIN, WO. -/
def Reg.logWrite : Reg := ⟨0x58100F, 0⟩
/-- CalendarTime (0x5820.01), U64, RW. -/
def Reg.calendarTime : Reg := ⟨0x582001, 0⟩
/-- CalendarStatus (0x5820.02), U8, RO. -/
def Reg.calendarStatus : Reg := ⟨0x582002, 1⟩
/-- CalendarAlarm (0x5820.03), U64, RW. -/
def Reg.calendarAlarm : Reg := ⟨0x582003, 0⟩
/-- CrystalOffset (0x5820.04), I16, RWC. -/
def Reg.crystalOffset : Reg := ⟨0x582004, 0⟩
/-- CrystalTurnover (0x5820.05), I16, RWC. -/
def Reg.crystalTurnover : Reg := ⟨0x582005, 250⟩
/-- CrystalCurvature (0x5820.06), I16, RWC. -/
def Reg.crystalCurvature : Reg := ⟨0x582006, -34⟩
/-- CompensationInForce (0x5820.07), I32, RO. -/
def Reg.compensationInForce : Reg := ⟨0x582007, 0⟩
/-- CompensationTemp (0x5820.08), I16, RO. -/
def Reg.compensationTemp : Reg := ⟨0x582008, 250⟩
/-- CtrlDieTemperature (0x5830.01), I16, RO. -/
def Reg.ctrlDieTemperature : Reg := ⟨0x583001, 250⟩
/-- CtrlDieTempStatus (0x5830.02), U8, RO. -/
def Reg.ctrlDieTempStatus : Reg := ⟨0x583002, 2⟩
/-- CtrlDieTempBroken (0x5830.03), U32, RO. -/
def Reg.ctrlDieTempBroken : Reg := ⟨0x583003, 0⟩
/-- CtrlDieTempRequest (0x5830.04), U8, WO. -/
def Reg.ctrlDieTempRequest : Reg := ⟨0x583004, 0⟩
/-- MonDieTemperature (0x2F00.05), I16, RO. -/
def Reg.monDieTemperature : Reg := ⟨0x2F0005, 250⟩
/-- MonDieTempStatus (0x2F00.06), U8, RO. -/
def Reg.monDieTempStatus : Reg := ⟨0x2F0006, 2⟩
/-- MonDieTempRequest (0x2F00.07), U8, WO. -/
def Reg.monDieTempRequest : Reg := ⟨0x2F0007, 0⟩
/-- SwatchControl (0x9000.01), U8, RW. -/
def Reg.swatchControl : Reg := ⟨0x900001, 1⟩
/-- SwatchPeriod (0x9000.02), U16, RW. -/
def Reg.swatchPeriod : Reg := ⟨0x900002, 250⟩
/-- SelfTestStatus (0x9000.03), U8, RO. -/
def Reg.selfTestStatus : Reg := ⟨0x900003, 0⟩
/-- SwatchCycles (0x9000.04), U32, RO. -/
def Reg.swatchCycles : Reg := ⟨0x900004, 0⟩
/-- SwatchPosition (0x9000.05), U16, RO. -/
def Reg.swatchPosition : Reg := ⟨0x900005, 0⟩
/-- SramFailBlock (0x9000.06), U16, RO. -/
def Reg.sramFailBlock : Reg := ⟨0x900006, 0⟩
/-- FramFailPage (0x9000.07), U8, RO. -/
def Reg.framFailPage : Reg := ⟨0x900007, 0⟩
/-- SwatchFailures (0x9000.08), U32, RO. -/
def Reg.swatchFailures : Reg := ⟨0x900008, 0⟩
/-- StartupSelfTest (0x9000.09), U8, RO. -/
def Reg.startupSelfTest : Reg := ⟨0x900009, 0⟩
/-- RomFailBlock (0x9000.0A), U8, RO. -/
def Reg.romFailBlock : Reg := ⟨0x90000A, 0⟩
/-- MonSwatchControl (0x9040.01), U8, RW. -/
def Reg.monSwatchControl : Reg := ⟨0x904001, 1⟩
/-- MonSelfTestStatus (0x9040.02), U8, RO. -/
def Reg.monSelfTestStatus : Reg := ⟨0x904002, 0⟩
/-- MonSwatchCycles (0x9040.03), U32, RO. -/
def Reg.monSwatchCycles : Reg := ⟨0x904003, 0⟩
/-- MonFailBlock (0x9040.04), U16, RO. -/
def Reg.monFailBlock : Reg := ⟨0x904004, 0⟩
/-- MonSwatchFailures (0x9040.05), U32, RO. -/
def Reg.monSwatchFailures : Reg := ⟨0x904005, 0⟩
/-- MonTrimFailPage (0x9040.06), U8, RO. -/
def Reg.monTrimFailPage : Reg := ⟨0x904006, 0⟩


end Sys2Proof.Machine
end

