-- ==== Sys2Proof/Machine/State.lean ====
section
/-! DEFINITION. The state of one YL24: everything the manual gives the device, as plain data. The registers of the object
tables stand in `Dev.regs`; what the manual describes and no object shows stands in the structures of each chapter. -/

namespace Sys2Proof.Machine

/-- Why the machine stops. -/
inductive Fault where
  /-- Raised by the supply commands when a voltage lies beyond the absolute maximum rating of Table 16.1: the manual gives
  no behaviour there (R422). Safe: the model stops where the manual promises nothing. -/
  | beyondAbsoluteMaximum (ball : String)
  deriving DecidableEq, Repr

/-- Why a command has no meaning. -/
inductive Refusal where
  /-- Raised by the dispatch arms of commands that have no meaning yet. Safe: the model stops. -/
  | notModelled (mnemonic : String)
  deriving DecidableEq, Repr

/-! ## Supplies, modes and roles (chapters 1 to 3) -/

/-- The role of R3. -/
inductive Role where
  | head | member
  deriving DecidableEq, Repr

/-- Where the KA island takes its supply from (R63). -/
inductive KaSupply where
  | none | vlog | kaBat
  deriving DecidableEq, Repr

/-- The mode of the logic field (Table 3.3, Table 3.5). -/
inductive LogicMode where
  /-- VLOG absent and KA supply below 1.8 V -/
  | off
  /-- VLOG absent, KA island on KA_BAT -/
  | keepAliveOnly
  /-- VLOG present, reset not yet released -/
  | inReset
  | startup
  | active
  /-- sleep entry accepted, bind-off not yet in effect (R73 steps 1 to 4) -/
  | sleepEntry
  | sleep
  | ship
  deriving DecidableEq, Repr

/-- The mode of the HV field (Table 3.3, Table 3.8). -/
inductive HvMode where
  | inReset | active | sleep | ship | rolePending
  deriving DecidableEq, Repr

structure Power where
  vstk : Bool
  vlog : Bool
  /-- VLOG has fallen through its warning threshold (R64) -/
  vlogLow : Bool
  vio : Bool
  kaBatMv : Nat
  ka : KaSupply
  /-- RSTB_N is held low -/
  rstbLow : Bool
  /-- level of HEAD_EN at the last release (R54) -/
  headEn : Bool
  logic : LogicMode
  hv : HvMode
  /-- role latched by the logic field -/
  role : Role
  /-- role taken by the monitor die (R20) -/
  monRole : Role
  /-- a carrier edge of lane H within 10 µs (R19) -/
  laneH : Bool
  /-- a carrier edge of lane F within 10 µs (R19) -/
  laneF : Bool
  /-- carriers of lanes U and F run (R65) -/
  laneU : Bool
  /-- comparator thresholds and factory gauge sets are loaded (R50) -/
  trimLoaded : Bool
  /-- the crystal of the KA island runs: it is absent until its first edge shows (R84, SupplyStatus [6]) -/
  crystal : Bool
  /-- MON oscillator locked to its reference (R24) -/
  monLocked : Bool
  /-- MON cycles counted between the last two KA reference marks (R24); 0: no mark on lane H -/
  markCycles : Nat
  /-- the die-temperature conversions of step 4 are done on both dies (R77) -/
  startupTempDone : Bool
  /-- head image and gauge sets loaded into the monitor die (step 5) -/
  fieldLoaded : Bool
  /-- ship-mode latch in the KA island (R72) -/
  shipLatched : Bool
  /-- ship exit condition latched while VLOG is absent (R72) -/
  shipExit : Bool
  /-- HB1 is off after its limit acted (R308) -/
  hb1Off : Bool
  /-- an enabled wake source has occurred; the warm wake follows (R73, R75) -/
  wakeDue : Bool
  /-- the entry in progress leads to ship mode (R328) -/
  shipEntry : Bool
  /-- step 3 of the entry is under way: commits complete and the open log page is closed (R73, R328) -/
  closing : Bool
  /-- the last word visible from island to island (R23): source × 16 + destination -/
  crossings : List (Nat × Word)
  deriving DecidableEq, Repr

/-! ## Snapshots (R31 to R36) -/

/-- One snapshot group: two banks, the current one, and the read that is open. -/
structure SnapGroup where
  seq : Nat
  bank0 : List Nat
  bank1 : List Nat
  /-- bank1 is the current bank -/
  cur1 : Bool
  /-- the readers whose read is open, in the order of opening (R33): 0 to 3 the object service's channels, 4 a publication,
  16 + n the requestor n of the memory map, 32 + c the DMA channel c -/
  readers : List Nat
  /-- a latch is requested -/
  requested : Bool
  deriving DecidableEq, Repr

/-! ## Object service (chapter 9) -/

/-- A segmented transfer of a channel (R249, R250). -/
inductive Transfer where
  | idle
  /-- a read of `data` in segments, `next` the next number expected, `last` the last one served -/
  | reading (target index sub : Nat) (data : List Nat) (next : Nat) (finished : Bool)
  /-- a write of `size` bytes, `next` the next number expected -/
  | writing (target index sub size : Nat) (next : Nat) (data : List Nat) (answered : Option (List Nat))
  /-- a transfer whose segments go to a member -/
  | relayed (target index sub : Nat)
  deriving DecidableEq, Repr

structure Channel where
  transfer : Transfer
  /-- a request of this channel is not answered yet (R251) -/
  waiting : Bool
  /-- the last message sent on the channel -/
  sent : List Nat
  deriving DecidableEq, Repr

/-- A CAN frame as sent: its format, bit-rate switching and transmitter delay compensation (R253 to R256). -/
structure CanFrame where
  ident : Nat
  data : List Nat
  fd : Bool
  brs : Bool
  tdc : Bool
  deriving DecidableEq, Repr

/-- A CAN controller with the settings in force since the transports were enabled (R253). -/
structure CanPort where
  enabled : Bool
  nominalRate : Nat
  dataRate : Nat
  nominalSample : Nat
  dataSample : Nat
  serviceFrame : List Nat
  /-- last frame handed to the transmit buffer -/
  lastTx : Option CanFrame
  deriving DecidableEq, Repr

/-- An object request waiting for a member or in flight (R259). -/
structure MemberRequest where
  member : Nat
  /-- channel that asked: 0 CAN_A, 1 CAN_B, 2 SPI, 3 the head itself, 4 a channel that has gone since (R62) -/
  origin : Nat
  message : List Nat
  /-- messages of the same request that follow this one -/
  more : List (List Nat)
  sequence : Nat
  inFlight : Bool
  retries : Nat
  deriving DecidableEq, Repr

structure Service where
  canA : Channel
  canB : Channel
  spi : Channel
  /-- the segment agent's transfer with the head -/
  agent : Channel
  /-- wrong codes in a row (R241) -/
  wrongInRow : Nat
  /-- the 60 s lock holds -/
  codeLocked : Bool
  /-- the commissioning code in force -/
  code : Nat
  /-- an RWS write or a restore has been accepted since the unlock opened (R242) -/
  unlockUsed : Bool
  portA : CanPort
  portB : CanPort
  /-- SpiEnable in force (Table 9.17) -/
  spiEnabled : Bool
  /-- frames queued by publications: publication, data, and the controllers that have it to send (R255) -/
  pubQueue : List (Nat × List Nat × List Bool)
  /-- latches counted since the last frame, by publication -/
  pubLatches : Tab
  /-- row at which the mode was written, by publication -/
  pubStart : Tab
  /-- emergency frames waiting: priority, source, row (R256) -/
  emergencies : List (Nat × Nat × Nat)
  /-- SPI response held: type and payload (R258) -/
  spiResponse : Option (Nat × List Nat)
  /-- the previous host frame was refused (Table 9.10) -/
  spiRefused : Bool
  /-- bytes that SPI_SDO carried in the last frame (R257) -/
  spiSent : List Nat
  /-- member requests, oldest first -/
  requests : List MemberRequest
  /-- next sequence number, by member -/
  sequences : Tab
  /-- the sequence number last executed by the segment agent, and its answer (R193) -/
  agentSeq : Option Nat
  agentAnswer : List Nat
  deriving DecidableEq, Repr

/-! ## Controller (chapter 10) -/

structure DmaChannel where
  /-- words 0 to 4 of the descriptor in force -/
  words : List Word
  src : Nat
  dst : Nat
  /-- when the channel began to wait for the engine (R278) -/
  since : Nat
  /-- the channel waits for its descriptor's write-back -/
  writeBack : Bool
  /-- the descriptor must still be fetched -/
  fetch : Bool
  /-- stage of the last fault: 0 fetch, 1 and 2 element, 3 write-back -/
  faultStage : Nat
  /-- kind of the last fault of the descriptor in force; 0: none (R276) -/
  fault : Nat
  /-- state held before a halt by command -/
  held : Nat
  deriving DecidableEq, Repr

structure Controller where
  /-- page-table entries by requestor × 1024 + entry; unlisted entries are 0 -/
  pages : Tab
  /-- TableLength in force is the register; a channel between translation and completion does not exist between commands -/
  dma : List DmaChannel
  /-- order of waiting channels -/
  clock : Nat
  /-- channel the engine runs -/
  running : Option Nat
  /-- IRQ_N level held from step 5 of sleep entry (R284) -/
  irqHeld : Option Bool
  deriving DecidableEq, Repr

/-! ## Storage (chapter 15) -/

/-- A configuration image: registers and strings that differ from their defaults. -/
structure Image where
  regs : Tab
  strings : List (Nat × List Nat)
  deriving DecidableEq, Repr

/-- One slot of a dual image (R396, R441). -/
inductive ImageSlot where
  | blank
  /-- the first rows hold the payload of an image whose write stopped; the rest is what the slot held before (R395) -/
  | torn (rows : Nat) (image : Image) (under : ImageSlot)
  | holds (seq gen : Nat) (image : Image)
  deriving DecidableEq, Repr

structure DualImage where
  a : ImageSlot
  b : ImageSlot
  deriving DecidableEq, Repr

/-- A NAND page that holds history (R402). -/
structure LogPage where
  block : Nat
  page : Nat
  seq : Nat
  entries : List (List Nat)
  crcOk : Bool
  deriving DecidableEq, Repr

/-- A commit that has been requested and not yet run (R393). -/
inductive Job where
  /-- the image of a page, as part of the store that runs (R397) -/
  | image (page : Nat)
  /-- the new generation that ends a store (R397) -/
  | generation
  /-- the counter record of a device (R170) -/
  | counters (serial : Nat) (bytes : List Nat)
  /-- a new commissioning code, in page 55 beside CheckValueConfirmed and ConfirmState as they are at the commit -/
  | code (code : Nat)
  /-- the void list of page 57; `clears`: the program intent's row with it (R401, R404) -/
  | voidList (clears : Bool)
  /-- rows of the skein index, page 58 (R401) -/
  | skeinIndex (first count : Nat)
  /-- rows of the bad-block table, page 59 (R401, R405) -/
  | badBlockTable (first count : Nat)
  deriving DecidableEq, Repr

/-- Commands of the SPI-NAND device (R400). -/
inductive NandOp where
  | reset | readId | getFeature | setFeature | writeEnable | pageRead | readCache | programLoad | programExecute | blockErase
  deriving DecidableEq, Repr

/-- The journal row of a commit (R393). -/
structure Journal where
  page : Nat
  first : Nat
  rows : Nat
  seq : Nat
  deriving DecidableEq, Repr

structure Storage where
  /-- FRAM page 0: the journal row, while it is set (R393) -/
  journal : Option Journal
  /-- committed store generation (R397) -/
  generation : Nat
  commitSeq : Nat
  /-- pages whose entry of the signature table is not that of their content, with the entry that stands (R393, R395) -/
  badSignatures : Tab
  /-- pages 1 and 60 to 63: parts 0 to 4 of the controller record -/
  record : List DualImage
  /-- page 2 -/
  headImage : DualImage
  /-- pages 3 to 50: member images by serial -/
  members : List (Nat × DualImage)
  /-- pages 51 to 54: counter records by serial, 128 bytes under key 0 of the strings -/
  counterRecords : List (Nat × DualImage)
  /-- page 55: commissioning code, confirmed check value and ConfirmState under keys 0, 1, 2 -/
  page55 : DualImage
  /-- member images as the head holds them in SRAM, by serial: stored image and the changes since -/
  working : List (Nat × Image)
  /-- commits requested, oldest first (R393) -/
  jobs : List Job
  /-- how a commit goes that the host write at hand makes (the model's own field); none: as free values say -/
  hostRun : Option CommitRun
  /-- counters read back from a member for its record so far: address, bytes (R170) -/
  counterReads : List (Nat × List Nat)
  /-- a log device is fitted (Table 2.9) -/
  nand : Bool
  /-- of the NAND device: factory bad-block markers, and blocks that fail a format's erase (R401) -/
  factoryBad : List Nat
  worn : List Nat
  formatted : Bool
  /-- page 56: entries of the open page, oldest first -/
  openPage : List (List Nat)
  /-- page 56: its entry rows as they stand, and the row of the oldest entry (R403, R405) -/
  entryRows : List (List Nat)
  openStart : Nat
  /-- how the program operation of the intent ended, while the commit that closes it is due (R404) -/
  ended : Option ProgramResult
  /-- page 57: program intent: block, page, sequence (R404) -/
  intent : Option (Nat × Nat × Nat)
  /-- void pages as the log engine holds them: block, page; page 57 has those committed -/
  voids : List (Nat × Nat)
  /-- bad blocks as the log engine holds them; page 59 has those committed -/
  badBlocks : List Nat
  /-- NAND pages that hold history, oldest first -/
  pages : List LogPage
  /-- page 57: a commit has written it (R441) -/
  stateWritten : Bool
  /-- page 57: the void list as committed (R404) -/
  framVoids : List (Nat × Nat)
  /-- page 58: skeins and the sequence numbers of their first pages as committed -/
  framSkeins : List (Nat × Nat)
  /-- page 59: bad blocks as committed -/
  framBad : List Nat
  nextBlock : Nat
  nextPage : Nat
  nextSeq : Nat
  /-- skein erased ahead of the one being filled (R401) -/
  erasedSkein : Option Nat
  /-- commands that the log engine's last operation sent to the device, in their order (R400) -/
  nandSent : List NandOp
  /-- the open page is to be programmed before it is full (R404) -/
  closeDue : Bool
  /-- entries waiting in SRAM (R403) -/
  logQueue : List (List Nat)
  /-- LogDropped has been read since the last drop (Table 15.4) -/
  droppedRead : Bool
  /-- a CalendarTime write waits for the next tick (R408) -/
  calendarWrite : Option Nat
  /-- source 118 is to be raised once the CPU runs (R408, R411) -/
  raiseCalendar : Bool
  /-- ticks to correct in the next 60 s, negative for ticks of 31 cycles (R410) -/
  ticksToCorrect : Int
  /-- a conversion of the sensor runs -/
  monTempBusy : Bool
  ctrlTempBusy : Bool
  /-- consecutive valid readings since a broken one (R413) -/
  monTempValid : Nat
  ctrlTempValid : Nat
  /-- compensation waits for the running conversion (R410) -/
  compensationDue : Bool
  /-- next swatch of the monitor engine, and whether this cycle skipped any (R414, R415) -/
  monSwatch : Nat
  monSkipped : Bool
  /-- a ROM swatch of this cycle read other words than the ROM holds; judged when the region ends (R416) -/
  romFailed : Bool
  /-- the KA island has been reset since its settings were last taken from the controller record (R420) -/
  kaFresh : Bool
  deriving DecidableEq, Repr


/-! ## Sampling (chapter 4) -/

/-- One auxiliary SAR converter (R102 to R108). -/
structure AuxConverter where
  /-- inputs still to convert in the pass that runs; `none`: no pass -/
  pass : Option (List Nat)
  /-- the converter has finished a pass since the last complete scan -/
  passDone : Bool
  /-- passes finished, for AinOpenInterval (R127) -/
  passes : Nat
  /-- urgent inputs: the one running first, then the one queued (R106) -/
  urgent : List Nat
  /-- reference selection in force (R103) -/
  ref : Nat
  /-- the requested selection waits for the end of the conversion in progress -/
  refPending : Bool
  deriving DecidableEq, Repr

/-- The output at an own-clock tick, which waits for the 62.5 µs in which a received tick withdraws it (R38): raw values, mirror
currents and switch voltages. -/
structure OwnOutput where
  raw : List Int
  mirror : List Int
  vds : List Int
  deriving DecidableEq, Repr

/-- Sums over the baseline and loaded windows of an open-wire window or a wire-gauge step (Tables 5.5, 6.3). -/
structure WindowSums where
  /-- sums of the wide-tap outputs of the cells before, at and after the one named, µV -/
  base : List Int
  load : List Int
  baseN : Nat
  loadN : Nat
  /-- mirror current of the switch in the loaded window, µA -/
  amps : Int
  ampsN : Nat
  /-- slot-25 results of the periods at 0 and 8.0 ms, µV (R154) -/
  edgeBase : Option Int
  edgeLoad : Option Int
  deriving DecidableEq, Repr

structure Sampling where
  /-- FilterCorner write held until a multiple-of-8 tick (R92) -/
  corner : Option Nat
  /-- StreamRate write waiting for a multiple-of-64 tick (R94) -/
  stream : Option Nat
  /-- CellCount and the two CurrentEnable values in force (R88) -/
  cells : Nat
  cs1 : Bool
  cs2 : Bool
  /-- channels settling for a reason other than a corner change (R113), one bit per channel -/
  settleOther : Nat
  /-- samples are untimed (R38) -/
  untimed : Bool
  /-- number of the tick's row -/
  tickRow : Nat
  /-- a row mark has been accepted since the last tick (R38) -/
  markNew : Bool
  /-- the next output is the one produced at the tick -/
  tickPending : Bool
  /-- number of the last output: 2 × its row, plus 1 for the one 62.5 µs after the tick -/
  outNo : Nat
  /-- an own-clock tick's output that a received tick may still withdraw (R38) -/
  ownTick : Option OwnOutput
  /-- decimator outputs of the cells, newest first, up to seven (R149) -/
  history : List (List Int)
  /-- mean held at the corner-filter input in blank mode (R149) -/
  held : Option (List Int)
  /-- the last four inputs and outputs of the corner filter, newest first, 26 channels each (R91) -/
  cornerIns : List (List Int)
  cornerOuts : List (List Int)
  /-- outputs for which each channel's corner-filter input has stood (R91) -/
  steady : List Nat
  /-- the terms e_k − e_(k−1) of the cells at the last 25 outputs, newest first, pV (R150, R159) -/
  terms : List (List Int)
  /-- the terms through the copy of the corner filter: its last four inputs and outputs, newest first -/
  termIns : List (List Int)
  termOuts : List (List Int)
  /-- the mirror currents at the last 25 outputs, newest first, µA -/
  mirrors : List (List Int)
  /-- last wide tap, 26 channels, corrected, and the one before it -/
  wide : List Int
  widePrev : List Int
  /-- channels clipped in the wide tap of the last output and of the one before it, one bit per channel -/
  wideClipped : Nat
  wideClippedPrev : Nat
  /-- new factors are in force and no output has been made under them -/
  stepPending : Bool
  /-- the factors have changed between the last two outputs (R113) -/
  stepBetween : Bool
  /-- last narrow tap before and after correction -/
  narrowRaw : List Int
  narrow : List Int
  /-- channels clipped in the last output, one bit per channel -/
  clipped : Nat
  /-- offsets and gains of the factors in force, 26 channels (R131) -/
  offsets : List Int
  gains : List Nat
  /-- factors ready for the next output: offsets, gains and their temperature (R134) -/
  ready : Option (List Int × List Nat × Int)
  /-- sample buffer frames, newest first, 27 words each -/
  frames : List (List Int)
  /-- next ring position -/
  framePos : Nat
  /-- frames still to write after the trigger -/
  postLeft : Nat
  auxA : AuxConverter
  auxB : AuxConverter
  /-- a self-calibration has completed since HV power-on (R109) -/
  calibrated : Bool
  /-- scans in which a broken input has been valid, by input (R128) -/
  ntcValid : Tab
  /-- temperature last computed for a thermistor input (R107); AinTemperature holds through a break -/
  ntcTemp : Tab
  deriving DecidableEq, Repr

/-! ## Supervision (chapter 5) -/

/-- A check SAR result that waits for the outputs that bracket its slot (R112): the row of its period's tick, slot, code. -/
structure CheckSlot where
  period : Nat
  slot : Nat
  code : Nat
  deriving DecidableEq, Repr

structure Supervision where
  /-- slots that wait for their bracketing outputs, oldest first -/
  slots : List CheckSlot
  /-- mismatch_periods, by cell (R112) -/
  mismatches : Tab
  /-- consecutive even periods beyond StackMismatchThreshold -/
  stackBad : Nat
  /-- the cells' own comparators tripped, one bit per cell -/
  ovTripped : Nat
  uvTripped : Nat
  /-- raw outputs active -/
  ovRaw : Nat
  uvRaw : Nat
  /-- comparators whose deglitch count runs from a change of their raw output since the last code write (R117) -/
  ovRun : Nat
  uvRun : Nat
  /-- group and end-cell trips in force, one bit per cell (R124) -/
  ovGroup : Nat
  uvGroup : Nat
  /-- consecutive outputs, or check periods of an end cell, in which a condition of group supervision has held (R124): by
  4 × wire + 0 OV beyond, 1 OV back, 2 UV beyond, 3 UV back -/
  groupRuns : Tab
  /-- comparator test running on a cell (R120) -/
  testing : Option Nat
  /-- the fault state of R118 -/
  fault : Bool
  /-- open-wire window stage: 0 none, 1 baseline, 2 pull on, 3 pull off, 4 evaluated (Table 5.5) -/
  stage : Nat
  /-- row at which the window began, and its sums -/
  windowRow : Nat
  sums : WindowSums
  /-- the wire in test is tested again in the next window (R123) -/
  again : Bool
  /-- check period in which CheckMismatchCount was last counted -/
  countedPeriod : Option Nat
  /-- a gauge step or a clip of an affected cell in the window (R123) -/
  disturbed : Bool
  /-- finding of the window in progress: open or intact (R123) -/
  finding : Option Bool
  /-- conditions met in the last legacy check: OV, UV, hot, cold (R130) -/
  legacy : Nat
  /-- WAKE_N driven low -/
  wakeLow : Bool
  deriving DecidableEq, Repr

/-! ## Balancing, impedance and counters (chapter 6) -/

/-- An exact residue num / den of a counter (R164 to R166). -/
structure Frac where
  num : Nat
  den : Nat
  deriving DecidableEq, Repr

/-- What a step of the wire-gauge routine has measured: Δ of cells k − 1, k, k + 1 and of the end input, and i_k, in
sixteenths of µV and µA. -/
structure GaugeStep where
  prev : Int
  self : Int
  next : Int
  edge : Int
  ua : Int
  deriving DecidableEq, Repr

/-- The correlators of a cell and tone (R159): sums of v′, of i and of the shunt current, in pV and pA, times 2^80. -/
structure ToneSum where
  cell : Nat
  tone : Nat
  vRe : Int
  vIm : Int
  iRe : Int
  iIm : Int
  sRe : Int
  sIm : Int
  deriving DecidableEq, Repr

/-- An impedance run with the configuration it started with (R158). -/
structure ImpRun where
  source : Nat
  shunt : Nat
  window : Nat
  cells : Nat
  freqs : List Nat
  amps : List Nat
  /-- the phase of even cells runs -/
  even : Bool
  /-- correlators paused by an open-wire window (R161) -/
  gated : Bool
  /-- wires latched open at any time in the window -/
  openWires : Nat
  /-- number of the output at the run's start, from which t counts (R156) -/
  startOut : Nat
  /-- outputs since the window opened, and those accumulated -/
  outputs : Nat
  taken : Nat
  sums : List ToneSum
  /-- channels clipped or settling in the window, one bit each, and a gauge step in it (R160) -/
  clipSeen : Nat
  stepSeen : Bool
  deriving DecidableEq, Repr

/-- An integration step formed at its output (R97, R164 to R167): the current as a fraction, the cell sum in µV, whether the
current was clipped, and the mirror currents in µA. -/
structure CounterStep where
  num : Int
  den : Nat
  stack : Int
  clipped : Bool
  mirror : List Int
  deriving DecidableEq, Repr

structure Balancing where
  /-- cells at level 7 and 8 of the frame (R140) -/
  level7 : Nat
  level8 : Nat
  /-- first row of the frame -/
  frameRow : Nat
  /-- cells below BalMinCell until 50 mV above it (R143) -/
  low : Nat
  /-- the die temperature holds every cell at level 5 (R146) -/
  hot : Bool
  /-- P_on by cell, pW (R144) -/
  pOn : Tab
  /-- mean current over the on-time: sum in µA and count, by cell (R138) -/
  onSum : Tab
  onPower : Tab
  onCount : Tab
  /-- cells with overcurrent and with a stuck switch (R139) -/
  faultOver : Nat
  faultStuck : Nat
  /-- wire-gauge routine: due at the next frame start with the CellCount requested, steps made -/
  gaugeDue : Option Nat
  gaugeSteps : List GaugeStep
  /-- the wire-gauge step in progress: the row it began at, and its sums -/
  gaugeRow : Option Nat
  gaugeSums : WindowSums
  /-- impedance run in progress, and a run on command due -/
  run : Option ImpRun
  runDue : Bool
  /-- cells of the last averaging window that ended, and its run's source (Table 6.5) -/
  impCells : Nat
  impSource : Nat
  /-- residues of ChargeIn, ChargeOut (µC), EnergyIn, EnergyOut (mJ) -/
  chargeInRest : Frac
  chargeOutRest : Frac
  energyInRest : Frac
  energyOutRest : Frac
  /-- residues of BalanceCharge (mC), by cell -/
  cellRest : List Frac
  /-- integration step of the output at the tick, taken at the row mark (R167) -/
  step : Option CounterStep
  /-- a clear waiting for a row mark (R169) -/
  clear : Option Nat
  /-- a restore waiting for a row mark (R170) -/
  restore : Option (List Nat)
  deriving DecidableEq, Repr

/-! ## Link and chain (chapters 7 and 8) -/

/-- What the manual gives a port beside its objects. -/
structure PortLink where
  /-- 25 Mbit/s detected in Training (R174) -/
  rate25 : Bool
  /-- barred until the next full cast-on (R229) -/
  barred : Bool
  /-- marked dead-end (R213) -/
  deadEnd : Bool
  /-- consecutive rows sent out of the port that did not return (R213, R182) -/
  misses : Nat
  /-- the head drives rows on the port (R4) -/
  driven : Bool
  /-- left out of the walk (R182) -/
  leftOut : Bool
  /-- the lead of the last window forwarded from the port, as sent (R197) -/
  lead : Nat
  /-- forwarding delay in ps from this port's receive to ports A, B and C, measured in Training (R177) -/
  forward : List Nat
  deriving DecidableEq, Repr

/-- A float receiver (R191): 1s in a row, up to 7; the content bits since the last flag or abort, newest first, stuffing
removed; whether a bit among them came erased; and whether a flag has come since the last abort. -/
structure FloatRx where
  ones : Nat
  bits : List Bool
  erased : Bool
  flagged : Bool
  deriving DecidableEq, Repr

/-- The stitches of one sample set that have reached the head (R187, R236): the tick row, and list position and value. -/
structure SetParts where
  member : Nat
  row : Nat
  parts : List (Nat × Nat)
  deriving DecidableEq, Repr

/-- A claim that waits for its assign (Table 8.1). -/
structure Claim where
  /-- channel count c -/
  count : Nat
  /-- StreamRateInForce -/
  rate : Nat
  /-- D in ps -/
  delay : Nat
  nonce : Nat
  /-- arrival port -/
  upPort : Nat
  /-- ports in Up -/
  portsUp : Nat
  /-- head port on which the claim came back -/
  leg : Nat
  deriving DecidableEq, Repr

/-- A stitch buffer (R188): the row of the set, its values in list order, and whether it is in transit. -/
structure StitchBuffer where
  row : Nat
  values : List Nat
  inTransit : Bool
  deriving DecidableEq, Repr

structure Link where
  portA : PortLink
  portB : PortLink
  portC : PortLink
  /-- a row has been sent since start-up, or accepted since HV power-on (R178) -/
  rowsStarted : Bool
  /-- header flags of the last row whose header CRC held (R199) -/
  flags : Nat
  /-- the 48-bit header last sent -/
  header : Nat
  /-- service slots of the row as it was last sent out: 0 to 3, or the one of a 25 Mbit/s row (R195) -/
  slots : List Nat
  /-- the windows of the row as the head sent them, 96 bits each (R185) -/
  windows : List Nat
  /-- port the row was last sent out of: 0 A, 1 B, 2 C, 3 none -/
  sentOut : Nat
  /-- number of the row last sent out by a member: a rejected row is forwarded too (R199, R212) -/
  sentRow : Nat
  /-- down ports of the row in passage, by their states at its arrival on the up port (R213) -/
  downs : List Nat
  /-- on the head: ports of the legs that the row, and the row before it, have been sent out for (R182) -/
  legsOut : List Nat
  legsBefore : List Nat
  /-- on the head: legs of the walk as the row departed, the port out and the port back of each (R182) -/
  rowLegs : List (Nat × Nat)
  /-- on a member: when the row left by the down port it is out on, in ps since its reference edge came in (R213) -/
  outPs : Nat
  /-- the windows of the leg the row is out on have been counted as missing (R182) -/
  legMissed : Bool
  /-- the windows that the returns accepted so far bring for the row ring, by number (R198, R268); none before the first -/
  ringRow : Option (List (Nat × Nat))
  /-- ports on which a probe has arrived, with the turnaround of the answer due (R205) -/
  probed : List (Nat × Nat)
  /-- own address, 0 unaddressed (R6) -/
  address : Nat
  /-- pass whose open row was accepted (R217) -/
  passAccepted : Option Nat
  /-- claims made in the row being passed: nonce (R217) -/
  claimNonce : Option Nat
  buffer0 : StitchBuffer
  buffer1 : StitchBuffer
  /-- the next set goes to buffer1 -/
  next1 : Bool
  /-- the last stitch sent, 96 bits -/
  stitch : Nat
  /-- upstream float bits of the frame in transmission -/
  upBits : List Bool
  /-- a response and a report waiting (R193) -/
  upResponse : Option (List Nat)
  upReport : Option (List Nat)
  /-- the report last sent -/
  reportSent : List Nat
  /-- the receiver of the member's downstream float bits (R191) -/
  rx : FloatRx
  /-- downstream float bits by owner waiting at the head (R185, R191) -/
  downBits : List (Nat × List Bool)
  /-- D held, in ps (R205, R206) -/
  held : Option Nat
  /-- D waiting for a multiple-of-64 tick -/
  due : Option Nat
  /-- the line delay of the up hop has been measured (R205) -/
  measured : Bool
  /-- the row now passing was accepted as the row of this device (R199) -/
  rowTaken : Bool
  /-- last probe results that differ from the D in use, newest first -/
  candidates : List Nat
  /-- sequence number of the report last queued (R192) -/
  reportSeq : Nat
  /-- delay report last received, in ps -/
  report : Option Nat
  /-- a probe is waiting for its answer -/
  probing : Bool
  /-- TickAlign received: row and value (R204) -/
  alignDue : Option (Nat × Nat)
  /-- row periods without an accepted row mark (R38) -/
  missedRows : Nat
  /-- lane F level: fault state or alarm received (Table 1.1) -/
  alarmSeen : Bool
  /-- bind-off received: effect row and action (R231) -/
  bindOff : Option (Nat × Nat)
  /-- presence: row counter origin (R223) -/
  firstRow : Nat
  deriving DecidableEq, Repr

/-- The head's cast-on and chain management (chapter 8). -/
structure Chain where
  pass : Nat
  nonce : Nat
  /-- the pass in progress is a full one -/
  full : Bool
  /-- the pass open row is due or has been sent, the close row not yet returned (flag [8]) -/
  opened : Bool
  /-- calls go out in slot 0 -/
  calling : Bool
  /-- the assign in slot 0: address, windows, nonce, times sent -/
  assigning : Option (Nat × Nat × Nat × Nat)
  claim : Option Claim
  /-- the ring break code waits for its row (R228) -/
  breakDue : Bool
  /-- reassignments whose code waits for slot 0 of a row: target, argument (R189, Table 8.1) -/
  reassigns : List (Nat × Nat)
  /-- a code for slot 0 of the next row: code, target, argument -/
  slot0 : Option (Nat × Nat × Nat)
  /-- addresses assigned in the pass in progress -/
  thisPass : List Nat
  /-- presence fragments since the last pass open (R223) -/
  fragments : List Nat
  /-- first lead-in row -/
  startRow : Nat
  /-- row in which an incremental pass starts (R222) -/
  incrementalAt : Option Nat
  /-- row that TickAlign names and its value (R204) -/
  alignRow : Option (Nat × Nat)
  /-- calls have ended; the pass closes in the row that TickAlign names -/
  closing : Bool
  /-- bind-off: effect row once announced, action (R231) -/
  bindOff : Option (Option Nat × Nat)
  /-- header flag [10] of the next row (R214, R228) -/
  ring : Bool
  /-- the ring has broken since the last full cast-on (R228) -/
  broken : Bool
  /-- consecutive rows that did not return on B (R228) -/
  ringMisses : Nat
  /-- rate fallback is in force (R227) -/
  fallback : Bool
  /-- a full cast-on at the other rate follows the bind-off in progress (R227) -/
  restart : Bool
  /-- a claim has shown a partner on a member's port C (Table 8.5) -/
  branch : Bool
  /-- error counts of the head's ports A, B, C at pass open (R227) -/
  errorsAtOpen : List Nat
  /-- row of the last valid stitch or of the assignment, by address (R224, R225) -/
  lastValid : Tab
  /-- a port of the head's walk has entered Lost since the lead-in began (R227) -/
  lostWalk : Bool
  /-- head port behind which each member lies, by address (R182) -/
  legs : Tab
  /-- the members in the order in which a row first reaches them, each with its depth, 1 at a port of the head (R235) -/
  tree : List (Nat × Nat)
  /-- the ring as it stood when it broke: each member of it with its up port then, and the branch behind it (R229) -/
  trunk : List (Nat × List (Nat × Nat))
  /-- members that MissingRows has counted in the row (R236) -/
  missed : List Nat
  /-- windows of devices that no leg of this row reaches which count for another fault already (R198) -/
  counted : List Nat
  /-- ports in Up that each member claimed, by address (Table 8.1) -/
  ports : Tab
  /-- row since which nibble bit [1] is set, by address (R221) -/
  timingRows : Tab
  /-- members asked for LinkStatus and D since (R221) -/
  asked : List Nat
  /-- the receivers of the members' upstream float bits, by address, and the frames ended in them: content, or none where
  discarded (R191) -/
  upRx : List (Nat × FloatRx)
  upFrames : List (Nat × Option (List Nat))
  /-- sample sets on their way, one per member (R236) -/
  sets : List SetParts
  /-- windows and channel count that a member takes at a multiple-of-64 row: address, WindowAssignment, count, and whether
  the member has accepted the write (R189) -/
  windowChanges : List (Nat × Nat × Nat × Bool)
  deriving DecidableEq, Repr

/-! ## Converter (chapter 11) -/

/-- What the manual gives a phase beside its objects. -/
structure Phase where
  /-- portion in progress: 0 none, 1 rising, 2 falling (R290) -/
  portion : Nat
  /-- a turn-on waits for its grant (R293) -/
  requested : Bool
  /-- length of the rising portion of the cycle in progress, in CNV cycles of 2.5 ns (R290) -/
  riseNow : Nat
  /-- length of the falling portion of the cycle in progress -/
  fallNow : Nat
  /-- rising and falling portions of completed cycles that were not forced, newest first, up to 16 (R299) -/
  history : List (Nat × Nat)
  /-- the cycle in progress holds a forced portion -/
  forced : Bool
  /-- the phase runs mirrored cycles -/
  mirrored : Bool
  /-- length imposed on the portion in progress or next -/
  fixed : Option Nat
  /-- a cycle has completed and its end has not been worked off (R291, R299, R300) -/
  due : Bool
  /-- the falling portion in progress began with a bootstrap refresh of the held-on high side (R292) -/
  refreshed : Bool
  /-- the source-side low side conducted as the last falling portion ended: a high side held on from the next cycle waits for it
  (R292) -/
  lowBefore : Bool
  /-- a bootstrap voltage of the phase lies below its threshold: it is held off (Table 16.11) -/
  bstLow : Bool
  /-- cycles completed in the row and their summed length (R306) -/
  rowCycles : Nat
  rowLength : Nat
  deriving DecidableEq, Repr

structure Converter where
  phases : List Phase
  /-- phase that stands first in the priority list; 0 before the first round (R293) -/
  first : Nat
  /-- phases granted in the round -/
  granted : List Nat
  /-- the power path's run command, direction wanted and voltage target -/
  run : Bool
  reverse : Bool
  targetMv : Nat
  /-- the ramped target of Start (Table 11.3) -/
  rampMv : Nat
  /-- regulated node at the last update or telemetry -/
  nodeMv : Int
  /-- integral of the voltage error, mV·µs (R294) -/
  integral : Int
  /-- I_set -/
  share : Int
  /-- region judged at the last update (R289) -/
  region : Nat
  /-- updates for which the shed condition has held -/
  below : Option Nat
  /-- phase whose shed is in progress -/
  shedding : Option Nat
  /-- phase most recently added (R298) -/
  lastAdded : Nat
  /-- updates for which a limit has set I_dem in Start -/
  limitUs : Nat
  /-- Start may end: node within 2 % or a limit for 1 ms -/
  startReady : Bool
  /-- I_dem when Stopping began, and updates since -/
  stopFrom : Int
  stopUs : Nat
  /-- fault causes that persist (Table 11.3) -/
  persist : Nat
  /-- HB2 is off after its limit acted (R308) -/
  hb2Off : Bool
  /-- mean SYNC_IN frequency acquired (R309) -/
  syncHz : Nat
  /-- frequency of the bucks where the slew in progress began (R309) -/
  slewFrom : Nat
  deriving DecidableEq, Repr

/-! ## Power path, charging and keep-alive (chapter 12) -/

structure Path where
  /-- V_nl of the selected source (R314) -/
  noLoadMv : Nat
  /-- the source-side voltage floor is held at 0 during a transition as sink (R347) -/
  floorOff : Bool
  /-- source that led to a Hand-over by a converter Fault: 0 none, 1 DOCK, 2 VBUS (R316) -/
  blocked : Nat
  /-- current that the PD port allows from VBUS (R340) -/
  allowMa : Nat
  /-- last search limit that showed no sag; `none` at the first step (R315) -/
  good : Option Nat
  /-- result of this selection's search where a sag ended it: the limit does not rise above it (R314) -/
  found : Option Nat
  /-- in Diode mode: the gate is on (R317) -/
  diodeOn : Bool
  /-- limit of the regulated-node current loop, where one is set (R325, R345) -/
  outLimit : Option Int
  /-- pack current in mA as last evaluated (R323) -/
  packMa : Int
  /-- temperature outside its limits, with the hysteresis of R324 -/
  tempOut : Bool
  /-- milliseconds in Trickle, in Pre-charge, in all charging states, in CV, below the termination current, above the cell
  limit, above the pack limit, above the current limit, and above the leaving thresholds of Trickle and Pre-charge -/
  trickleMs : Nat
  prechargeMs : Nat
  chargeMs : Nat
  cvMs : Nat
  termMs : Nat
  cellOverMs : Nat
  packOverMs : Nat
  currentOverMs : Nat
  aboveTrickleMs : Nat
  abovePrechargeMs : Nat
  /-- NiMH charger: seconds above 2.7 V in Trickle or below 3.60 V in Maintenance, seconds of the present state, and the state
  that a wait for temperature returns to -/
  nimhHoldS : Nat
  nimhS : Nat
  nimhBack : Nat
  /-- samples of KA_BAT of the present group of 8, the highest average of this fast charge, and a −ΔV seen (R331) -/
  nimhSamples : List Nat
  nimhBest : Nat
  nimhDrop : Bool
  /-- KaTemperature every 10 s, newest first, and a dT/dt seen (R331) -/
  nimhTemps : List Int
  nimhRise : Bool
  /-- KA_OUT may draw on KA_BAT (thresholds of R60) -/
  kaBatOk : Bool
  /-- Sources of the KA island that wait for the CPU to run (R332, R333). -/
  kaWaiting : List Nat
  deriving DecidableEq, Repr

/-! ## USB-C port (chapter 13) -/

/-- A voltage transition (R347, R348): the new contract. -/
structure Transition where
  oldMv : Nat
  newMv : Nat
  currentMa : Nat
  kind : Nat
  position : Nat
  epr : Bool
  /-- as source: the ramp has started -/
  ramping : Bool
  deriving DecidableEq, Repr

/-- What the port sends to its partner or to the cable (R341 to R355). -/
inductive PdMessage where
  | softReset | hardReset | notSupported | wait | accept | reject | psRdy | frSwap | carrier | eprKeepAlive | getSinkCap
  | eprEnterSucceeded
  /-- position, PDO type, voltage and current -/
  | request (position kind mv ma : Nat)
  /-- PDOs offered: position, voltage, current -/
  | sourceCapabilities (pdos : List (Nat × Nat × Nat))
  /-- on SOP′, or on SOP″ as well -/
  | discoverIdentity (far : Bool)
  /-- operational PDP in W -/
  | eprEnter (pdp : Nat)
  /-- what is missing: 0 an explicit SPR contract, 1 an EPR PDO, 2 a 5 A EPR cable -/
  | eprEnterFailed (cause : Nat)
  deriving DecidableEq, Repr

structure Pd where
  /-- the policy engine runs (R336) -/
  policy : Bool
  /-- configuration in force since the attach (R358) -/
  cfg : Tab
  /-- R341: Soft_Reset sent, capabilities awaited -/
  awaitCaps : Bool
  transition : Option Transition
  /-- request sent as sink and not accepted yet: position, kind, voltage, current -/
  request : Option (Nat × Nat × Nat × Nat)
  /-- EPR mode is entered (R346) -/
  epr : Bool
  /-- VCONN is applied (R345) -/
  vconn : Bool
  /-- the other CC line showed Ra at the attach (R345) -/
  ra : Bool
  /-- Discover Identity and Source_Capabilities sent so far (R345) -/
  discoverSent : Nat
  /-- Discover Identity messages sent on SOP″, once the cable has declared a far-end controller (R345) -/
  farSent : Option Nat
  capsSent : Nat
  capsAcked : Bool
  /-- the port asks the path for sourcing (R345, R354) -/
  asking : Bool
  /-- the path has ended sourcing or asks for its end; R350 is to run -/
  endDue : Bool
  /-- VBUS_DIS conducts (R350) -/
  discharging : Bool
  /-- state after the discharge: 0 Disabled, 1 Unattached.SNK, 5 Attached.SNK, 6 sourcing again after a Hard Reset,
  7 ErrorRecovery after the path's end, 8 ErrorRecovery after a safety stop -/
  after : Nat
  /-- waiting 800 ms before sourcing again (R352) -/
  restart : Bool
  /-- the last message sent -/
  sent : Option PdMessage
  deriving DecidableEq, Repr

/-! ## Safety functions (chapter 14) -/

/-- A test pulse (R374): none, the drive is removed, or the 1 ms after it. -/
inductive PulseState where
  | none | running | after
  deriving DecidableEq, Repr

structure Safety where
  /-- trip latch of the safety block (R366) -/
  trip : Bool
  /-- SD_DRV is on (R370) -/
  drive : Bool
  /-- SD_FB shows closed -/
  fbClosed : Bool
  /-- the disconnect is stuck (SafetyState 6) -/
  failed : Bool
  /-- closing, or held closed -/
  closing : Bool
  held : Bool
  /-- SdOpenTime runs since SD_DRV turned off, and SD_FB has not gone from closed to open since; the turning off was a trip
  (R367, R373) -/
  opening : Bool
  byTrip : Bool
  /-- the test pulse of the moment (R374, R376) -/
  pulse : PulseState
  /-- safety cycles begun since the lane F fault level or an alarm symbol last showed, up to 3 (R371) -/
  quiet : Nat
  /-- a latent cycle is overdue (bit 25) -/
  overdue : Bool
  /-- lane F is judged since the first completion of step 3 (Table 14.1) -/
  laneFJudged : Bool
  /-- safety cycles of overcurrent, and consecutive wide-tap outputs beyond the short-circuit limit (R363) -/
  overMs : Nat
  shortRun : Nat
  clipRun : Nat
  /-- devices above CellTempMax, and without a valid thermistor, by address (R364) -/
  hotDevices : List Nat
  blindDevices : List Nat
  /-- cells of members whose BalState the head has read with bit [5] clear: address, cells (R365) -/
  balRead : List (Nat × Nat)
  /-- milliseconds: each contact open, both contacts of a pair closed, contacts of a pair differing (R377) -/
  dcinOpenMs : List Nat
  dcinClosedMs : List Nat
  dcinDiffMs : List Nat
  /-- pairs whose demand and whose discrepancy is active -/
  dcinDemand : Nat
  dcinDisc : Nat
  /-- milliseconds since the last reading of members' temperatures and of the die, and since the last complete latent cycle -/
  tempMs : Nat
  ageMs : Nat
  /-- row of the last open-wire pass, by address (R381) -/
  passRows : Tab
  /-- members whose open-wire pass the head has seen running (R381) -/
  passes : List Nat
  /-- degraded mode is in force (R378) -/
  degraded : Bool
  /-- the discharge limit of degraded mode applies (R378) -/
  limited : Bool
  /-- a reset follows a processor fault: SafetyResetCause (R382, R383) -/
  resetDue : Option Nat
  /-- value of the next watchdog service: 0xA5 -/
  nextA5 : Bool
  /-- CheckValueComputed has been formed since start-up (R385) -/
  checkFormed : Bool
  checkDue : Bool
  /-- latent cycle: steps still to do as (device, cell), 25 for the open-wire command and 26 for the swatches (R381) -/
  latent : List (Nat × Nat)
  latentRuns : Bool
  /-- comparator tests whose last result failed: device, cell -/
  latentFailed : List (Nat × Nat)
  /-- swatch cycles at the last latent cycle: 0 the controller die's engine, else the monitor die's by address -/
  swatchMarks : Tab
  deriving DecidableEq, Repr

/-! ## The device -/

/-- Everything of one YL24 but its memory and the commands that wait. -/
structure Dev where
  /-- the register file: every object of fixed size, under its dictionary key -/
  regs : Tab
  /-- VSTR and DOMAIN objects, under their keys in ascending order; an object not listed holds its default -/
  blobs : List (Nat × List Nat)
  /-- counter of the free values used (the model's own field, not the manual's) -/
  free : Nat
  pwr : Power
  snaps : List SnapGroup
  samp : Sampling
  sup : Supervision
  bal : Balancing
  link : Link
  chain : Chain
  svc : Service
  ctl : Controller
  stor : Storage
  conv : Converter
  path : Path
  pd : Pd
  safe : Safety
  deriving DecidableEq, Repr

/-- The state of the machine: the commands that wait, first in first out, the SRAM and the device. -/
structure State where
  pending : List Instr
  /-- SRAM bytes by physical address, ascending, no entry 0 (Table 10.1) -/
  mem : List Host.Cell
  dev : Dev
  deriving DecidableEq, Repr

/-! ## Reset -/

def PortLink.reset : PortLink := ⟨false, false, false, 0, true, false, 0, []⟩
def FloatRx.reset : FloatRx := ⟨7, [], false, false⟩
def SnapGroup.reset : SnapGroup := ⟨0, [], [], false, [], false⟩
def Channel.reset : Channel := ⟨.idle, false, []⟩
def CanPort.reset : CanPort := ⟨false, 500, 2000, 800, 750, [], none⟩
def DmaChannel.reset : DmaChannel := ⟨[], 0, 0, 0, false, false, 0, 0, 0⟩
def StitchBuffer.reset : StitchBuffer := ⟨0, [], false⟩
def AuxConverter.reset : AuxConverter := ⟨none, false, 0, [], 2, false⟩
def DualImage.blank : DualImage := ⟨.blank, .blank⟩

/-- No supply present (the state before HV_POWER_ON and VLOG_RISE). -/
def Power.reset : Power :=
  { vstk := false, vlog := false, vlogLow := false, vio := false, kaBatMv := 0, ka := .none, rstbLow := false,
    headEn := false, logic := .off, hv := .inReset, role := .member, monRole := .member, laneH := false, laneF := false,
    laneU := false, trimLoaded := false, crystal := false, monLocked := false, markCycles := 0, startupTempDone := false,
    fieldLoaded := false, shipLatched := false, shipExit := false, hb1Off := false, wakeDue := false, shipEntry := false,
    closing := false, crossings := [] }

def WindowSums.empty : WindowSums :=
  { base := [0, 0, 0], load := [0, 0, 0], baseN := 0, loadN := 0, amps := 0, ampsN := 0, edgeBase := none, edgeLoad := none }

def Sampling.reset : Sampling :=
  { corner := none, stream := none, cells := 24, cs1 := true, cs2 := true, settleOther := 0, untimed := true, tickRow := 0,
    markNew := false, tickPending := false, outNo := 0, ownTick := none, history := [], held := none, cornerIns := [],
    cornerOuts := [], steady := [], terms := [], termIns := [], termOuts := [], mirrors := [], wide := [], widePrev := [],
    wideClipped := 0, wideClippedPrev := 0, stepPending := false, stepBetween := false, narrowRaw := [], narrow := [],
    clipped := 0, offsets := [],
    gains := [], ready := none, frames := [], framePos := 0, postLeft := 0, auxA := .reset, auxB := .reset,
    calibrated := false, ntcValid := [], ntcTemp := [] }

def Supervision.reset : Supervision :=
  { slots := [], mismatches := [], stackBad := 0, ovTripped := 0, uvTripped := 0, ovRaw := 0, uvRaw := 0,
    ovRun := 2 ^ 24 - 1, uvRun := 2 ^ 24 - 1, ovGroup := 0, uvGroup := 0, groupRuns := [], testing := none, fault := false,
    stage := 0, windowRow := 0, sums := .empty, again := false, countedPeriod := none, disturbed := false, finding := none,
    legacy := 0,
    wakeLow := false }

def Balancing.reset : Balancing :=
  { level7 := 0, level8 := 0, frameRow := 0, low := 0, hot := false, pOn := [], onSum := [], onPower := [],
    onCount := [], faultOver := 0, faultStuck := 0, gaugeDue := none, gaugeSteps := [], gaugeRow := none,
    gaugeSums := .empty, run := none, runDue := false, impCells := 0, impSource := 0,
    chargeInRest := ⟨0, 1⟩, chargeOutRest := ⟨0, 1⟩, energyInRest := ⟨0, 1⟩, energyOutRest := ⟨0, 1⟩, cellRest := [],
    step := none, clear := none, restore := none }

def Link.reset : Link :=
  { portA := .reset, portB := .reset, portC := .reset, rowsStarted := false, flags := 0, header := 0, slots := [],
    windows := [], sentOut := 0, sentRow := 0, downs := [], legsOut := [], legsBefore := [], rowLegs := [], outPs := 0,
    legMissed := false, ringRow := none, probed := [],
    address := 0, passAccepted := none, claimNonce := none, buffer0 := .reset, buffer1 := .reset,
    next1 := false, stitch := 0, upBits := [], upResponse := none, upReport := none, reportSent := [], rx := .reset,
    downBits := [], held := none, due := none, candidates := [], reportSeq := 0, report := none, measured := false,
    rowTaken := false, probing := false, alignDue := none,
    missedRows := 0, alarmSeen := false, bindOff := none, firstRow := 0 }

def Chain.reset : Chain :=
  { pass := 0, nonce := 0, full := false, opened := false, calling := false, assigning := none, claim := none,
    breakDue := false, reassigns := [], slot0 := none, thisPass := [], fragments := [], startRow := 0, incrementalAt := none,
    alignRow := none,
    closing := false, bindOff := none, ring := false, broken := false, ringMisses := 0, fallback := false,
    restart := false, branch := false, errorsAtOpen := [], lostWalk := false, lastValid := [], legs := [], tree := [],
    trunk := [], missed := [], counted := [], ports := [],
    timingRows := [], asked := [], upRx := [], upFrames := [], sets := [], windowChanges := [] }

def Service.reset : Service :=
  { canA := .reset, canB := .reset, spi := .reset, agent := .reset, wrongInRow := 0, codeLocked := false, code := 0,
    unlockUsed := false, portA := .reset, portB := .reset, spiEnabled := false, pubQueue := [], pubLatches := [],
    pubStart := [], emergencies := [], spiResponse := none, spiRefused := false, spiSent := [], requests := [], sequences := [],
    agentSeq := none, agentAnswer := [] }

def Controller.reset : Controller :=
  { pages := [], dma := List.replicate 16 .reset, clock := 0, running := none, irqHeld := none }

/-- FRAM as it leaves the factory: cleared, never stored (R441). -/
def Storage.factory : Storage :=
  { journal := none, generation := 0, commitSeq := 0, badSignatures := [], record := List.replicate 5 .blank,
    headImage := .blank, members := [], counterRecords := [], page55 := .blank, working := [], jobs := [],
    hostRun := none, counterReads := [], nand := false, factoryBad := [], worn := [], formatted := false, openPage := [],
    entryRows := [], openStart := 0, ended := none, intent := none, voids := [],
    badBlocks := [], pages := [], stateWritten := false, framVoids := [], framSkeins := [], framBad := [],
    nextBlock := 0, nextPage := 0, nextSeq := 0, erasedSkein := none, nandSent := [],
    closeDue := false,
    logQueue := [], droppedRead := true, calendarWrite := none, raiseCalendar := false, ticksToCorrect := 0,
    monTempBusy := false, ctrlTempBusy := false, monTempValid := 0, ctrlTempValid := 0, compensationDue := false,
    monSwatch := 0, monSkipped := false, romFailed := false, kaFresh := true }

def Phase.reset : Phase := ⟨0, false, 0, 0, [], false, false, none, false, false, false, false, 0, 0⟩

def Converter.reset : Converter :=
  { phases := List.replicate 6 .reset, first := 0, granted := [], run := false, reverse := false, targetMv := 0,
    rampMv := 0, nodeMv := 0, integral := 0, share := 0, region := 0, below := none, shedding := none, lastAdded := 6,
    limitUs := 0, startReady := false, stopFrom := 0, stopUs := 0, persist := 0, hb2Off := false, syncHz := 0, slewFrom := 0 }

def Path.reset : Path :=
  { noLoadMv := 0, floorOff := false, blocked := 0, allowMa := 0, good := none, found := none, diodeOn := false,
    outLimit := none, packMa := 0, tempOut := false, trickleMs := 0, prechargeMs := 0, chargeMs := 0, cvMs := 0,
    termMs := 0, cellOverMs := 0, packOverMs := 0, currentOverMs := 0, aboveTrickleMs := 0, abovePrechargeMs := 0,
    nimhHoldS := 0, nimhS := 0, nimhBack := 0, nimhSamples := [], nimhBest := 0, nimhDrop := false, nimhTemps := [],
    nimhRise := false, kaBatOk := false, kaWaiting := [] }

def Pd.reset : Pd :=
  { policy := false, cfg := [], awaitCaps := false, transition := none, request := none, epr := false, vconn := false, ra := false,
    discoverSent := 0, farSent := none, capsSent := 0, capsAcked := false, asking := false, endDue := false, discharging := false,
    after := 1, restart := false, sent := none }

def Safety.reset : Safety :=
  { trip := false, drive := false, fbClosed := false, failed := false, closing := false, held := false, opening := false,
    byTrip := false, pulse := .none, quiet := 0, overdue := false, laneFJudged := false, overMs := 0, shortRun := 0,
    clipRun := 0,
    hotDevices := [], blindDevices := [], balRead := [], dcinOpenMs := [0, 0, 0, 0, 0, 0, 0, 0], dcinClosedMs := [0, 0, 0, 0],
    dcinDiffMs := [0, 0, 0, 0], degraded := false, limited := false, resetDue := none,
    nextA5 := false, dcinDemand := 0, dcinDisc := 0, tempMs := 0, ageMs := 0,
    passRows := [], passes := [], checkFormed := false, checkDue := false, latent := [], latentRuns := false,
    latentFailed := [], swatchMarks := [] }
/-- The device before any supply is present. -/
def Dev.reset : Dev :=
  { regs := [], blobs := [], free := 0, pwr := .reset, snaps := List.replicate 7 .reset, samp := .reset, sup := .reset,
    bal := .reset, link := .reset, chain := .reset, svc := .reset, ctl := .reset, stor := .factory, conv := .reset, path := .reset,
    pd := .reset,
    safe := .reset }

/-- The machine at reset: no supply is present, every register holds its default, no command waits. -/
def State.reset : State := { pending := [], mem := [], dev := .reset }

end Sys2Proof.Machine
end

