-- ==== Sys2Proof/Machine/Ops.lean ====
section
/-! DEFINITION. The named operations over the device: register access, bits, counters, strings, event sources (R283, R284,
R256), the log queue (R403) and the predicates on roles and modes that every chapter uses. -/

namespace Sys2Proof

/-- Port A, B or C as 0, 1 or 2. -/
def Port.num : Port → Nat
  | .a => 0
  | .b => 1
  | .c => 2

end Sys2Proof

namespace Sys2Proof.Machine

/-- The outcome type of every meaning. -/
abbrev Res := Host.Outcome State Fault Refusal

/-- A command's effect on the device, memory and queue untouched. -/
def State.onDev (s : State) (f : Dev → Dev) : State := { s with dev := f s.dev }

/-! ## Registers -/

def Dev.reg (d : Dev) (r : Reg) : Int := d.regs.val r
def Dev.nat (d : Dev) (r : Reg) : Nat := (d.reg r).toNat
def Dev.on (d : Dev) (r : Reg) : Bool := d.reg r != 0
def Dev.bit (d : Dev) (r : Reg) (n : Nat) : Bool := (d.nat r).testBit n
def Dev.set (d : Dev) (r : Reg) (v : Int) : Dev := { d with regs := d.regs.assign r v }
def Dev.setNat (d : Dev) (r : Reg) (v : Nat) : Dev := d.set r (v : Int)
def Dev.setBool (d : Dev) (r : Reg) (b : Bool) : Dev := d.set r (if b then 1 else 0)
def Dev.setBit (d : Dev) (r : Reg) (n : Nat) (b : Bool) : Dev := d.setNat r (withBit (d.nat r) n b)
/-- Set the bits of a mask. -/
def Dev.orBits (d : Dev) (r : Reg) (m : Nat) : Dev := d.setNat r (d.nat r ||| m)
/-- Clear the bits of a mask. -/
def Dev.andNot (d : Dev) (r : Reg) (m : Nat) : Dev := d.setNat r (clearBits (d.nat r) m)

/-- Count up; a counter sticks at 0xFFFF_FFFF (R262, R209, R286, R420). -/
def Dev.bump (d : Dev) (r : Reg) : Dev := if d.reg r < 0xFFFFFFFF then d.set r (d.reg r + 1) else d

/-- Count up by n, sticking at 0xFFFF_FFFF. -/
def Dev.bumpBy (d : Dev) (r : Reg) (n : Nat) : Dev := d.set r (min (d.reg r + n) 0xFFFFFFFF)

/-- Every register whose key satisfies `p` returns to its default. -/
def Dev.dropRegs (d : Dev) (p : Nat → Bool) : Dev := { d with regs := d.regs.dropIf p }

/-! ## Strings and byte arrays -/

def findBlob (q : Nat) : List (Nat × List Nat) → Option (List Nat)
  | [] => none
  | (k, v) :: t => if k = q then some v else findBlob q t

def putBlob (q : Nat) (v : List Nat) : List (Nat × List Nat) → List (Nat × List Nat)
  | [] => [(q, v)]
  | (k, w) :: t => if q < k then (q, v) :: (k, w) :: t else if k = q then (q, v) :: t else (k, w) :: putBlob q v t

def Dev.blob (d : Dev) (key : Nat) (dflt : List Nat) : List Nat := (findBlob key d.blobs).getD dflt
def Dev.setBlob (d : Dev) (key : Nat) (v : List Nat) : Dev := { d with blobs := putBlob key v d.blobs }
def Dev.dropBlobs (d : Dev) (p : Nat → Bool) : Dev := { d with blobs := d.blobs.filter (fun e => !p e.1) }

/-! ## Free values -/

/-- A 32-bit value the manual leaves open, and the device that has used it. -/
def Dev.freeWord (d : Dev) : Word × Dev := (Config.freeWord d.free, { d with free := d.free + 1 })
def Dev.freeBool (d : Dev) : Bool × Dev := (Config.freeBool d.free, { d with free := d.free + 1 })

/-! ## Dies, roles and modes -/

/-- Index ranges that the monitor die holds (R21, R32). CounterSaveInterval (0x3620) is the head's own (R172). -/
def isMonIndex (i : Nat) : Bool :=
  i == 0x1000 || (0x1A00 ≤ i && i ≤ 0x1A07) || (0x2000 ≤ i && i ≤ 0x2FFF) || (0x3000 ≤ i && i ≤ 0x361F) || i == 0x9040

/-- Index ranges that the KA island holds (R52, R420, Table 12.8). -/
def isKaIndex (i : Nat) : Bool := i == 0x5820 || i == 0x4500

def isMonKey (k : Nat) : Bool := isMonIndex (k / 256)
/-- Registers of the KA island: its own indices and the safety registers of R366. -/
def isKaKey (k : Nat) : Bool :=
  isKaIndex (k / 256) || k == Reg.tripCause.key || k == Reg.safetyResetCause.key || k == Reg.lastTripRow.key
    || k == Reg.safetyResetCount.key

/-- Registers that a logic-field reset does not return to their defaults: the monitor die's, the KA island's and ResetCause
(R66). -/
def survivesLogicReset (k : Nat) : Bool := isMonKey k || isKaKey k || k == Reg.resetCause.key

/-- The head functions of the controller die run: the firmware executes. -/
def Dev.cpuLive (d : Dev) : Bool :=
  d.pwr.role == .head && (d.pwr.logic == .startup || d.pwr.logic == .active || d.pwr.logic == .sleepEntry)

/-- The head is in the Active mode. -/
def Dev.headActive (d : Dev) : Bool := d.pwr.role == .head && d.pwr.logic == .active

/-- The monitor die runs its DSP: not in reset, sleep or ship. -/
def Dev.monLive (d : Dev) : Bool := d.pwr.hv == .active || d.pwr.hv == .rolePending

/-- The CNV island's clock runs: in Active, and in an entry until its last step (Table 3.3, R73 step 5). -/
def Dev.cnvRuns (d : Dev) : Bool := d.headActive || (d.pwr.role == .head && d.pwr.logic == .sleepEntry)

/-- The KA island is supplied and not held inactive by the member role (R3; Table 2.7, columns Reset, Sleep, Ship). -/
def Dev.kaActive (d : Dev) : Bool :=
  d.pwr.ka != .none && (d.pwr.role == .head || d.pwr.logic == .inReset || d.pwr.logic == .sleep || d.pwr.logic == .ship)

def Dev.monHead (d : Dev) : Bool := d.pwr.monRole == .head

/-- The row number under R178. -/
def Dev.row (d : Dev) : Nat := d.nat Reg.rowNumber

/-! ## Supplies -/

/-- SupplyStatus (Table 3.7). -/
def Dev.refreshSupply (d : Dev) : Dev :=
  d.setNat Reg.supplyStatus
    ((if d.pwr.vstk then 1 else 0) + (if d.pwr.vlog then 2 else 0) + (if d.pwr.vlogLow then 4 else 0)
      + (if d.pwr.vio then 8 else 0) + (if 2400 ≤ d.pwr.kaBatMv then 16 else 0)
      + (if d.pwr.ka == .kaBat then 32 else 0) + (if d.pwr.crystal then 64 else 0) + (if d.pwr.monLocked then 128 else 0))

def Dev.setPwr (d : Dev) (f : Power → Power) : Dev := { d with pwr := f d.pwr }

/-! ## Lane F and IRQ_N levels -/

def reservedSource (e : Nat) : Bool := (21 ≤ e && e ≤ 31) || (109 ≤ e && e ≤ 111) || 127 ≤ e

/-- IRQ_N is driven low (R284). -/
def Dev.irqLow (d : Dev) : Bool :=
  match d.ctl.irqHeld with
  | some b => b
  | none => (List.range 128).any fun e =>
      d.on (Reg.eventFlag e) && d.on (Reg.eventEnable e) && d.bit (Reg.eventRouting e) 0
        && d.nat Reg.irqThreshold ≤ d.nat (Reg.eventPriority e)

/-- Header flag [11] (R284). -/
def Dev.headAttention (d : Dev) : Bool :=
  (List.range 128).any fun e =>
    d.on (Reg.eventFlag e) && d.on (Reg.eventEnable e) && d.bit (Reg.eventRouting e) 2

/-! ## Event sources -/

/-- DMA channels that wait for the rising of a source become ready (R277). -/
def DmaWaits (d : Dev) (e c : Nat) : Bool :=
  d.nat (Reg.channelState c) == 1 &&
    (match d.ctl.dma[c]? with
     | some ch => field (ch.words.getD 3 0).toNat 8 14 == e
     | none => false)

def Dev.dmaReady (d : Dev) (c : Nat) : Dev :=
  let d := d.set (Reg.channelState c) 2
  match d.ctl.dma[c]? with
  | some ch => { d with ctl := { d.ctl with
      dma := setNth d.ctl.dma c { ch with since := d.ctl.clock }, clock := d.ctl.clock + 1 } }
  | none => d

def Dev.dmaTrigger (d : Dev) (e : Nat) : Dev :=
  (List.range 16).foldl (fun d c => if DmaWaits d e c then d.dmaReady c else d) d

/-- Set the flag of a source and count the raise (R283). -/
def Dev.markSource (d : Dev) (e : Nat) : Dev :=
  ((d.set (Reg.eventFlag e) 1).bump (Reg.eventCount e)).setNat (Reg.eventLastRow e) d.row

/-- One place of the emergency queue, or a drop (R284, R256). -/
def Dev.queueEmergency (d : Dev) (e : Nat) : Dev :=
  if d.svc.emergencies.length < 16 then
    { d with svc := { d.svc with emergencies := d.svc.emergencies ++ [(d.nat (Reg.eventPriority e), e, d.row)] } }
  else d.bump Reg.emergencyDropped

/-- The flag, the count, the DMA triggers and the emergency frames of sources raised together (R283, R284, R256). Answers
the sources whose flag rose with their log route open. -/
def Dev.raiseBare (d : Dev) (es : List Nat) : Dev × List Nat :=
  let es := es.filter (fun e => !reservedSource e)
  let rising := es.filter (fun e => !d.on (Reg.eventFlag e))
  let d := es.foldl Dev.markSource d
  let d := rising.foldl Dev.dmaTrigger d
  let routed := rising.filter (fun e => d.on (Reg.eventEnable e) && d.bit (Reg.eventRouting e) 1)
  let ordered := sortBy (fun a b => d.nat (Reg.eventPriority b) < d.nat (Reg.eventPriority a)
      || (d.nat (Reg.eventPriority a) == d.nat (Reg.eventPriority b) && a ≤ b)) routed
  (ordered.foldl Dev.queueEmergency d,
    rising.filter (fun e => d.on (Reg.eventEnable e) && d.bit (Reg.eventRouting e) 3))

/-- The 16 bytes of a log entry (R402). -/
def Dev.logBytes (d : Dev) (kind code data : Nat) : List Nat :=
  leBytes 6 (d.nat Reg.calendarTime) ++ [kind ||| (if d.bit Reg.calendarStatus 0 then 0x80 else 0), code % 256]
    ++ leBytes 4 d.row ++ leBytes 4 data

/-- An entry joins the queue (R403). -/
def Dev.logPut (d : Dev) (e : List Nat) : Dev := { d with stor := { d.stor with logQueue := d.stor.logQueue ++ [e] } }

/-- A dropped log entry; source 117 on the first drop after a read of LogDropped (R403, Table 15.4). The entry that a routed
source 117 makes waits where the queue has room, and is dropped with it where it is full. -/
def Dev.logDrop (d : Dev) : Dev :=
  let d := d.bump Reg.logDropped
  if d.stor.droppedRead then
    let (d, logged) := ({ d with stor := { d.stor with droppedRead := false } } : Dev).raiseBare [117]
    if logged.isEmpty then d
    else if d.stor.logQueue.length < 64 then d.logPut (d.logBytes 0x01 117 (d.nat (Reg.eventCount 117)))
    else d.bump Reg.logDropped
  else d

/-- Queue a log entry (R403). -/
def Dev.log (d : Dev) (kind code data : Nat) : Dev :=
  if d.stor.logQueue.length < 64 then d.logPut (d.logBytes kind code data) else d.logDrop

/-- The log entry of a routed event (Table 15.2). -/
def Dev.logEvent (d : Dev) (e : Nat) : Dev :=
  d.log 0x01 e (if e == 96 then d.nat Reg.tripCause else d.nat (Reg.eventCount e))

/-- The effect of sources that rise together, log entries included. -/
def Dev.raiseNow (d : Dev) (es : List Nat) : Dev :=
  let (d, logged) := d.raiseBare es
  logged.foldl Dev.logEvent d

/-- Raise sources together. The event controller exists in the head role only and runs with the CPU (R283, chapter 10). -/
def Dev.raiseMany (d : Dev) (es : List Nat) : Dev := if d.cpuLive then d.raiseNow es else d

/-- Raise one source. -/
def Dev.raise (d : Dev) (e : Nat) : Dev := d.raiseMany [e]

/-- A source of the KA island (R332, R333). While the CPU does not run it waits, once each, until it does (DEDUCED, assumption
202). -/
def Dev.raiseKa (d : Dev) (e : Nat) : Dev :=
  if d.cpuLive then d.raise e
  else if d.path.kaWaiting.contains e then d
  else { d with path := { d.path with kaWaiting := d.path.kaWaiting ++ [e] } }

/-- Raise a source if a condition holds. -/
def Dev.raiseIf (d : Dev) (c : Bool) (e : Nat) : Dev := if c then d.raise e else d

/-- Emergency frames that fell due together, those queued after the first `n`, in their order (R284). A frame that found no
place was dropped as it was raised (DESIGN CHOICE, assumption 167). -/
def Dev.sortRaised (d : Dev) (n : Nat) : Dev :=
  let sorted := sortBy (fun (a b : Nat × Nat × Nat) => b.1 < a.1 || (a.1 == b.1 && a.2.1 ≤ b.2.1)) (d.svc.emergencies.drop n)
  { d with svc := { d.svc with emergencies := d.svc.emergencies.take n ++ sorted } }

/-- The state `t` that a command leads to from `s`: the emergency frames that it raises, one after another, fall due together
(R284, assumption 167). -/
def State.together (s t : State) : State := t.onDev (·.sortRaised s.dev.svc.emergencies.length)

/-! ## Ports -/


def Dev.portLink (d : Dev) : Port → PortLink
  | .a => d.link.portA
  | .b => d.link.portB
  | .c => d.link.portC

def Dev.setPortLink (d : Dev) (p : Port) (l : PortLink) : Dev :=
  { d with link := match p with
    | .a => { d.link with portA := l }
    | .b => { d.link with portB := l }
    | .c => { d.link with portC := l } }

def allPorts : List Port := [.a, .b, .c]

/-- A window frame's failure: type 0x2F with an abort code (R258, R273). -/
def Dev.windowAbort (d : Dev) (reason : Nat) : Dev :=
  let code := reason * 65536 + 1
  { (d.bump Reg.abortsSent).setNat Reg.lastAbort code with svc := { d.svc with spiResponse := some (0x2F, leBytes 4 code) } }

end Sys2Proof.Machine
end

