-- ==== Sys2Proof/Machine/Snapshots.lean ====
section
/-! DEFINITION. The coherent snapshots (R31 to R36): two banks per group, latched by the owning island. -/

namespace Sys2Proof.Machine

/-- Groups 3 and 6 exist in the head role only (R32), the role the logic field has latched (R3). -/
def Dev.groupExists (d : Dev) (g : Nat) : Bool := g < 7 && (d.cpuLive || d.monHead || (g != 3 && g != 6))

/-- The group's owning island runs (R36, Table 1.5, Table 3.3): MON runs in sleep too, DSP does not. -/
def Dev.ownerRuns (d : Dev) (g : Nat) : Bool :=
  if g == 3 then d.cnvRuns else if g == 6 then d.kaActive && d.cpuLive
  else if g == 4 then d.monLive || d.pwr.hv == .sleep else d.monLive

def Dev.group (d : Dev) (g : Nat) : SnapGroup := (d.snaps[g]?).getD .reset
def Dev.setGroup (d : Dev) (g : Nat) (v : SnapGroup) : Dev := { d with snaps := setNth d.snaps g v }

/-- The words of the bank that readers see (R33). -/
def SnapGroup.bank (s : SnapGroup) : List Nat := if s.cur1 then s.bank1 else s.bank0

/-- Size of a group in words (Table 1.5). -/
def groupWords (g : Nat) : Nat := nth [30, 12, 28, 31, 11, 388, 5] g

/-- What a fetch of word `w` of a group returns; a bank never written reads 0. -/
def Dev.bankWord (d : Dev) (g w : Nat) : Nat := nth (d.group g).bank w

/-- A 32-bit two's complement word. -/
def word32 (v : Int) : Nat := toCode 32 v

/-- Table 1.6 between the sequence numbers. -/
def Dev.cellSetWords (d : Dev) (untimed : Bool) : List Nat :=
  [d.samp.tickRow,
   (if untimed then 1 else 0) + (if d.nat Reg.balModeInForce == 2 then 2 else 0) + 4 * d.nat Reg.filterInForce]
    ++ (upTo 24).map (fun k => if k ≤ d.samp.cells then word32 (d.reg (Reg.cellVoltage k)) else 0)
    ++ [word32 (d.reg (Reg.currentSample 1)), word32 (d.reg (Reg.currentSample 2))]

/-- The two words of a 64-bit counter, low word first. -/
def pairWords (v : Nat) : List Nat := [v % 2 ^ 32, v / 2 ^ 32 % 2 ^ 32]

/-- Table 6.6, group 1. -/
def Dev.packWords (d : Dev) : List Nat :=
  [d.row] ++ pairWords (d.nat Reg.chargeIn) ++ pairWords (d.nat Reg.chargeOut) ++ pairWords (d.nat Reg.energyIn)
    ++ pairWords (d.nat Reg.energyOut) ++ [d.nat Reg.counterStatus]

/-- Table 6.6, group 2. -/
def Dev.balanceWords (d : Dev) : List Nat :=
  [d.row, d.nat Reg.balanceChargeSaturated] ++ (upTo 24).map (fun k => d.nat (Reg.balanceCharge k))

/-- Table 11.4. -/
def Dev.phaseWords (d : Dev) : List Nat :=
  [d.row,
   d.nat Reg.converterState + 8 * d.nat Reg.directionInForce + 16 * d.nat Reg.phaseActive
     + 1024 * d.nat Reg.phaseExcluded + 65536 * d.nat Reg.throttleStep
     + (if d.bit Reg.converterStatus 0 then 2 ^ 21 else 0) + (if d.bit Reg.converterStatus 1 then 2 ^ 22 else 0)]
    ++ (upTo 6).flatMap (fun p => [word32 (d.reg (Reg.phaseMeanCurrent p)), word32 (d.reg (Reg.phasePeakCurrent p)),
        d.nat (Reg.phaseFrequency p), d.nat (Reg.phaseState p) + 256 * d.nat (Reg.phaseRegion p)])
    ++ [word32 (d.reg Reg.outputVoltage), word32 (d.reg Reg.outputCurrent), word32 (d.reg Reg.inputPower)]

/-- AuxSet: 44 bytes hold the sequence numbers, the row and eight words with each input's result in [15:0]. Where a word
carries its settling and open-wire flags the manual does not say: bits [31:16] are free (assumption 12). -/
def Dev.auxWords (d : Dev) : List Nat :=
  [d.row] ++ (upTo 8).map (fun n => d.nat (Reg.ainRaw n) % 65536
    + 65536 * ((Config.freeWord (d.free + n)).toNat % 65536))

/-- Table 6.5 between the sequence numbers; word 1 and word 2 are the window's row, its cells and the run's source. -/
def Dev.impedanceWords (d : Dev) (cells source : Nat) : List Nat :=
  [d.row, cells + 2 ^ 24 * source]
    ++ (upTo 24).flatMap (fun k => (upTo 8).flatMap (fun t =>
        [word32 (d.reg (Reg.impReal k t)), word32 (d.reg (Reg.impImag k t))]))

/-- R409 between the sequence numbers. -/
def Dev.clockWords (d : Dev) : List Nat := pairWords (d.nat Reg.calendarTime) ++ [d.row]

/-- Copy the values into the spare bank with the next sequence number, make it current, set SnapReady and raise the
group's source (R31, R33, Table 10.7). -/
def Dev.latch (d : Dev) (g : Nat) (words : List Nat) : Dev :=
  let s := d.group g
  let seq := (s.seq + 1) % 2 ^ 32
  let bank := [seq] ++ words ++ [seq]
  let s' : SnapGroup := { s with
    seq := seq, bank0 := if s.cur1 then bank else s.bank0, bank1 := if s.cur1 then s.bank1 else bank,
    cur1 := !s.cur1, requested := false }
  let d := (d.setGroup g s').setBit Reg.snapReady g true
  let counts := (upTo 64).foldl (fun t p => if d.nat (Reg.pubMode p) == 2 && d.nat (Reg.pubGroup p) == g
      then Tab.put p ((Tab.find p t).getD 0 + 1) t else t) d.svc.pubLatches
  let d := { d with svc := { d.svc with pubLatches := counts } }
  d.raise (14 + g)

/-- A latch instant of a group (R31, R34, R36). -/
def Dev.latchInstant (d : Dev) (g : Nat) (words : List Nat) : Dev :=
  let s := d.group g
  let auto := d.bit Reg.snapAuto g
  if !d.groupExists g || !d.ownerRuns g then d
  else if !s.readers.isEmpty then (if auto then d.bump Reg.snapSkipped else d)
  else if auto || s.requested then d.latch g words
  else d

/-- A member, or a head before its first row, samples untimed; so does a member without a D or beyond tick reach (R38, R79,
R206, R207, R229). -/
def Dev.isUntimed (d : Dev) : Bool :=
  d.samp.untimed || (!d.monHead && (d.link.held.isNone || d.bit Reg.linkStatus 2))

/-- The words a group holds at its latch instant. -/
def Dev.groupContent (d : Dev) (g : Nat) : List Nat :=
  if g == 0 then d.cellSetWords d.isUntimed else if g == 1 then d.packWords else if g == 2 then d.balanceWords
  else if g == 3 then d.phaseWords else if g == 4 then d.auxWords
  else if g == 5 then d.impedanceWords d.bal.impCells d.bal.impSource else d.clockWords

/-- A latch instant with the group's own condition: group 0 at a multiple-of-8 tick (Table 1.5). -/
def Dev.snapshotInstant (d : Dev) (g : Nat) : Dev :=
  if (g == 0 && d.samp.tickRow % 8 != 0) || (g == 4 && d.nat Reg.selfCalState == 1) then d
  else
    let d' := d.latchInstant g (d.groupContent g)
    if g == 4 then { d' with free := d'.free + 9 } else d'

def execSnapshotLatchInstant (g : Nat) (s : State) : Res := .next (s.together (s.onDev (·.snapshotInstant g)))

/-- A reader fetches the first word of a group: its read opens (R33, Table 1.7). -/
def Dev.openRead (d : Dev) (g reader : Nat) : Dev :=
  if d.groupExists g then
    let s := d.group g
    (d.setGroup g { s with readers := if s.readers.contains reader then s.readers else s.readers ++ [reader] }).setBit
      Reg.snapReady g false
  else d

/-- A reader's read of a group closes (R33). -/
def Dev.closeRead (d : Dev) (g reader : Nat) : Dev :=
  if g < 7 then d.setGroup g { d.group g with readers := (d.group g).readers.filter (fun r => r != reader) } else d

/-- Every read that a reader has open closes. -/
def Dev.closeReader (d : Dev) (reader : Nat) : Dev := [0, 1, 2, 3, 4, 5, 6].foldl (fun d g => d.closeRead g reader) d

/-- A reader of the memory map fetches the first word of a group's bank: requestor 0 to 15, or 16 + c for DMA channel c. -/
def execSnapshotReadOpen (g reader : Nat) (s : State) : Res := .next (s.onDev (·.openRead g (16 + reader)))

/-- SnapHoldLimit expires for the read that has been open longest: the owner closes it (R34). -/
def Dev.holdExpires (d : Dev) (g : Nat) : Dev :=
  match (d.group g).readers with
  | reader :: _ => d.closeRead g reader
  | [] => d

def execSnapshotHoldExpiry (g : Nat) (s : State) : Res := .next (s.onDev (·.holdExpires g))

/-- A write to SnapLatch (R36, R21): the groups whose bits are set are latched at their next latch instant. DESIGN CHOICE
(assumption 91): a request still pending when its owning island stops stays pending, and is performed at the first latch
instant after the wake. -/
def Dev.requestLatches (d : Dev) (mask : Nat) : Dev :=
  [0, 1, 2, 3, 4, 5, 6].foldl (fun d g => if mask.testBit g && d.groupExists g && d.ownerRuns g
    then d.setGroup g { d.group g with requested := true } else d) d

end Sys2Proof.Machine
end

