-- ==== Sys2Proof/Machine/Counters.lean ====
section
/-! DEFINITION. Charge, energy and balancing-charge counters (R164 to R171). -/

namespace Sys2Proof.Machine

/-- Add num / den to a residue: the whole units carried and the residue left (R164). -/
def takeWhole (rest : Frac) (num den : Nat) : Nat × Frac :=
  let n := rest.num * den + num * rest.den
  let m := rest.den * den
  if m = 0 then (0, ⟨0, 1⟩)
  else
    let g := Nat.gcd (n % m) m
    (n / m, ⟨(n % m) / g, m / g⟩)

/-- A counter takes a step: its new value, its residue, and whether it saturates (R168). A saturated counter takes none. -/
def countStep (value max : Nat) (saturated : Bool) (rest : Frac) (num den : Nat) : Nat × Frac × Bool :=
  if saturated then (value, rest, true)
  else
    let (whole, rest') := takeWhole rest num den
    if max < value + whole then (max, ⟨0, 1⟩, true) else (value + whole, rest', false)

/-- The four pack counters: ChargeIn, ChargeOut, EnergyIn, EnergyOut. -/
def packCounter (i : Nat) : Reg :=
  if i == 0 then Reg.chargeIn else if i == 1 then Reg.chargeOut else if i == 2 then Reg.energyIn else Reg.energyOut

def Balancing.rest (b : Balancing) (i : Nat) : Frac :=
  if i == 0 then b.chargeInRest else if i == 1 then b.chargeOutRest else if i == 2 then b.energyInRest else b.energyOutRest

def Balancing.setRest (b : Balancing) (i : Nat) (f : Frac) : Balancing :=
  if i == 0 then { b with chargeInRest := f } else if i == 1 then { b with chargeOutRest := f }
  else if i == 2 then { b with energyInRest := f } else { b with energyOutRest := f }

/-- A step of a pack counter; source 11 on saturation (R168). -/
def Dev.countPack (d : Dev) (i num den : Nat) : Dev :=
  let sat := d.bit Reg.counterStatus i
  let (v, rest, sat') := countStep (d.nat (packCounter i)) (2 ^ 64 - 1) sat (d.bal.rest i) num den
  let d := { d.setNat (packCounter i) v with bal := d.bal.setRest i rest }
  if sat' && !sat then (d.setBit Reg.counterStatus i true).raise 11 else d

/-- A step of a cell's balancing-charge counter (R166, R168). -/
def Dev.countCell (d : Dev) (k num den : Nat) : Dev :=
  let sat := d.bit Reg.balanceChargeSaturated (k - 1)
  let rests := if d.bal.cellRest.length == 24 then d.bal.cellRest else List.replicate 24 ⟨0, 1⟩
  let (v, rest, sat') := countStep (d.nat (Reg.balanceCharge k)) (2 ^ 32 - 1) sat (rests.getD (k - 1) ⟨0, 1⟩) num den
  let d := { d.setNat (Reg.balanceCharge k) v with bal := { d.bal with cellRest := setNth rests (k - 1) rest } }
  if sat' && !sat then ((d.setBit Reg.balanceChargeSaturated (k - 1) true).setBit Reg.counterStatus 4 true).raise 11
  else d

/-- Channel x takes part in CounterSource (R164). -/
def Dev.sourceHas (d : Dev) (x : Nat) : Bool := d.nat Reg.counterSource == x - 1 || d.nat Reg.counterSource == 2

def Dev.currentOn (d : Dev) (x : Nat) : Bool := if x == 1 then d.samp.cs1 else d.samp.cs2

/-- CounterStatus bit [7], a live state (R164). -/
def Dev.refreshSource (d : Dev) : Dev :=
  d.setBit Reg.counterStatus 7 ((d.sourceHas 1 && !d.currentOn 1) || (d.sourceHas 2 && !d.currentOn 2))

/-- The code a channel passes to the integrators, with ShuntPolarity, 0 unless the channel is enabled and selected. -/
def Dev.sourceCode (d : Dev) (wide : List Int) (x : Nat) : Int :=
  if d.sourceHas x && d.currentOn x then
    (if d.on (Reg.shuntPolarity x) then -(nthInt wide (23 + x)) else nthInt wide (23 + x))
  else 0

/-- The integrated current as a fraction: amperes = num × 12.5 / den (R97). -/
def Dev.sourceCurrent (d : Dev) (wide : List Int) : Int × Nat :=
  let s1 := d.nat (Reg.shuntResistance 1)
  let s2 := d.nat (Reg.shuntResistance 2)
  (d.sourceCode wide 1 * s2 + d.sourceCode wide 2 * s1, s1 * s2)

/-- The sum of the wide-tap outputs of cells 1 to CellCount, µV (R165). -/
def Dev.stackUv (d : Dev) (wide : List Int) : Int := (wide.take d.samp.cells).foldl (· + ·) 0

/-- The integration step of an output, with the scaling, polarity and source of its moment (R97, R164, R165). -/
def Dev.stepOf (d : Dev) (wide mirrorUa : List Int) (wideClipped : Nat) : CounterStep :=
  let (num, den) := d.sourceCurrent wide
  { num := num, den := den, stack := d.stackUv wide,
    clipped := [1, 2].any (fun x => d.sourceHas x && d.currentOn x && wideClipped.testBit (23 + x)), mirror := mirrorUa }

/-- A step enters the counters: charge in µC (3125/4 × code / shunt), energy in mJ (code × µV / (shunt × 1,280,000)),
balancing charge in mC (µA / 16,000,000) (R164 to R166, R171). -/
def Dev.integrate (d : Dev) (s : CounterStep) : Dev :=
  let d := if s.num > 0 then d.countPack 0 (3125 * s.num.natAbs) (4 * s.den)
    else if s.num < 0 then d.countPack 1 (3125 * s.num.natAbs) (4 * s.den) else d
  let p := s.num * s.stack
  let d := if p > 0 then d.countPack 2 p.natAbs (1280000 * s.den)
    else if p < 0 then d.countPack 3 p.natAbs (1280000 * s.den) else d
  let d := if s.clipped then d.setBit Reg.counterStatus 6 true else d
  (upTo 24).foldl (fun d k =>
    let ua := nthInt s.mirror (k - 1)
    if ua > 0 then d.countCell k ua.natAbs 16000000 else d) d

/-- The step that waits for its row mark is taken. -/
def Dev.takeStep (d : Dev) : Dev :=
  match d.bal.step with
  | some s => ({ d with bal := { d.bal with step := none } } : Dev).integrate s
  | none => d

/-- The step of the output at the tick waits for the row mark; any other output is integrated at once (R167). A step still
waiting from an earlier tick is taken first, so no step is lost. -/
def Dev.integrateOutput (d : Dev) (atTick : Bool) (s : CounterStep) : Dev :=
  let d := d.takeStep
  if atTick then { d with bal := { d.bal with step := some s } } else d.integrate s

/-- The counters, residues and flags a clear selects return to 0 (R169). -/
def Dev.applyClear (d : Dev) (mask : Nat) : Dev :=
  let d := [0, 1, 2, 3].foldl (fun d i => if mask.testBit i then
    { (d.set (packCounter i) 0).setBit Reg.counterStatus i false with bal := d.bal.setRest i ⟨0, 1⟩ } else d) d
  let d := if mask.testBit 4 then
    { ((((upTo 24).foldl (fun d k => d.set (Reg.balanceCharge k) 0) d).set Reg.balanceChargeSaturated 0).setBit
        Reg.counterStatus 4 false) with bal := { d.bal with cellRest := [] } } else d
  if field mask 0 4 == 0 then d else (d.setBit Reg.counterStatus 5 false).setBit Reg.counterStatus 6 false

/-- A record is added to each counter under R168 and bit [5] clears (R170). -/
def Dev.applyRestore (d : Dev) (bytes : List Nat) : Dev :=
  let d := [0, 1, 2, 3].foldl (fun d i => d.countPack i (ofLe ((bytes.drop (8 * i)).take 8)) 1) d
  let d := (upTo 24).foldl (fun d k => d.countCell k (ofLe ((bytes.drop (32 + 4 * (k - 1))).take 4)) 1) d
  d.setBit Reg.counterStatus 5 false

/-- The 128-byte record of the counters (R170). -/
def Dev.counterRecord (d : Dev) : List Nat :=
  leBytes 8 (d.nat Reg.chargeIn) ++ leBytes 8 (d.nat Reg.chargeOut) ++ leBytes 8 (d.nat Reg.energyIn)
    ++ leBytes 8 (d.nat Reg.energyOut) ++ (upTo 24).flatMap (fun k => leBytes 4 (d.nat (Reg.balanceCharge k)))

/-- At each row mark: pending clear, pending restore, integration step of the tick's output, latch of groups 1 and 2
(R167). -/
def Dev.counterRowMark (d : Dev) : Dev :=
  if !d.monLive then d
  else
    let d := match d.bal.clear with
      | some m => { d with bal := { d.bal with clear := none } }.applyClear m
      | none => d
    let d := match d.bal.restore with
      | some b => { d with bal := { d.bal with restore := none } }.applyRestore b
      | none => d
    let d := d.takeStep
    (d.latchInstant 1 d.packWords).latchInstant 2 d.balanceWords

def execCounterRowMark (s : State) : Res := .next (s.together (s.onDev (·.counterRowMark)))

end Sys2Proof.Machine
end

