-- ==== Sys2Proof/Machine/Sampling.lean ====
section
/-! DEFINITION. Cell and current sampling (chapter 4): the tick, the decimator outputs and their taps, corner filter, stream
rate, settling and the sample buffer. -/

namespace Sys2Proof.Machine

/-- All 26 channels, one bit each. -/
def allChannels : Nat := 2 ^ 26 - 1

/-- Channel c (0 to 23 cells, 24 and 25 currents) converts (R88). -/
def Dev.channelOn (d : Dev) (c : Nat) : Bool :=
  if c < 24 then c < d.samp.cells else if c == 24 then d.samp.cs1 else d.samp.cs2

/-- The status object of a channel. -/
def channelStatus (c : Nat) : Reg := if c < 24 then Reg.cellStatus (c + 1) else Reg.currentStatus (c - 23)

/-- The channels of a mask start settling (R93); `other`: for a reason other than a corner change (R113). -/
def Dev.startSettling (d : Dev) (mask : Nat) (other : Bool) : Dev :=
  let d := d.orBits Reg.channelSettling mask
  let d := (List.range 26).foldl (fun d c => if mask.testBit c then d.setBit (channelStatus c) 1 true else d) d
  if other then { d with samp := { d.samp with settleOther := d.samp.settleOther ||| mask } } else d

/-- A channel's settling time elapses (R93). -/
def Dev.settlingEnd (d : Dev) (c : Nat) : Dev :=
  if c < 26 && d.monLive then
    let d := (d.setBit Reg.channelSettling c false).setBit (channelStatus c) 1 false
    { d with samp := { d.samp with settleOther := withBit d.samp.settleOther c false } }
  else d

def execSettlingEnd (c : Nat) (s : State) : Res := .next (s.onDev (·.settlingEnd c))

/-- LinkStatus bit [1] shows whether the tick is timed (Table 7.8). -/
def Dev.refreshTimed (d : Dev) : Dev := d.setBit Reg.linkStatus 1 (!d.isUntimed)

/-- R207: a member whose D + 0.5 µs exceeds TickAlign sets LinkStatus bit [2]. -/
def Dev.refreshReach (d : Dev) : Dev :=
  if d.monHead then (d.setBit Reg.linkStatus 2 false).refreshTimed
  else
    (match d.link.held with
      | some v => d.setBit Reg.linkStatus 2 (d.nat Reg.tickAlign < v + 500000)
      | none => d).refreshTimed

/-- `row` has not been reached at `now`, by the smaller way round the 32-bit count. -/
def rowAhead (row now : Nat) : Bool := (row + 2 ^ 32 - now) % 2 ^ 32 != 0 && (row + 2 ^ 32 - now) % 2 ^ 32 < 2 ^ 31

/-- A TickAlign broadcast takes effect at the tick of the row it names, or at the first tick after it where that row's mark
was lost (R204). -/
def Dev.alignAtTick (d : Dev) (row : Nat) : Dev :=
  match d.link.alignDue with
  | some (r, v) => if !rowAhead r row then
      ({ d with link := { d.link with alignDue := none } }.setNat Reg.tickAlign v).refreshReach else d
  | none => d

/-! ## Formats -/

/-- Gauge-set correction (R131): (raw − offset) × gain, gain Q2.30, rounded to the channel's LSB,
an exact half away from zero (DESIGN CHOICE, assumption 177). -/
def gaugeCorrect (offset : Int) (gain : Nat) (raw : Int) : Int := roundDiv ((raw - offset) * gain) (2 ^ 30)

/-- The range of a channel's output (R96). -/
def clipChannel (c : Nat) (v : Int) : Int :=
  if c < 24 then clampInt (-600000) 5250000 v else clampInt (-8388607) 8388607 v

/-- Cell stream code (R95). -/
def cellStream (uv : Int) : Nat := (roundDiv (uv + 750000) 6).toNat

/-- Current stream code, 20 bits, never the no-sample code (R95). -/
def currentStream (code : Int) : Nat := toCode 20 (clampInt (-524287) 524287 (roundDiv code 16))

/-- Current in mA from a current code (R97). R97 says only that it is rounded: an exact half goes away from zero (DESIGN CHOICE,
assumption 189). -/
def currentMa (code : Int) (shunt : Nat) (inverted : Bool) : Int :=
  let ma := roundDiv (code * 12500) shunt
  if inverted then -ma else ma

/-- Row divisor of a stream rate (Table 4.4). -/
def rowDivisor (rate : Nat) : Nat := if rate == 0 then 8 else if rate == 1 then 32 else 64

/-- The channel list of R187: channels 0 to 25 in stitch order. -/
def Dev.channelList (d : Dev) : List Nat :=
  List.range d.samp.cells ++ (if d.samp.cs1 then [24] else []) ++ (if d.samp.cs2 then [25] else [])

/-- The stream values of a sample set (R188, Table 4.5). -/
def Dev.streamValues (d : Dev) : List Nat :=
  d.channelList.map fun c => if c < 24 then cellStream (nthInt d.samp.narrow c) else currentStream (nthInt d.samp.narrow c)

/-- The last stitch of a buffer's set may still have to leave when the set of `row` is taken: it travels in row R + d
(R188). -/
def StitchBuffer.busy (b : StitchBuffer) (row divisor : Nat) : Bool :=
  b.inTransit && (row + 2 ^ 32 - b.row) % 2 ^ 32 ≤ divisor

/-- A sample set enters the stitch buffer whose turn it is, unless that buffer's set is still in transit (R188). -/
def Dev.storeSet (d : Dev) (row : Nat) : Dev :=
  let b : StitchBuffer := ⟨row, d.streamValues, true⟩
  let div := rowDivisor (d.nat Reg.streamRateInForce)
  if d.link.next1 then
    (if d.link.buffer1.busy row div then d else { d with link := { d.link with buffer1 := b, next1 := false } })
  else
    (if d.link.buffer0.busy row div then d else { d with link := { d.link with buffer0 := b, next1 := true } })

/-- The live objects take the stream sample (R94, Tables 4.8 and 4.9). -/
def Dev.liveObjects (d : Dev) : Dev :=
  let unt := d.isUntimed
  let d := (List.range 24).foldl (fun d c =>
    if c < d.samp.cells then
      ((((d.set (Reg.cellVoltage (c + 1)) (nthInt d.samp.narrow c)).set (Reg.cellVoltageUncorrected (c + 1))
        (nthInt d.samp.narrowRaw c)).setBit (Reg.cellStatus (c + 1)) 0 (d.samp.clipped.testBit c)).setBit
        (Reg.cellStatus (c + 1)) 2 unt) else d) d
  [1, 2].foldl (fun d x =>
    if d.currentOn x then
      let code := nthInt d.samp.narrow (23 + x)
      (((d.set (Reg.currentSample x) code).set (Reg.current x)
        (currentMa code (d.nat (Reg.shuntResistance x)) (d.on (Reg.shuntPolarity x)))).setBit (Reg.currentStatus x) 0
        (d.samp.clipped.testBit (23 + x))).setBit (Reg.currentStatus x) 2 unt
    else d) d

/-! ## The sample buffer (R98, R99) -/

/-- Frames of the ring (R98). -/
def bufferFrames : Nat := 1213

/-- The frame of one output (R98). -/
def Dev.bufferFrame (d : Dev) (atTick : Bool) : List Int :=
  ((d.samp.tickRow % 2 ^ 31 * 2 + (if atTick then 0 else 1) : Nat) : Int) :: d.samp.narrow

/-- Write one frame while filling, or while frames remain after the trigger (R99). -/
def Dev.bufferWrite (d : Dev) (atTick : Bool) : Dev :=
  let st := d.nat Reg.bufferState
  if st == 1 || (st == 2 && d.samp.postLeft != 0) then
    { d with samp := { d.samp with
      frames := (d.bufferFrame atTick :: d.samp.frames).take bufferFrames,
      framePos := (d.samp.framePos + 1) % bufferFrames,
      postLeft := if st == 2 then d.samp.postLeft - 1 else d.samp.postLeft } }
  else d

/-- The cause of a trigger holds: a comparator trip shows only where the comparator is not under test (R120), a clip where an
output clipped; the software trigger and the alarm symbol are events of their own (Table 4.13). -/
def Dev.triggerCause (d : Dev) (t : Nat) : Bool :=
  let tested := match d.sup.testing with | some k => 2 ^ (k - 1) | none => 0
  if t == 1 then clearBits (d.sup.ovTripped ||| d.sup.uvTripped) tested != 0
  else if t == 2 then (d.samp.clipped ||| d.samp.wideClipped) != 0 else true

/-- An enabled trigger while filling (R99). -/
def Dev.bufferTriggered (d : Dev) (t : Nat) : Dev :=
  if d.nat Reg.bufferState == 1 && t < 4 && d.bit Reg.bufferTrigger t && d.triggerCause t then
    { ((d.set Reg.bufferState 2).setNat Reg.bufferTriggerRow d.samp.tickRow) with
      samp := { d.samp with postLeft := d.nat Reg.bufferPostFrames } }
  else d

def execBufferTrigger (t : Nat) (s : State) : Res := .next (s.onDev (·.bufferTriggered t))

/-- The post-trigger frames are written: the capture stops (R99). -/
def Dev.bufferFrozen (d : Dev) : Dev :=
  if d.nat Reg.bufferState == 2 && d.samp.postLeft == 0 then
    (d.set Reg.bufferState 3).setNat Reg.bufferFirstFrame
      ((d.samp.framePos + bufferFrames - d.samp.frames.length) % bufferFrames)
  else d

def execBufferFreeze (s : State) : Res := .next (s.onDev (·.bufferFrozen))

/-- BufferCommand 2: filling again, the next frame overwrites the oldest (R99). With BufferMode 0 nothing is armed. -/
def Dev.bufferRearmed (d : Dev) : Dev :=
  if d.on Reg.bufferMode then d.set Reg.bufferState 1 else d

/-- A write of BufferMode (R99): 1 fills the ring, 0 is off. -/
def Dev.bufferModeWritten (d : Dev) (v : Nat) : Dev :=
  let d := d.setNat Reg.bufferMode v
  if v == 1 then (if d.nat Reg.bufferState == 0 then d.set Reg.bufferState 1 else d) else d.set Reg.bufferState 0

/-! ## The taps (R90, R91, R131, R149, R150) -/

/-- The values of one channel in a history. -/
def column (h : List (List Int)) (c : Nat) : List Int := h.map (fun o => nthInt o c)

/-- A filter memory of `n` places holds the value `x` everywhere; places not yet filled hold 0. -/
def atRest (n : Nat) (h : List Int) (x : Int) : Bool := h.all (· == x) && (x == 0 || n ≤ h.length)

/-- The corner filter of a code 0 to 3 (R91): a filter at rest on its input gives its input, since its gain at 0 Hz is 1;
away from rest the output is free (assumption 9). -/
def cornerOut (code : Nat) (ins outs : List Int) (x : Int) : Int :=
  if atRest 4 ins x && atRest 4 outs x then x else (Config.cornerFilter code ins outs x).toInt

/-- Settling time of a corner code in ms (Table 4.3). -/
def settlingMs (code : Nat) : Nat := ([180, 36, 8, 3, 1][code]?).getD 1

/-- 0.01 % of the full scale of channel c, which is the larger end of its code range (Table 4.5; DESIGN CHOICE, assumption 158). -/
def settledWithin (c : Nat) : Int := if c < 24 then 525 else 838

/-- The corner filter's output once its input has stood for `steady` outputs: within 0.01 % of full scale of that input from the
settling time on (R91). -/
def settledOut (code c steady : Nat) (x out : Int) : Int :=
  if 16 * settlingMs code ≤ steady then max (x - settledWithin c) (min (x + settledWithin c) out) else out

/-- The copy of the decimator response over its last 25 inputs, newest first (R150, R159; assumption 9): at rest its input. -/
def copyOut (h : List Int) : Int := if atRest 25 h (nthInt h 0) then nthInt h 0 else (Config.decimatorCopy h).toInt

/-- e_j of R147 in pV from the mirror currents in µA: the wire resistances are in µΩ. -/
def Dev.wireError (d : Dev) (mirrorUa : List Int) (j : Nat) : Int :=
  let i (k : Nat) : Int := if 1 ≤ k && k ≤ d.samp.cells then nthInt mirrorUa (k - 1) else 0
  d.reg (Reg.wireRdown j) * i (j + 1) - d.reg (Reg.wireRup j) * i j

/-- The terms e_k − e_(k−1) of the cells (R147); without the results of the wire-gauge routine there is nothing to form. -/
def Dev.wireTerms (d : Dev) (mirrorUa : List Int) : List Int :=
  if d.nat Reg.wireGaugeState == 2 then (upTo 24).map (fun k => d.wireError mirrorUa k - d.wireError mirrorUa (k - 1))
  else List.replicate 24 0

/-- What feeds the corner filter: the output, or the mean held in blank mode for the cells (R149). -/
def Dev.filterInput (d : Dev) (raw : List Int) (c : Nat) : Int :=
  match d.samp.held with
  | some h => if c < 24 then nthInt h c else nthInt raw c
  | none => nthInt raw c

/-- Outputs for which the input of channel c's corner filter has stood, the one in formation included. -/
def Dev.steadyFor (d : Dev) (raw : List Int) (c : Nat) : Nat :=
  if d.samp.cornerIns.head?.any (fun i => nthInt i c == d.filterInput raw c) then (d.samp.steady[c]?).getD 0 + 1 else 1

/-- The narrow tap of a channel before correction (R90, R91): code 4 bypasses the corner filter. -/
def Dev.narrowBefore (d : Dev) (raw : List Int) (c : Nat) : Int :=
  let code := d.nat Reg.filterInForce
  let x := d.filterInput raw c
  if !d.channelOn c then 0
  else if code == 4 then x
  else settledOut code c (d.steadyFor raw c) x (cornerOut code (column d.samp.cornerIns c) (column d.samp.cornerOuts c) x)

/-- The term of a cell through the copies of the decimator and corner-filter responses (R150), pV. -/
def Dev.termOut (d : Dev) (c : Nat) : Int :=
  let x := copyOut (column d.samp.terms c)
  if d.nat Reg.filterInForce == 4 then x
  else cornerOut (d.nat Reg.filterInForce) (column d.samp.termIns c) (column d.samp.termOuts c) x

/-- The correction of the factors in force. -/
def Dev.corrected (d : Dev) (c : Nat) (v : Int) : Int :=
  gaugeCorrect (nthInt d.samp.offsets c) (d.samp.gains.getD c (2 ^ 30)) v

/-- The wide tap of a channel after correction, before it clips. -/
def Dev.wideOf (d : Dev) (raw : List Int) (c : Nat) : Int := if d.channelOn c then d.corrected c (nthInt raw c) else 0

/-- The narrow tap of a channel after correction and, in compensate mode, less its term (R150), before it clips. -/
def Dev.narrowOf (d : Dev) (raw : List Int) (c : Nat) : Int :=
  if !d.channelOn c then 0
  else
    let v := d.corrected c (d.narrowBefore raw c)
    if c < 24 && d.nat Reg.balModeInForce == 1 then roundDiv (v * 1000000 - d.termOut c) 1000000 else v

/-- Number of set bits below 26. -/
def countBits (m : Nat) : Nat := ((List.range 26).filter (fun c => m.testBit c)).length

/-- The channels whose value a clip changes, one bit each. -/
def clipMask (vs : List Int) : Nat := maskOf ((List.range 26).filter (fun c => nthInt vs c != clipChannel c (nthInt vs c)))

def clipAll (vs : List Int) : List Int := (List.range 26).map (fun c => clipChannel c (nthInt vs c))

/-- The outputs since the tick of a row: 0 is the one at the tick. -/
def Dev.outputsSince (d : Dev) (row : Nat) : Nat := (d.samp.outNo + 2 ^ 33 - 2 * row) % 2 ^ 33

/-- The mean of the last seven decimator outputs is held at the corner filter's input from the 255th output of a held frame
on (R149); the output itself stands first in the history. -/
def Dev.holdMean (d : Dev) : Dev :=
  if d.on Reg.balHeld && d.outputsSince d.bal.frameRow == 255 && 7 ≤ d.samp.history.length then
    { d with samp := { d.samp with
      held := some ((List.range 24).map (fun c => meanInt ((d.samp.history.take 7).map (fun o => nthInt o c)))) } }
  else d

/-- An output's number, its raw values and its mirror currents enter the histories; a step of the factors since the output
before it shows between the two (R113). -/
def Dev.noteOutput (d : Dev) (raw mirrorUa : List Int) : Dev :=
  { d with samp := { d.samp with
    outNo := 2 * d.samp.tickRow + (if d.samp.tickPending then 0 else 1), tickPending := false,
    history := (raw.take 24 :: d.samp.history).take 7,
    terms := (d.wireTerms mirrorUa :: d.samp.terms).take 25,
    mirrors := (mirrorUa :: d.samp.mirrors).take 25,
    widePrev := d.samp.wide, wideClippedPrev := d.samp.wideClipped,
    stepBetween := d.samp.stepPending, stepPending := false } }

/-- Both taps of an output (R90). -/
def Dev.formTaps (d : Dev) (raw : List Int) : Dev :=
  let before := (List.range 26).map (d.narrowBefore raw)
  let term := (List.range 24).map d.termOut
  let wide := (List.range 26).map (d.wideOf raw)
  let narrow := (List.range 26).map (d.narrowOf raw)
  { d with samp := { d.samp with
    cornerIns := ((List.range 26).map (d.filterInput raw) :: d.samp.cornerIns).take 4,
    cornerOuts := (before :: d.samp.cornerOuts).take 4,
    steady := (List.range 26).map (d.steadyFor raw),
    termIns := ((List.range 24).map (fun c => copyOut (column d.samp.terms c)) :: d.samp.termIns).take 4,
    termOuts := (term :: d.samp.termOuts).take 4,
    wide := clipAll wide, wideClipped := clipMask wide,
    narrowRaw := before, narrow := clipAll narrow, clipped := clipMask narrow } }

/-! ## Changes held for a tick -/

/-- Channels in use, one bit each. -/
def Dev.usedChannels (d : Dev) : Nat := maskOf ((List.range 26).filter (fun c => d.channelOn c))

/-- The memories of the corner filter and of its copy take each channel's last output (R92): a steady input shows no step.
DEDUCED (assumption 93): the last narrow-tap output is the one before correction, which is what the filter gives. -/
def Sampling.preload (s : Sampling) : Sampling :=
  { s with
    cornerIns := List.replicate 4 s.narrowRaw, cornerOuts := List.replicate 4 s.narrowRaw, steady := [],
    termIns := List.replicate 4 (s.termOuts.headD []), termOuts := List.replicate 4 (s.termOuts.headD []) }

/-- A held FilterCorner write at the first tick of a multiple-of-8 row (R92). Of "every channel" those in use start settling; a
channel that is stopped or disabled takes no part (DESIGN CHOICE, assumption 193). -/
def Dev.cornerApply (d : Dev) : Dev :=
  match d.samp.corner with
  | some c => if d.monLive && d.samp.tickRow % 8 == 0 then
      (({ d with samp := { d.samp.preload with corner := none } } : Dev).setNat Reg.filterInForce c).startSettling
        d.usedChannels false
    else d
  | none => d

def execFilterCornerApply (s : State) : Res := .next (s.onDev (·.cornerApply))

/-- Share mode and index widths of WindowAssignment (Table 7.8). -/
def windowShare (wa : Nat) : Nat := field wa 7 8

/-- Float rate of a window assignment (R194): 0 until a window is assigned. -/
def floatRateOf (wa : Nat) : Nat :=
  if field wa 0 6 == 0x7F then 0
  else if windowShare wa == 0 then 8000 else if windowShare wa == 1 then 2000 else 1000

/-- A StreamRate write at the first tick of a multiple-of-64 row (R94). -/
def Dev.streamApply (d : Dev) : Dev :=
  match d.samp.stream with
  | some c => if d.monLive && d.samp.tickRow % 64 == 0 then
      { d with samp := { d.samp with stream := none } }.setNat Reg.streamRateInForce c else d
  | none => d

def execStreamRateApply (s : State) : Res := .next (s.onDev (·.streamApply))

end Sys2Proof.Machine
end

