-- ==== Sys2Proof/Machine/Auxiliary.lean ====
section
/-! DEFINITION. The auxiliary converters, thermistors and self-calibration (R102 to R109, R127 to R129). -/

namespace Sys2Proof.Machine

/-- What a write to an object does: the device after it, or the abort reason of Table 9.8. -/
abbrev Written := Except Nat Dev

/-- Abort reasons of Table 9.8. -/
def noSuchObject : Nat := 0x0101
def notInRole : Nat := 0x0102
def readOnly : Nat := 0x0201
def writeOnly : Nat := 0x0202
def commissioningRequired : Nat := 0x0203
def unlockRequired : Nat := 0x0204
def wrongCode : Nat := 0x0205
def lengthMismatch : Nat := 0x0301
def outOfRange : Nat := 0x0302
def commandRefused : Nat := 0x0303
def resourceExhausted : Nat := 0x0304
def unknownCommand : Nat := 0x0401
def outOfSequence : Nat := 0x0402
def timedOut : Nat := 0x0403
def superseded : Nat := 0x0404
def hardwareFault : Nat := 0x0501
def protectionFault : Nat := 0x0502
def memberNotPresent : Nat := 0x0601
def memberNoResponse : Nat := 0x0602

/-! ## Converters and passes -/

def Dev.aux (d : Dev) (b : Bool) : AuxConverter := if b then d.samp.auxB else d.samp.auxA
def Dev.setAux (d : Dev) (b : Bool) (c : AuxConverter) : Dev :=
  { d with samp := if b then { d.samp with auxB := c } else { d.samp with auxA := c } }

/-- Input n is the even member of a differential pair in force (R102). -/
def Dev.pairedAway (d : Dev) (n : Nat) : Bool := n % 2 == 0 && d.bit (Reg.ainConfig (n - 1)) 1

/-- Input n is converted differentially (R102). -/
def Dev.differential (d : Dev) (n : Nat) : Bool := n % 2 == 1 && d.bit (Reg.ainConfig n) 1

/-- The inputs of a pass, ascending (R104). -/
def Dev.passInputs (d : Dev) (b : Bool) : List Nat :=
  (if b then [5, 6, 7, 8] else [1, 2, 3, 4]).filter (fun n => d.bit (Reg.ainConfig n) 0 && !d.pairedAway n)

def Dev.calibrating (d : Dev) : Bool := d.nat Reg.selfCalState == 1

/-- The reference selection takes effect when no conversion is in progress (R103). -/
def Dev.applyRef (d : Dev) (b : Bool) : Dev :=
  let c := d.aux b
  if c.refPending then
    d.setAux b { c with ref := d.nat (if b then Reg.auxRefB else Reg.auxRefA), refPending := false } else d

/-- A pass ends: it counts, and mode 2 starts the next (R104). -/
def Dev.endPass (d : Dev) (b : Bool) : Dev :=
  let c := d.aux b
  let inputs := d.passInputs b
  let next := if d.nat Reg.auxMode == 2 && !inputs.isEmpty then some inputs else none
  (d.setAux b { c with pass := next, passDone := true, passes := c.passes + 1 }).applyRef b

/-- A pass starts; one without enabled inputs ends at once (R104). -/
def Dev.startPass (d : Dev) (b : Bool) : Dev :=
  let inputs := d.passInputs b
  if inputs.isEmpty then d.endPass b else d.setAux b { d.aux b with pass := some inputs }

def Dev.dropPass (d : Dev) (b : Bool) : Dev := (d.setAux b { d.aux b with pass := none }).applyRef b

/-- In mode 2 a converter without a pass starts one (R104). -/
def Dev.continuePasses (d : Dev) : Dev :=
  if d.nat Reg.auxMode == 2 && d.monLive && !d.calibrating then
    [false, true].foldl (fun d b => if (d.aux b).pass.isSome then d else d.startPass b) d
  else d

/-- At a paced tick (R104). -/
def Dev.paceTick (d : Dev) : Dev :=
  if d.monLive && d.nat Reg.auxMode == 3 && !d.calibrating && d.nat Reg.auxPace != 0
      && d.samp.tickRow % d.nat Reg.auxPace == 0 then
    [false, true].foldl (fun d b => if (d.aux b).pass.isSome then d.bump Reg.auxPaceMissed else d.startPass b) d
  else d

def execAuxPaceTick (s : State) : Res := .next (s.onDev (·.paceTick))

/-- AuxStart: one pass on each converter in mode 1, refused while a pass runs (R104). Where no pass runs and mode 1 does not, or a
self-calibration does, R104 is silent: the write is accepted and starts nothing (DESIGN CHOICE, assumption 191). -/
def Dev.writeAuxStart (d : Dev) : Written :=
  if d.samp.auxA.pass.isSome || d.samp.auxB.pass.isSome then .error commandRefused
  else if d.nat Reg.auxMode == 1 && d.monLive && !d.calibrating then .ok ((d.startPass false).startPass true)
  else .ok d

/-- AuxMode (R104): 0 makes no conversions, 2 runs passes one after another. -/
def Dev.writeAuxMode (d : Dev) (v : Nat) : Dev :=
  let d := d.setNat Reg.auxMode v
  if v == 0 then (d.dropPass false).dropPass true else d.continuePasses

/-- The selection of AuxRefA or AuxRefB changes (R103): it clears the settled flag and acts at the end of the conversion in progress. -/
def Dev.takeRef (d : Dev) (b : Bool) : Dev :=
  let v := d.nat (if b then Reg.auxRefB else Reg.auxRefA)
  let d := d.setBit Reg.auxRefSettled (if b then 1 else 0) false
  if (d.aux b).pass.isSome || !(d.aux b).urgent.isEmpty then d.setAux b { d.aux b with refPending := true }
  else d.setAux b { d.aux b with ref := v, refPending := false }

/-- A write of AuxRefA or AuxRefB. -/
def Dev.writeAuxRef (d : Dev) (b : Bool) (v : Nat) : Dev :=
  let r := if b then Reg.auxRefB else Reg.auxRefA
  if d.nat r == v then d else (d.setNat r v).takeRef b

/-- The settling time has elapsed; with REFIN the flag stays clear while REFIN is outside 1.0 to 4.6 V (R103). -/
def Dev.refSettled (d : Dev) (b : Bool) (inRange : Bool) : Dev :=
  if d.monLive && !(d.aux b).refPending then
    d.setBit Reg.auxRefSettled (if b then 1 else 0) ((d.aux b).ref != 1 || inRange)
  else d

def execAuxRefSettled (conv : Nat) (inRange : Bool) (s : State) : Res := .next (s.onDev (·.refSettled (conv == 1) inRange))

/-! ## Results -/

/-- Resolution in bits (AinConfig [5:4]). -/
def ainBits (cfg : Nat) : Nat := if field cfg 4 5 == 1 then 14 else if field cfg 4 5 == 2 then 12 else 16

/-- The correction of R108 on an N-bit code: offsets are in 16-bit LSB, the gain is Q2.30.
DESIGN CHOICE (assumption 108): the corrected code is rounded to nearest, ties away from zero. -/
def auxCorrect (bits : Nat) (offset : Int) (gain : Nat) (code : Int) : Int :=
  roundDiv ((code * 2 ^ (16 - bits) - offset) * gain) (2 ^ 30 * 2 ^ (16 - bits))

/-- The code range of a result (R105). -/
def auxRange (bits : Nat) (diff : Bool) (v : Int) : Int :=
  if diff then clampInt (-(2 ^ (bits - 1))) (2 ^ (bits - 1) - 1) v else clampInt 0 (2 ^ bits - 1) v

/-- A single-ended result at full scale, or a differential one at either limit (R105). -/
def atLimit (bits : Nat) (diff : Bool) (v : Int) : Bool :=
  if diff then v == -(2 ^ (bits - 1)) || v == 2 ^ (bits - 1) - 1 else v == 2 ^ bits - 1

/-- AinRaw of a result (R105). -/
def auxFormat (cfg bits : Nat) (v : Int) : Nat :=
  if cfg.testBit 6 then toCode bits v * 2 ^ (16 - bits) else toCode 16 v

/-- The corrected result of input n for a raw code. -/
def Dev.auxResult (d : Dev) (n : Nat) (code : Int) : Int :=
  let bits := ainBits (d.nat (Reg.ainConfig n))
  let b := 4 < n
  auxRange bits (d.differential n)
    (auxCorrect bits (d.reg (if b then Reg.auxOffsetB else Reg.auxOffsetA))
      (d.nat (if b then Reg.auxGainB else Reg.auxGainA)) code)

/-- Reference voltage of a converter in µV (R103). -/
def Dev.refUv (d : Dev) (b : Bool) : Nat :=
  let r := (d.aux b).ref
  if r == 0 then 2500000 else if r == 1 then d.nat Reg.refinNominal else 5000000

/-- AinValue before its number format (R105). DESIGN CHOICE (assumption 109): it is rounded to the nearest microvolt, ties away
from zero. -/
def Dev.auxValue (d : Dev) (n : Nat) (v : Int) : Int :=
  let bits := ainBits (d.nat (Reg.ainConfig n))
  let full := if d.differential n then bits - 1 else bits
  roundDiv (v * d.refUv (4 < n) * d.nat (Reg.ainDivider n)) (1000 * 2 ^ full)

/-! ## Thermistors -/

/-- 1.0 of the fixed-point logarithm. -/
def lnOne : Nat := 2 ^ 80

/-- Σ y^(2i+1) / (2i+1) for y = num / den, |y| at most 1/3, in units of 2^−80. -/
def atanhSum (num : Int) (den : Nat) : Nat → Nat → Int → Int
  | 0, _, _ => 0
  | fuel + 1, k, term => term / (2 * k + 1 : Nat) + atanhSum num den fuel (k + 1) (term * num / den * num / den)

def atanhScaled (num : Int) (den : Nat) : Int := atanhSum num den 40 0 ((lnOne : Int) * num / den)

/-- ln (p / q) in units of 2^−80, p and q above 0. -/
def lnScaled (p q : Nat) : Int :=
  let e : Int := (Nat.log2 p : Int) - (Nat.log2 q : Int)
  let a : Nat := if e < 0 then p * 2 ^ (-e).toNat else p
  let b : Nat := if e < 0 then q else q * 2 ^ e.toNat
  2 * atanhScaled ((a : Int) - b) (a + b) + e * (2 * atanhScaled 1 3)

/-- The temperature of R107 in 0.1 °C from a code of N bits that is neither 0 nor full scale; none where 1/t_k is not
positive. The logarithm is taken to 2^−70. -/
def ntcTenths (bits code bias nominal beta : Nat) : Option Int :=
  let l := lnScaled (bias * code) ((2 ^ bits - code) * nominal)
  let den := (lnOne : Int) * 100 * beta + l * 29815
  if den ≤ 0 then none
  else some (roundDiv (20 * (29815 * beta * lnOne : Nat) - 5463 * den) (2 * den.toNat))

/-- AinTemperature computed for a thermistor input (R107): −32,768 at a rail code; a result outside I16 has no stated value
and is free. -/
def Dev.ntcValue (d : Dev) (n : Nat) (v : Int) : Int :=
  let bits := ainBits (d.nat (Reg.ainConfig n))
  if v ≤ 0 || v == 2 ^ bits - 1 then -32768
  else match ntcTenths bits v.toNat (d.nat (Reg.ntcBias n)) (d.nat (Reg.ntcNominal n)) (d.nat (Reg.ntcBeta n)) with
    | some t => if -32768 ≤ t && t ≤ 32767 then t else ((Config.freeWord d.free).setWidth 16).toInt
    | none => ((Config.freeWord d.free).setWidth 16).toInt

/-- Input n is a thermistor input (R107). -/
def Dev.isNtc (d : Dev) (n : Nat) : Bool := d.bit (Reg.ainConfig n) 3

/-- A computed temperature lies outside NtcValidMin to NtcValidMax (R128). -/
def Dev.ntcInvalid (d : Dev) (t : Int) : Bool := t == -32768 || t < d.reg Reg.ntcValidMin || d.reg Reg.ntcValidMax < t

/-- The pull of input n is applied to every normal conversion (R127). -/
def Dev.pullAlways (d : Dev) (n : Nat) : Bool :=
  field (d.nat (Reg.ainPull n)) 0 1 != 0 && d.nat Reg.ainOpenInterval == 0

/-- This pass of the converter carries the second, pulled conversion (R127). -/
def Dev.pullCheck (d : Dev) (n : Nat) : Bool :=
  let i := d.nat Reg.ainOpenInterval
  field (d.nat (Reg.ainPull n)) 0 1 != 0 && i != 0 && ((d.aux (4 < n)).passes + 1) % i == 0

/-- Bits [3:0] of AinStatus for a conversion (R103, R105, R108, R109, R127). DESIGN CHOICE (assumption 160): no command marks a
conversion's sampling instant, so that AuxRefSettled is read when the conversion is done. -/
def Dev.ainFlags (d : Dev) (n : Nat) (v : Int) : Nat :=
  (if d.bit Reg.auxRefSettled (if 4 < n then 1 else 0) then 1 else 0) + (if d.samp.calibrated then 0 else 2)
    + (if d.pullAlways n then 4 else 0) + (if atLimit (ainBits (d.nat (Reg.ainConfig n))) (d.differential n) v then 8 else 0)

/-- The result of a normal conversion enters the input's objects (R105, R107). -/
def Dev.storeAux (d : Dev) (n : Nat) (v : Int) : Dev :=
  let cfg := d.nat (Reg.ainConfig n)
  let uv := d.auxValue n v
  let value := if -2147483648 ≤ uv && uv ≤ 2147483647 then uv else (Config.freeWord d.free).toInt
  let d := { d with free := d.free + 1 }
  let d := (d.setNat (Reg.ainRaw n) (auxFormat cfg (ainBits cfg) v)).set (Reg.ainValue n) value
  let d := d.setNat (Reg.ainStatus n) (d.ainFlags n v + (d.nat (Reg.ainStatus n) &&& 0xE0))
  if d.isNtc n then
    let t := d.ntcValue n v
    let d := { d with free := d.free + 1, samp := { d.samp with ntcTemp := Tab.put n t d.samp.ntcTemp } }
    if field (d.nat (Reg.ainStatus n)) 6 7 != 0 || d.ntcInvalid t then d else d.set (Reg.ainTemperature n) t
  else d.set (Reg.ainTemperature n) (-32768)

/-- AUX_OPEN_CHECK (R127): a pulled result at its limit with the normal result of the pass off it. -/
def Dev.openCheck (d : Dev) (n : Nat) (v pulled : Int) : Dev :=
  let cfg := d.nat (Reg.ainConfig n)
  let up := d.bit (Reg.ainPull n) 2
  let limit (x : Int) : Bool := if up then atLimit (ainBits cfg) (d.differential n) x else x == 0
  let isOpen := limit pulled && !limit v
  let was := d.bit (Reg.ainStatus n) 6
  let d := (d.setNat (Reg.ainOpenRaw n) (auxFormat cfg (ainBits cfg) pulled)).setBit (Reg.ainStatus n) 6 isOpen
  d.raiseIf (isOpen && !was) 6

/-- An auxiliary conversion of the pass completes (R105, R127). An input that this pass finds open is broken with this result, so
that AinTemperature keeps the value of before (R128). -/
def Dev.auxConversion (d : Dev) (n : Nat) (code pulled : Int) : Dev :=
  let b := 4 < n
  let c := d.aux b
  match c.pass with
  | some (i :: rest) =>
    if i == n && c.urgent.isEmpty && d.monLive && !d.calibrating then
      let v := d.auxResult n code
      let d := if d.pullCheck n then d.openCheck n v (d.auxResult n pulled) else d
      let d := (d.storeAux n v).applyRef b
      if rest.isEmpty then d.endPass b else d.setAux b { d.aux b with pass := some rest }
    else d
  | _ => d

def execAuxConversionDone (n : Nat) (code pulled : Int) (s : State) : Res :=
  .next (s.together (s.onDev (·.auxConversion n code pulled)))

/-- AuxUrgent (R106): a third request to a converter, or one during self-calibration, is refused. DESIGN CHOICE (assumption
104): a request for the even member of a pair is a request for its odd member, whose number AuxUrgentResult then gives. -/
def Dev.writeAuxUrgent (d : Dev) (n : Nat) : Written :=
  let n := if d.pairedAway n then n - 1 else n
  let b := 4 < n
  if d.calibrating || 2 ≤ (d.aux b).urgent.length then .error commandRefused
  else .ok ((d.setAux b { d.aux b with urgent := (d.aux b).urgent ++ [n] }).setBit Reg.auxUrgentResult 19 false)

/-- An urgent conversion completes into AuxUrgentResult; the abandoned conversion restarts (R106). DESIGN CHOICE (assumption 161):
also one that ran or waited when a self-calibration began, which refuses requests made during it alone. The result's status bits
are formed for it, and AinStatus stays as the passes left it (DESIGN CHOICE, assumption 192). -/
def Dev.urgentDone (d : Dev) (b : Bool) (code : Int) : Dev :=
  match (d.aux b).urgent with
  | n :: rest =>
    if d.monLive then
      let v := d.auxResult n code
      let cfg := d.nat (Reg.ainConfig n)
      ((d.setAux b { d.aux b with urgent := rest }).setNat Reg.auxUrgentResult
        (auxFormat cfg (ainBits cfg) v + 2 ^ 16 * (n - 1) + 2 ^ 19 + 2 ^ 20 * d.ainFlags n v)).applyRef b
    else d
  | [] => d

def execAuxUrgentDone (conv : Nat) (code : Int) (s : State) : Res := .next (s.onDev (·.urgentDone (conv == 1) code))

/-! ## Scans -/

/-- Thermistor inputs in the scan. -/
def Dev.ntcInputs (d : Dev) : List Nat :=
  (upTo 8).filter (fun n => d.isNtc n && d.bit (Reg.ainConfig n) 0 && !d.pairedAway n)

/-- NTC_BROKEN (R128): judged at each complete scan. -/
def Dev.judgeNtc (d : Dev) (n : Nat) : Dev :=
  let t := (Tab.find n d.samp.ntcTemp).getD (-32768)
  let bad := d.ntcInvalid t || d.bit (Reg.ainStatus n) 6
  let was := d.bit (Reg.ainStatus n) 7
  let valid := if bad then 0 else (Tab.find n d.samp.ntcValid).getD 0 + 1
  let d := { d with samp := { d.samp with ntcValid := Tab.put n valid d.samp.ntcValid } }
  if bad then (d.setBit (Reg.ainStatus n) 7 true).raiseIf (!was) 7
  else if was && d.reg Reg.ntcRecoverCount ≤ valid then (d.setBit (Reg.ainStatus n) 7 false).set (Reg.ainTemperature n) t
  else d

/-- The extreme of the valid thermistor inputs; the lower input number wins a tie (R129). -/
def Dev.ntcExtreme (d : Dev) (better : Int → Int → Bool) : Int × Nat :=
  (d.ntcInputs.filter (fun n => !d.bit (Reg.ainStatus n) 7)).foldl (fun (acc : Int × Nat) n =>
    let t := d.reg (Reg.ainTemperature n)
    if acc.2 == 0 || better t acc.1 then (t, n) else acc) (-32768, 0)

/-- Each converter has finished a pass: AuxSet latches, thermistors are judged and their extremes taken (R104, R128,
R129). -/
def Dev.scanComplete (d : Dev) : Dev :=
  if d.monLive && d.samp.auxA.passDone && d.samp.auxB.passDone && !d.calibrating then
    let d := (d.setAux false { d.samp.auxA with passDone := false })
    let d := d.setAux true { d.samp.auxB with passDone := false }
    let d := d.ntcInputs.foldl Dev.judgeNtc d
    let hi := d.ntcExtreme (fun a b => b < a)
    let lo := d.ntcExtreme (fun a b => a < b)
    let d := (((d.set Reg.ainTempMax hi.1).setNat Reg.ainTempMaxInput hi.2).set Reg.ainTempMin lo.1).setNat
      Reg.ainTempMinInput lo.2
    (d.snapshotInstant 4).continuePasses
  else d

def execAuxScanComplete (s : State) : Res := .next (s.together (s.onDev (·.scanComplete)))

/-- A pair comes into force: the even input is not converted, also in the pass that runs, and its values read 0 (R102).
AinTemperature is counted among the value objects: it reads 0, not R107's −32,768 (DESIGN CHOICE, assumption 190). -/
def Dev.pairAway (d : Dev) (m : Nat) : Dev :=
  let b := 4 < m
  let d := (((d.setBit (Reg.ainStatus m) 5 true).set (Reg.ainRaw m) 0).set (Reg.ainValue m) 0).set (Reg.ainTemperature m) 0
  match (d.aux b).pass with
  | some l =>
    let left := l.filter (fun n => n != m)
    if left == l then d else if left.isEmpty then d.endPass b else d.setAux b { d.aux b with pass := some left }
  | none => d

/-- The even input of a pair that is no longer in force is an input of its own (R102). -/
def Dev.unpair (d : Dev) (m : Nat) : Dev :=
  if d.bit (Reg.ainStatus m) 5 then (d.setBit (Reg.ainStatus m) 5 false).set (Reg.ainTemperature m) (-32768) else d

/-- An AinConfig takes effect (R102, R107); in mode 2 a converter that had no input to convert starts a pass. -/
def Dev.ainConfigured (d : Dev) (n : Nat) : Dev :=
  let d := if !d.isNtc n && !d.pairedAway n then d.set (Reg.ainTemperature n) (-32768) else d
  let d := if n % 2 == 1 then (if d.differential n then d.pairAway (n + 1) else d.unpair (n + 1)) else d
  d.continuePasses

/-- A write of AinConfig. -/
def Dev.writeAinConfig (d : Dev) (n v : Nat) : Dev := (d.setNat (Reg.ainConfig n) v).ainConfigured n

/-! ## Self-calibration -/

/-- SelfCalCommand (R108, R109). Urgent requests accepted before it stay (DESIGN CHOICE, assumption 161). -/
def Dev.writeSelfCal (d : Dev) : Written :=
  if d.calibrating then .error commandRefused
  else .ok (((d.dropPass false).dropPass true).set Reg.selfCalState 1)

/-- After a calibration each converter starts a new pass in modes 2 and 3 (R108). -/
def Dev.passesAgain (d : Dev) : Dev :=
  if d.nat Reg.auxMode == 2 || d.nat Reg.auxMode == 3 then (d.startPass false).startPass true else d

/-- Self-calibration ends (R108, R109): an offset outside ±64 LSB or a gain outside ±1 % fails and leaves the factors. -/
def Dev.selfCalDone (d : Dev) (offA : Int) (gainA : Nat) (offB : Int) (gainB : Nat) : Dev :=
  if d.calibrating && d.monLive then
    let good (o : Int) (g : Nat) : Bool := -64 ≤ o && o ≤ 64 && 99 * 2 ^ 30 ≤ 100 * g && 100 * g ≤ 101 * 2 ^ 30
    let d := if good offA gainA && good offB gainB then
        { ((((d.set Reg.auxOffsetA offA).setNat Reg.auxGainA gainA).set Reg.auxOffsetB offB).setNat Reg.auxGainB
            gainB).set Reg.selfCalState 2 with samp := { d.samp with calibrated := true } }
      else d.set Reg.selfCalState 4
    d.passesAgain
  else d

/-- Sleep entry or a role-change reset abandons a self-calibration (R109); the passes go on as after one that has ended (R108),
until sleep stops them. -/
def Dev.abandonSelfCal (d : Dev) : Dev := if d.calibrating then (d.set Reg.selfCalState 3).passesAgain else d

end Sys2Proof.Machine
end

