-- ==== Sys2Proof/Machine/Gauge.lean ====
section
/-! DEFINITION. Gauge sets (R131 to R134). -/

namespace Sys2Proof.Machine

/-- A gauge set: die temperature in 0.1 °C, offsets and gains of the 26 channels. -/
structure GaugeSet where
  temp : Int
  offsets : List Int
  gains : List Nat
  deriving DecidableEq, Repr

/-- A factory set at −20.0, +25.0 or +85.0 °C (R132); its factors are not published. -/
def factorySet (g : Nat) : GaugeSet :=
  { temp := if g == 0 then -200 else if g == 1 then 250 else 850,
    offsets := (List.range 26).map (fun c => (Config.factoryOffset g c).toInt),
    gains := (List.range 26).map (fun c => ((2 ^ 30 : Int) + (Config.factoryGain g c).toInt).toNat) }

/-- The set that 216 bytes spell (Table 5.7). -/
def gaugeOfBytes (b : List Nat) : GaugeSet :=
  { temp := ofCode 16 (ofLe (b.take 2)),
    offsets := (List.range 26).map (fun c => ofCode 32 (ofLe ((b.drop (4 + 8 * c)).take 4))),
    gains := (List.range 26).map (fun c => ofLe ((b.drop (8 + 8 * c)).take 4)) }

/-- The 216 bytes of a set (Table 5.7). -/
def gaugeBytes (g : GaugeSet) : List Nat :=
  let body := leBytes 2 (toCode 16 g.temp) ++ [0, 0]
    ++ (List.range 26).flatMap (fun c => leBytes 4 (toCode 32 (nthInt g.offsets c)) ++ leBytes 4 (nth g.gains c))
  body ++ leBytes 4 (crc32 body)

/-- The limits and the CRC of Table 5.7. -/
def gaugeValid (b : List Nat) : Bool :=
  let g := gaugeOfBytes b
  g.temp ≤ 1250 && -400 ≤ g.temp
    && (List.range 26).all (fun c =>
      let o := nthInt g.offsets c
      o.natAbs ≤ (if c < 24 then 5000 else 8000) && 1052266988 ≤ nth g.gains c && nth g.gains c ≤ 1095216660)
    && ofLe (b.drop 212) == crc32 (b.take 212)

/-- The field sets that are valid, by slot. -/
def Dev.fieldSets (d : Dev) : List GaugeSet :=
  ((upTo 6).filter (fun g => d.on (Reg.gaugeFieldValid g))).map
    (fun g => gaugeOfBytes (d.blob (Reg.gaugeField g).key (List.replicate 216 0)))

/-- Two temperatures lie within 0.5 °C of each other. -/
def within05 (a b : Int) : Bool := (a - b).natAbs ≤ 5

/-- Factory set g is in the table: no field set lies within 0.5 °C of it (R132). -/
def Dev.factoryUsed (d : Dev) (g : Nat) : Bool := !(d.fieldSets.any (fun f => within05 f.temp (factorySet g).temp))

/-- The table in use, by ascending temperature (R132, R133). -/
def Dev.gaugeTable (d : Dev) : List GaugeSet :=
  sortBy (fun a b => a.temp ≤ b.temp)
    (([0, 1, 2].filter (fun g => d.factoryUsed g)).map factorySet ++ d.fieldSets)

/-- Interpolation between two sets (R133); round() takes an exact half away from zero (DESIGN CHOICE, assumption 177). -/
def interpolate (a b : GaugeSet) (t : Int) : List Int × List Nat :=
  let span := (b.temp - a.temp).toNat
  let f := t - a.temp
  ((List.range 26).map (fun c => roundDiv (nthInt a.offsets c * span + f * (nthInt b.offsets c - nthInt a.offsets c)) span),
   (List.range 26).map (fun c =>
    (roundDiv ((nth a.gains c : Int) * span + f * ((nth b.gains c : Int) - nth a.gains c)) span).toNat))

/-- The factors of R133 for a temperature; no extrapolation. -/
def factorsAt (t : Int) : List GaugeSet → List Int × List Nat
  | [] => (List.replicate 26 0, List.replicate 26 (2 ^ 30))
  | [a] => (a.offsets, a.gains)
  | a :: b :: rest =>
    if t ≤ a.temp then (a.offsets, a.gains)
    else if t < b.temp then interpolate a b t
    else factorsAt t (b :: rest)

/-- The monitor die's temperature that users take: the last good value, +25.0 °C if there has been none (R133, R413). -/
def Dev.monTemp (d : Dev) : Int := d.reg Reg.monDieTemperature

/-- GaugeSetsInUse (Table 5.13). -/
def Dev.refreshSetsInUse (d : Dev) : Dev :=
  d.setNat Reg.gaugeSetsInUse
    (maskOf ([0, 1, 2].filter (fun g => d.factoryUsed g))
      + 8 * maskOf ((List.range 6).filter (fun g => d.on (Reg.gaugeFieldValid (g + 1)))))

/-- New factors are computed for the present temperature (R134). -/
def Dev.computeFactors (d : Dev) : Dev :=
  let (o, g) := factorsAt d.monTemp d.gaugeTable
  { d with samp := { d.samp with ready := some (o, g, d.monTemp) } }

/-- After a load of settings: new factors where the table has changed from that of `before` (R134). -/
def Dev.tableTaken (d before : Dev) : Dev := if d.gaugeTable == before.gaugeTable then d else d.computeFactors

/-- A field set is written (R132): refused outside its limits, with a bad CRC or within 0.5 °C of another valid field set.
Its reserved bytes 2 and 3 read 0 (R12). Any accepted write changes the table, also one of the set already valid (DESIGN CHOICE,
assumption 195). -/
def Dev.writeGaugeField (d : Dev) (g : Nat) (b : List Nat) : Written :=
  let others := ((upTo 6).filter (fun h => h != g && d.on (Reg.gaugeFieldValid h))).map
    (fun h => gaugeOfBytes (d.blob (Reg.gaugeField h).key []))
  if !gaugeValid b || others.any (fun o => within05 o.temp (gaugeOfBytes b).temp) then .error outOfRange
  else .ok (((d.setBlob (Reg.gaugeField g).key (b.take 2 ++ [0, 0] ++ b.drop 4)).set
    (Reg.gaugeFieldValid g) 1).refreshSetsInUse.computeFactors)

/-- Writing 0 to GaugeFieldValid removes the set; writing 1 changes nothing (R132, Table 5.13). -/
def Dev.writeGaugeValid (d : Dev) (g v : Nat) : Dev :=
  if v == 0 && d.on (Reg.gaugeFieldValid g) then
    ((d.set (Reg.gaugeFieldValid g) 0).refreshSetsInUse).computeFactors
  else d

/-- A die-temperature result differs from GaugeTempInForce by 0.2 °C or more: new factors (R134). -/
def Dev.gaugeTempTaken (d : Dev) : Dev :=
  if 2 ≤ (d.monTemp - d.reg Reg.gaugeTempInForce).natAbs then d.computeFactors else d

/-- New factors take effect in one step on all channels and both taps (R134). -/
def Dev.applyFactors (d : Dev) : Dev :=
  match d.samp.ready with
  | some (o, g, t) =>
    if d.monLive then
      let d := { d with
        samp := { d.samp with offsets := o, gains := g, ready := none, stepPending := true },
        sup := { d.sup with disturbed := d.sup.disturbed || d.sup.stage != 0 } }
      (d.set Reg.gaugeTempInForce t).bump Reg.gaugeApplyCount
    else d
  | none => d

def execGaugeFactorsApply (s : State) : Res := .next (s.onDev (·.applyFactors))

/-- GaugeTempInterval elapses: the monitor die requests a conversion, served by one that runs (R133, R412). -/
def Dev.gaugeInterval (d : Dev) : Dev :=
  if d.monLive then { d with stor := { d.stor with monTempBusy := true } } else d

def execGaugeTempInterval (s : State) : Res := .next (s.onDev (·.gaugeInterval))

end Sys2Proof.Machine
end

