-- ==== Sys2Proof/Machine/Supervision.lean ====
section
/-! DEFINITION. Measurement integrity and cell supervision (chapter 5): check SAR, OV/UV comparators and the fault state,
open wires, shunt common mode and the legacy wake check; and the alarm symbol of R200 to R203. -/

namespace Sys2Proof.Machine

/-! ## Open wires: which cells they cover -/

/-- The cells that share wire w of n cells (R122, R123). -/
def wireCells (n w : Nat) : List Nat := if w == 0 then [1] else if w == n then [n] else [w, w + 1]

/-- The nearest wire at or below w that is not latched open, or 0: wires 0 and 1 both open bound their group at wire 0 (DESIGN
CHOICE, assumption 178). -/
def wireBelow (mask : Nat) : Nat → Nat
  | 0 => 0
  | w + 1 => if mask.testBit (w + 1) then wireBelow mask w else w + 1

/-- The nearest wire at or above w that is not latched open, or n, within `fuel` wires: wires n − 1 and n both open bound their
group at wire n (DESIGN CHOICE, assumption 178). -/
def wireAbove (mask n : Nat) : Nat → Nat → Nat
  | 0, _ => n
  | fuel + 1, w => if n ≤ w then n else if mask.testBit w then wireAbove mask n fuel (w + 1) else w

/-- The cells of the group or end-cell supervision of an open wire (R124). -/
def Dev.supervisedCells (d : Dev) (w : Nat) : List Nat :=
  let n := d.samp.cells
  let m := d.nat Reg.openWireLatched
  if w == 0 then [1] else if w == n then [n]
  else if n < w then []
  else (upTo n).filter (fun k => wireBelow m w < k && k ≤ wireAbove m n 25 w)

/-- Wires latched open. -/
def Dev.openWires (d : Dev) : List Nat := (List.range 25).filter (fun w => d.bit Reg.openWireLatched w)

/-- Cells whose comparators R124 masks from the fault state, one bit each: not in sleep (R125). -/
def Dev.groupMasked (d : Dev) : Nat :=
  if d.monLive then maskOf ((d.openWires.flatMap d.supervisedCells).map (· - 1)) else 0

/-- Cell k is under end-cell supervision (R124). -/
def Dev.endCell (d : Dev) (k : Nat) : Bool :=
  (k == 1 && d.bit Reg.openWireLatched 0) || (k == d.samp.cells && d.bit Reg.openWireLatched d.samp.cells)

/-! ## Comparators -/

/-- The comparators under test, one bit each (R120). -/
def Dev.testMask (d : Dev) : Nat := match d.sup.testing with | some k => 2 ^ (k - 1) | none => 0

/-- The device's fault state (R118). -/
def Dev.faultNow (d : Dev) : Bool :=
  clearBits (clearBits (d.sup.ovTripped ||| d.sup.uvTripped) d.groupMasked) d.testMask != 0
    || (d.sup.ovGroup ||| d.sup.uvGroup) != 0

/-! ## Who owns a switch (Table 6.1) -/

/-- Cells that the open-wire window in progress covers, one bit each (R122). -/
def Dev.windowCells (d : Dev) : Nat :=
  if d.sup.stage == 0 then 0
  else maskOf ((wireCells d.samp.cells (field (d.nat Reg.openWireState) 0 4)).map (· - 1))

/-- Cells owned at level 1 to 4 of Table 6.1 at this moment, one bit each. -/
def Dev.ownedAbove (d : Dev) : Nat :=
  if !d.monLive then 2 ^ 24 - 1
  else
    (2 ^ 24 - 2 ^ d.samp.cells) ||| d.bal.faultOver ||| d.bal.faultStuck ||| d.windowCells
      ||| (if d.nat Reg.wireGaugeState == 1 then 2 ^ 24 - 1 else 0)
      ||| clearBits d.sup.uvTripped d.testMask ||| d.sup.uvGroup

/-- BalState [2:0] of cell k (Table 6.1). -/
def Dev.levelCode (d : Dev) (k : Nat) : Nat :=
  let b := k - 1
  if !d.monLive || d.samp.cells < k then 0
  else if (d.bal.faultOver ||| d.bal.faultStuck).testBit b then 7
  else if d.windowCells.testBit b || d.nat Reg.wireGaugeState == 1 then 3
  else if (clearBits d.sup.uvTripped d.testMask ||| d.sup.uvGroup).testBit b then 5
  else if d.bal.hot then 6
  else if d.bal.low.testBit b then 4
  else if d.bal.level7.testBit b then 2
  else if d.bal.level8.testBit b then 1
  else 0

/-- BalState shows the level that owns each switch and the latched faults (R142, Table 6.7). -/
def Dev.refreshBal (d : Dev) : Dev :=
  (upTo 24).foldl (fun d k => d.setNat (Reg.balState k)
    (d.levelCode k + (if d.bit (Reg.balState k) 3 then 8 else 0) + (if d.bal.faultOver.testBit (k - 1) then 16 else 0)
      + (if d.bal.faultStuck.testBit (k - 1) then 32 else 0))) d

/-- OvLive, UvLive and CellStatus [6:5] show own trips and group trips (R119, R120); a UV trip opens its cell's switch (R140). -/
def Dev.refreshLive (d : Dev) : Dev :=
  let ov := clearBits d.sup.ovTripped d.testMask ||| d.sup.ovGroup
  let uv := clearBits d.sup.uvTripped d.testMask ||| d.sup.uvGroup
  let d := (d.setNat Reg.ovLive ov).setNat Reg.uvLive uv
  ((upTo 24).foldl (fun d k => (d.setBit (Reg.cellStatus k) 5 (ov.testBit (k - 1))).setBit (Reg.cellStatus k) 6
    (uv.testBit (k - 1))) d).refreshBal

/-- The HV field is powered and out of reset, so that comparators are valid (R65, R76). -/
def Dev.comparatorsValid (d : Dev) : Bool :=
  (d.pwr.hv == .active || d.pwr.hv == .rolePending || d.pwr.hv == .sleep) && d.pwr.trimLoaded

/-- The OV threshold in µV (Table 5.3). -/
def Dev.ovThreshold (d : Dev) : Int := 2000000 + d.reg Reg.ovCode * 10000

/-- The UV threshold in µV (Table 5.3). -/
def Dev.uvThreshold (d : Dev) : Int := 1000000 + d.reg Reg.uvCode * 10000

/-- The deglitch time of Table 5.3 in 16 kS/s outputs: (code + 1) × 0.25 ms. -/
def Dev.deglitchOutputs (d : Dev) : Nat := 4 * (d.nat Reg.ovUvDeglitch + 1)

/-- The deglitch time rounded up to whole check periods (R124). -/
def Dev.deglitchPeriods (d : Dev) : Nat := (d.nat Reg.ovUvDeglitch + 4) / 4

/-- A raw output becomes active or inactive and starts or breaks its count (R117). -/
def Dev.rawChange (d : Dev) (k : Nat) (ov active : Bool) : Dev :=
  if d.comparatorsValid && 1 ≤ k && k ≤ d.samp.cells then
    { d with sup := if ov then { d.sup with ovRaw := withBit d.sup.ovRaw (k - 1) active, ovRun := withBit d.sup.ovRun (k - 1) true }
                    else { d.sup with uvRaw := withBit d.sup.uvRaw (k - 1) active, uvRun := withBit d.sup.uvRun (k - 1) true } }
  else d

/-- A change of a threshold or deglitch code restarts every running count (R117). DESIGN CHOICE (assumption 94): a count
that was restarted runs again from the next report of the raw output, which is judged against the new threshold. -/
def Dev.restartCounts (d : Dev) : Dev := { d with sup := { d.sup with ovRun := 0, uvRun := 0, groupRuns := [] } }

def execComparatorRawChange (k : Nat) (ov active : Bool) (s : State) : Res := .next (s.onDev (·.rawChange k ov active))

/-- The count of a comparator runs, and its raw output is at `active`. -/
def Dev.countsAt (d : Dev) (k : Nat) (ov active : Bool) : Bool :=
  (if ov then d.sup.ovRun else d.sup.uvRun).testBit (k - 1)
    && (if ov then d.sup.ovRaw else d.sup.uvRaw).testBit (k - 1) == active

/-- A raw output has been active for the deglitch time (R117, R119). A comparator under test shows nothing (R120); a UV trip
opens the cell's switch (Table 6.1). -/
def Dev.comparatorTrip (d : Dev) (k : Nat) (ov : Bool) : Dev :=
  if d.comparatorsValid && 1 ≤ k && k ≤ d.samp.cells && d.sup.testing != some k && d.countsAt k ov true then
    let b := 2 ^ (k - 1)
    if ov then
      ({ d with sup := { d.sup with ovTripped := d.sup.ovTripped ||| b } }.orBits Reg.ovLatched b).refreshLive
    else
      ({ d with sup := { d.sup with uvTripped := d.sup.uvTripped ||| b } }.orBits Reg.uvLatched b).refreshLive
  else d

def execComparatorTrip (k : Nat) (ov : Bool) (s : State) : Res := .next (s.onDev (·.comparatorTrip k ov))

/-- The cell has stayed beyond the hysteresis for the deglitch time (R117): its raw output is inactive. -/
def Dev.comparatorRelease (d : Dev) (k : Nat) (ov : Bool) : Dev :=
  if d.comparatorsValid && 1 ≤ k && k ≤ d.samp.cells && d.countsAt k ov false then
    { d with sup := if ov then { d.sup with ovTripped := withBit d.sup.ovTripped (k - 1) false }
                    else { d.sup with uvTripped := withBit d.sup.uvTripped (k - 1) false } }.refreshLive
  else d

def execComparatorRelease (k : Nat) (ov : Bool) (s : State) : Res := .next (s.onDev (·.comparatorRelease k ov))

/-! ## The fault state and the alarm symbol -/

/-- A port takes part in alarm symbols: Training, Up or Lost, or Listening in sleep (R200, R203). -/
def Dev.portSendsAlarm (d : Dev) (p : Nat) : Bool :=
  let st := d.nat (Reg.portState p)
  2 ≤ st || (st == 1 && d.pwr.hv == .sleep)

/-- A symbol goes out on every port but `skip` and is counted on each (R200, R201). Where it is due within 8 cells of another
symbol on the port, bit p of `merged`, the two are sent as one (R202). -/
def Dev.sendAlarm (d : Dev) (skip : Option Nat) (merged : Nat) : Dev :=
  [0, 1, 2].foldl (fun d p =>
    if d.portSendsAlarm p && skip != some p && !merged.testBit p then d.bump (Reg.alarmsSent p) else d) d

/-- The fault state becomes true or false (R118): on becoming true the alarm symbol is injected and source 0 raised. -/
def Dev.faultChange (d : Dev) (merged : Nat) : Dev :=
  let now := d.faultNow
  if now == d.sup.fault then d
  else
    let d := { d with sup := { d.sup with fault := now }, safe := { d.safe with quiet := 0 } }
    if now then (d.sendAlarm none merged).raise 0 else d

def execFaultStateChange (merged : Nat) (s : State) : Res := .next (s.together (s.onDev (·.faultChange merged)))

/-- Every 1 ms while the fault state stays true (R118). -/
def Dev.alarmReinject (d : Dev) (merged : Nat) : Dev :=
  if d.sup.fault && d.faultNow then d.sendAlarm none merged else d

def execAlarmReinject (merged : Nat) (s : State) : Res := .next (s.onDev (·.alarmReinject merged))

/-- A controller is present: lane H has a carrier (R19). -/
def Dev.controllerPresent (d : Dev) : Bool := d.pwr.laneH

/-- A received alarm symbol (R201, R203): a member forwards it on every other port; lane F is set where a controller is
present. -/
def Dev.alarmReceived (d : Dev) (p : Port) (merged : Nat) : Dev :=
  if d.portSendsAlarm p.num then
    let d := d.bump (Reg.alarmsReceived p.num)
    let d := if d.monHead then d else d.sendAlarm (some p.num) merged
    if d.controllerPresent then { d with link := { d.link with alarmSeen := true }, safe := { d.safe with quiet := 0 } } else d
  else d

/-- The fault level of lane F (Table 1.1). -/
def Dev.laneFLevel (d : Dev) : Bool := d.faultNow || d.link.alarmSeen

/-! ## Comparator test (R120) -/

/-- A write to ComparatorTest. DESIGN CHOICE (assumption 95): at the start ComparatorTestResult takes the cell with bits
[10:8] clear. -/
def Dev.writeComparatorTest (d : Dev) (k : Nat) : Written :=
  if k < 1 || d.samp.cells < k || (d.sup.ovTripped ||| d.sup.uvTripped).testBit (k - 1) || d.sup.testing.isSome then
    .error commandRefused
  else .ok (({ d with sup := { d.sup with testing := some k } }.setNat Reg.comparatorTestResult k).refreshLive)

def Dev.comparatorTestDone (d : Dev) (ov uv : Bool) : Dev :=
  match d.sup.testing with
  | some k =>
    ({ d with sup := { d.sup with testing := none } }.setNat Reg.comparatorTestResult
      (k + (if ov then 0x100 else 0) + (if uv then 0x200 else 0) + 0x400)).refreshLive
  | none => d

/-! ## Check SAR (R111 to R115, R440) -/

/-- A cell-coded result in µV (R440). -/
def sarUv (code : Nat) : Int := (code : Int) * 375 - 750000

/-- A slot's sampling instant after its period's tick, moved by the 757.45 µs from a described instant to its production, in
1/80 µs; an output comes every 5,000 of these (R111, R112). -/
def slotInstant (slot : Nat) : Nat := (slot - 1) * 3125 + 60596

/-- The output that closes the bracket of a slot, counted from the output at its period's tick. -/
def slotOutput (slot : Nat) : Nat := slotInstant slot / 5000 + 1

/-- M_k between the two bracketing outputs at a slot's sampling instant (R112). DESIGN CHOICE (assumption 96): the
interpolated value is rounded to 1 µV, ties away from zero, before the comparison. -/
def mainValue (slot : Nat) (before after : Int) : Int :=
  before + roundDiv ((after - before) * (slotInstant slot % 5000 : Nat)) 5000

/-- M_k of cell k at a slot's instant, from the last two wide-tap outputs. -/
def Dev.mainOf (d : Dev) (slot k : Nat) : Int :=
  mainValue slot (nthInt d.samp.widePrev (k - 1)) (nthInt d.samp.wide (k - 1))

/-- The wire-gauge routine steps this cell. -/
def Dev.gaugeCell (d : Dev) : Nat := d.bal.gaugeSteps.length + 1

/-- The wire-gauge routine steps cell 1 or cell n (R115). -/
def Dev.gaugeEndStep (d : Dev) : Bool :=
  d.nat Reg.wireGaugeState == 1 && d.bal.gaugeRow.isSome && (d.gaugeCell == 1 || d.gaugeCell == d.samp.cells)

/-- A comparison is skipped (R113), judged when it is made. -/
def Dev.checkSkips (d : Dev) (k : Nat) : Bool :=
  d.samp.settleOther.testBit (k - 1) || (d.samp.wideClipped ||| d.samp.wideClippedPrev).testBit (k - 1)
    || d.samp.stepBetween || d.endCell k || d.bit Reg.checkSarStatus 0

/-- CHECK_COMPARISON (R112). CheckMismatchCount counts the comparisons' periods that flag a cell, not those in which a flag of
before stands while the comparison is skipped (DESIGN CHOICE, assumption 179). -/
def Dev.checkCompare (d : Dev) (k period : Nat) (c m : Int) : Dev :=
  let diff := m - c
  let n : Int := if (d.nat Reg.checkThreshold) * 1000 < diff.natAbs then (Tab.find k d.sup.mismatches).getD 0 + 1 else 0
  let d := { d with sup := { d.sup with mismatches := Tab.put k n d.sup.mismatches } }
  let d := (d.set (Reg.checkVoltage k) c).set (Reg.checkDifference k) diff
  if n != 0 && d.reg Reg.checkConfirm ≤ n then
    let d := if d.sup.countedPeriod == some period then d
      else { d.bump Reg.checkMismatchCount with sup := { d.sup with countedPeriod := some period } }
    ((d.setBit (Reg.cellStatus k) 4 true).orBits Reg.checkMismatchLatched (2 ^ (k - 1))).raise 1
  else if n == 0 then d.setBit (Reg.cellStatus k) 4 false
  else d

/-- STACK_CHECK in an even period (R115). Two failing checks are consecutive where none was made between them, whatever even periods
passed without one (DESIGN CHOICE, assumption 194). -/
def Dev.stackCheck (d : Dev) (code : Nat) (sum : Int) : Dev :=
  let v := sarUv code * 32
  let diff := sum - v
  let d := d.set Reg.stackCheckVoltage (if 0 ≤ v then v else ((Config.freeWord d.free).toNat : Int))
  let d := ({ d with free := d.free + 1 }).set Reg.stackSumDifference diff
  if (d.nat Reg.stackMismatchThreshold) * 1000 < diff.natAbs then
    let n := d.sup.stackBad + 1
    let d := { d with sup := { d.sup with stackBad := n } }
    if 2 ≤ n then (d.setBit Reg.checkSarStatus 1 true).raise 2 else d
  else { d with sup := { d.sup with stackBad := 0 } }.setBit Reg.checkSarStatus 1 false

/-- The reference check of an odd period (R115): 2.500 V ± 20 mV. -/
def Dev.referenceCheck (d : Dev) (code : Nat) : Dev :=
  if 20000 < (sarUv code - 2500000).natAbs then (d.setBit Reg.checkSarStatus 0 true).raise 3
  else d.setBit Reg.checkSarStatus 0 false

/-- A supervision condition of an open wire holds in one more output or check period, or its run is broken (R124). -/
def Dev.runIf (d : Dev) (key : Nat) (holds : Bool) : Dev :=
  { d with sup := { d.sup with
    groupRuns := if holds then Tab.put key ((Tab.find key d.sup.groupRuns).getD 0 + 1) d.sup.groupRuns
                 else Tab.put key 0 d.sup.groupRuns } }

/-- The four conditions of R124 for `v`, the value of m cells beside wire w: beyond and back from m × OV − 100 mV and
m × UV + 100 mV, with 25 mV of hysteresis per cell. -/
def Dev.superviseRuns (d : Dev) (w m : Nat) (v : Int) : Dev :=
  let ov := m * d.ovThreshold - 100000
  let uv := m * d.uvThreshold + 100000
  (((d.runIf (4 * w) (ov < v)).runIf (4 * w + 1) (v < ov - 25000 * m)).runIf (4 * w + 2) (v < uv)).runIf (4 * w + 3)
    (uv + 25000 * m < v)

/-- The slot of a cell under end-cell supervision (R124): wire 0 for cell 1, wire n for cell n. -/
def Dev.endCellSlot (d : Dev) (k : Nat) (v : Int) : Dev :=
  let d := if k == 1 && d.bit Reg.openWireLatched 0 then d.superviseRuns 0 1 v else d
  if k == d.samp.cells && d.bit Reg.openWireLatched d.samp.cells then d.superviseRuns d.samp.cells 1 v else d

/-- Slot 25 in a step of cell 1 or cell n: the end input's results in the periods at t = 0 and t = 8.0 ms (R154). -/
def Dev.gaugeEdge (d : Dev) (period code : Nat) : Dev :=
  match d.bal.gaugeRow with
  | some r =>
    if period == r then { d with bal := { d.bal with gaugeSums := { d.bal.gaugeSums with edgeBase := some (sarUv code) } } }
    else if period == (r + 64) % 2 ^ 32 then
      { d with bal := { d.bal with gaugeSums := { d.bal.gaugeSums with edgeLoad := some (sarUv code) } } }
    else d
  | none => d

/-- A slot of the check period converts (R111). The reference is judged at once; a cell or the stack is compared when the
output that closes the slot's bracket has been produced. DESIGN CHOICE (assumption 97): with CheckEnable 0 the cell
comparisons stop, and the stack and reference checks of slot 25 and the end-cell supervision of R124 run on. -/
def Dev.checkSlot (d : Dev) (slot code : Nat) : Dev :=
  let period := d.samp.tickRow / 8 * 8
  if !d.monLive || 2 ^ 14 ≤ code then d
  else if slot == 25 then
    (if d.gaugeEndStep then d.gaugeEdge period code
     else if period / 8 % 2 == 1 then d.referenceCheck code
     else { d with sup := { d.sup with slots := d.sup.slots ++ [⟨period, slot, code⟩] } })
  else if slot == 0 || d.samp.cells < slot then d
  else if d.endCell slot then
    let d := d.endCellSlot slot (sarUv code)
    if d.on Reg.checkEnable then d.bump Reg.checkSkipped else d
  else if d.on Reg.checkEnable then { d with sup := { d.sup with slots := d.sup.slots ++ [⟨period, slot, code⟩] } }
  else d

def execCheckSarSlot (slot code : Nat) (s : State) : Res := .next (s.together (s.onDev (·.checkSlot slot code)))

/-- The comparison of one slot (R112, R113, R115). -/
def Dev.compareSlot (d : Dev) (c : CheckSlot) : Dev :=
  if c.slot == 25 then
    d.stackCheck c.code ((upTo d.samp.cells).foldl (fun a k => a + d.mainOf 25 k) 0)
  else if d.samp.cells < c.slot || !d.on Reg.checkEnable then d
  else if d.checkSkips c.slot then d.bump Reg.checkSkipped
  else d.checkCompare c.slot (c.period / 8) (sarUv c.code) (d.mainOf c.slot c.slot)

/-- The output just made closes the brackets of the slots it follows. -/
def Dev.compareSlots (d : Dev) : Dev :=
  let due := d.sup.slots.filter (fun c => slotOutput c.slot ≤ d.outputsSince c.period)
  let left := d.sup.slots.filter (fun c => d.outputsSince c.period < slotOutput c.slot)
  due.foldl Dev.compareSlot { d with sup := { d.sup with slots := left } }

/-! ## Open-wire test (R121 to R124) -/

/-- CellStatus [7] of every cell that shares a wire latched open (R123). -/
def Dev.refreshOpen (d : Dev) : Dev :=
  let cells := (d.openWires.flatMap (wireCells d.samp.cells)).filter (fun k => k ≤ d.samp.cells)
  let grouped := maskOf ((d.openWires.flatMap d.supervisedCells).map (· - 1))
  let d := (upTo 24).foldl (fun d k => d.setBit (Reg.cellStatus k) 7 (cells.contains k)) d
  ({ d with sup := { d.sup with ovGroup := d.sup.ovGroup &&& grouped, uvGroup := d.sup.uvGroup &&& grouped } } : Dev).refreshLive

/-- OpenWireLatched takes a new value (R123): the supervision counts go on for wires that stay latched with the same cells
(R124). -/
def Dev.latchWires (d : Dev) (mask : Nat) : Dev :=
  let after := d.setNat Reg.openWireLatched mask
  let kept (w : Nat) : Bool := d.bit Reg.openWireLatched w && after.bit Reg.openWireLatched w
    && d.supervisedCells w == after.supervisedCells w
  ({ after with sup := { after.sup with groupRuns := after.sup.groupRuns.filter (fun e => kept (e.1 / 4)) } } : Dev).refreshOpen

def Dev.passRunning (d : Dev) : Bool := d.bit Reg.openWireState 6
def Dev.wireInTest (d : Dev) : Nat := field (d.nat Reg.openWireState) 0 4

/-- A pass begins with wire 0 (R122). -/
def Dev.startWirePass (d : Dev) : Dev :=
  { d with sup := { d.sup with stage := 0, again := false } }.setNat Reg.openWireState 0x40

def Dev.writeOpenWire (d : Dev) : Written := if d.passRunning then .error commandRefused else .ok d.startWirePass

def Dev.openWireInterval (d : Dev) : Dev :=
  if d.monLive && d.on Reg.openWireInterval && !d.passRunning then d.startWirePass else d

def execOpenWireInterval (s : State) : Res := .next (s.onDev (·.openWireInterval))

/-- A wire's window opens at a multiple-of-8 tick: the switches of the affected cells are taken out of use and the
correlators stop (Table 5.5, R161). A cell step of the wire-gauge routine ends first (R153). -/
def Dev.wireWindowStart (d : Dev) : Dev :=
  if d.monLive && d.passRunning && d.sup.stage == 0 && d.samp.tickRow % 8 == 0 && d.bal.gaugeRow.isNone then
    ({ (d.setBit Reg.openWireState 5 true) with
      sup := { d.sup with stage := 1, disturbed := false, again := false, finding := none, windowRow := d.samp.tickRow, sums := .empty },
      bal := { d.bal with run := d.bal.run.map (fun r => { r with gated := true }) } } : Dev).refreshBal
  else d

def execOpenWireWindowStart (s : State) : Res := .next (s.onDev (·.wireWindowStart))

def Dev.wireStage (d : Dev) (a b : Nat) : Dev :=
  if d.monLive && d.sup.stage == a then { d with sup := { d.sup with stage := b } } else d

def execOpenWirePullOn (s : State) : Res := .next (s.onDev (·.wireStage 1 2))
def execOpenWirePullOff (s : State) : Res := .next (s.onDev (·.wireStage 2 3))

/-- An output of three cells enters the baseline or the loaded window that began at `row`: the outputs whose described
instants lie in 0 to 1.0 ms and in 8.0 to 9.0 ms are the 13th to 28th and the 141st to 156th (Tables 5.5, 6.3). -/
def WindowSums.add (w : WindowSums) (since : Nat) (vs : List Int) : WindowSums :=
  let plus (a : List Int) : List Int := [nthInt a 0 + nthInt vs 0, nthInt a 1 + nthInt vs 1, nthInt a 2 + nthInt vs 2]
  if 13 ≤ since && since ≤ 28 then { w with base := plus w.base, baseN := w.baseN + 1 }
  else if 141 ≤ since && since ≤ 156 then { w with load := plus w.load, loadN := w.loadN + 1 }
  else w

/-- An output falls into the open-wire window in progress (R122, R123): cells w and w + 1 of the wire in test. -/
def Dev.noteWire (d : Dev) : Dev :=
  if d.sup.stage == 0 then d
  else
    let w := field (d.nat Reg.openWireState) 0 4
    let hit := (wireCells d.samp.cells w).any (fun k => d.samp.wideClipped.testBit (k - 1))
    { d with sup := { d.sup with
      sums := d.sup.sums.add (d.outputsSince d.sup.windowRow)
        [if w == 0 then 0 else nthInt d.samp.wide (w - 1), nthInt d.samp.wide w, 0],
      disturbed := d.sup.disturbed || hit } }

/-- WireRdown as read: wire n reads 0 (R147). -/
def Dev.wireRdownOf (d : Dev) (j : Nat) : Int := if j == d.samp.cells then 0 else d.reg (Reg.wireRdown j)

/-- 50 µA × R_wire in 1/20,000 µV (R121): WireRdown of the wire while the wire-gauge state is 2, else SenseSeriesR. -/
def Dev.wireDrop (d : Dev) (w : Nat) : Int :=
  if d.nat Reg.wireGaugeState == 2 then d.wireRdownOf w else 1000000 * d.reg Reg.senseSeriesR

/-- The compensated shift of one cell of the window, in 1/20,000 µV over `den`: P − B and the drop (R121, R122). -/
def WindowSums.shift (s : WindowSums) (i : Nat) : Int := 20000 * (nthInt s.load i * s.baseN - nthInt s.base i * s.loadN)

/-- The compensated shifts show wire w open (R121, R123): the shift of cell w falls, that of cell w + 1 rises. -/
def Dev.wireOpen (d : Dev) (w : Nat) : Bool :=
  let s := d.sup.sums
  let den : Int := s.baseN * s.loadN
  let t := d.reg Reg.openWireThreshold * 20000000 * den
  let drop := d.wireDrop w * den
  if w == 0 then s.shift 1 + drop < -t
  else if w == d.samp.cells then s.shift 0 + drop < -t
  else s.shift 0 + drop < -t && t < s.shift 1 - drop

/-- The shift is judged (R123): an open wire latches at once; OpenWireLastPass waits for the window's end. A disturbed window is
tested again. DESIGN CHOICE (assumption 98): so is a window in which no
output fell into B or into P. -/
def Dev.wireEvaluate (d : Dev) : Dev :=
  if d.monLive && d.sup.stage == 3 then
    let w := d.wireInTest
    let d : Dev := { d with sup := { d.sup with stage := 4 } }
    if d.sup.disturbed || d.sup.sums.baseN == 0 || d.sup.sums.loadN == 0 then
      { d with sup := { d.sup with again := true } }
    else if d.wireOpen w then
      let d : Dev := { d with sup := { d.sup with finding := some true } }
      let d : Dev := { d with bal := { d.bal with run := d.bal.run.map (fun r => { r with openWires := r.openWires ||| 2 ^ w }) } }
      (d.latchWires (d.nat Reg.openWireLatched ||| 2 ^ w)).raise 4
    else { d with sup := { d.sup with finding := some false } }
  else d

def execOpenWireEvaluate (s : State) : Res := .next (s.together (s.onDev (·.wireEvaluate)))

/-- At 12.0 ms the window ends: the same wire again where a gauge step or a clip fell into its window, whose finding then leaves
OpenWireLastPass as it is; else the finding is shown there, and the next wire follows or the pass ends (R122, R123). -/
def Dev.wireWindowEnd (d : Dev) : Dev :=
  if d.monLive && d.sup.stage == 4 then
    let w := d.wireInTest
    let repeats := d.sup.again || d.sup.disturbed
    let next := if repeats then 0x40 + w else if w < d.samp.cells then 0x40 + (w + 1) else 0
    let d := if repeats then d else match d.sup.finding with
      | some isOpen => d.setBit Reg.openWireLastPass w (!isOpen)
      | none => d
    ({ d with sup := { d.sup with stage := 0, again := false, finding := none } }.setNat Reg.openWireState next).refreshBal
  else d

/-- The open-wire pass is abandoned (sleep, HV reset). -/
def Dev.abandonWirePass (d : Dev) : Dev :=
  ({ d with sup := { d.sup with stage := 0, again := false } }.setNat Reg.openWireState 0).refreshBal

/-- The outputs in which the sum of the group beside each open wire has met the conditions of R124. -/
def Dev.superviseGroups (d : Dev) : Dev :=
  (d.openWires.filter (fun w => 1 ≤ w && w < d.samp.cells)).foldl (fun d w =>
    let cells := d.supervisedCells w
    d.superviseRuns w cells.length (cells.foldl (fun a k => a + nthInt d.samp.wide (k - 1)) 0)) d

/-- A supervision condition of wire w has held for the deglitch time: in outputs for a group, in whole check periods for an
end cell (R117, R124). -/
def Dev.groupReached (d : Dev) (w : Nat) (ov tripped : Bool) : Bool :=
  let key := 4 * w + (if ov then 0 else 2) + (if tripped then 0 else 1)
  let need := if w == 0 || w == d.samp.cells then d.deglitchPeriods else d.deglitchOutputs
  (need : Int) ≤ (Tab.find key d.sup.groupRuns).getD 0

/-- Group or end-cell supervision of an open wire trips or releases (R124, R119). -/
def Dev.groupTrip (d : Dev) (w : Nat) (ov tripped : Bool) : Dev :=
  if d.monLive && w ≤ d.samp.cells && d.bit Reg.openWireLatched w && d.groupReached w ov tripped then
    let m := maskOf ((d.supervisedCells w).map (· - 1))
    let upd (v : Nat) : Nat := if tripped then v ||| m else clearBits v m
    let d := { d with sup := if ov then { d.sup with ovGroup := upd d.sup.ovGroup }
                             else { d.sup with uvGroup := upd d.sup.uvGroup } }
    let d := if tripped then d.orBits (if ov then Reg.ovLatched else Reg.uvLatched) m else d
    d.refreshLive
  else d

def execGroupTrip (w : Nat) (ov tripped : Bool) (s : State) : Res := .next (s.onDev (·.groupTrip w ov tripped))

/-- Group and end-cell trips end at sleep entry; their latched bits stay, and every count starts at zero at the wake
(R125). -/
def Dev.endGroupTrips (d : Dev) : Dev :=
  ({ d with sup := { d.sup with ovGroup := 0, uvGroup := 0, groupRuns := [], slots := [] } } : Dev).refreshLive

/-! ## Shunt common mode and the legacy wake check -/

/-- R126; channel 1 or 2. -/
def Dev.shuntCommonMode (d : Dev) (x : Nat) (beyond : Bool) : Dev :=
  if d.monLive && (x == 1 || x == 2) then
    let was := d.bit (Reg.currentStatus x) 4
    (d.setBit (Reg.currentStatus x) 4 beyond).raiseIf (beyond && !was) 5
  else d

def execShuntCommonMode (x : Nat) (beyond : Bool) (s : State) : Res := .next (s.together (s.onDev (·.shuntCommonMode x beyond)))

/-- The conditions of one legacy check: OV, UV, hot, cold (R130). DESIGN CHOICE (assumption 99): a cell result equal to a
threshold does not meet its condition. -/
def Dev.legacyConditions (d : Dev) (cells : List Nat) (ain1 ain2 : Nat) : Nat :=
  let volts := cells.take d.samp.cells
  let ov := volts.any (fun c => d.reg Reg.legacyOvCode * 5000000 < sarUv c * 4096)
  let uv := volts.any (fun c => sarUv c * 4096 < d.reg Reg.legacyUvCode * 5000000)
  let up := [ain1 % 65536 / 16, ain2 % 65536 / 16]
  let hot := up.any (fun c => c ≤ d.nat Reg.legacyTempHot)
  let cold := up.any (fun c => d.nat Reg.legacyTempCold ≤ c)
  (if ov then 1 else 0) + (if uv then 2 else 0) + (if hot then 4 else 0) + (if cold then 8 else 0)

/-- Each LegacyWakePeriod in sleep (R130): a condition met in two consecutive checks drives WAKE_N low. -/
def Dev.legacyCheck (d : Dev) (cells : List Nat) (ain1 ain2 : Nat) : Dev :=
  if d.pwr.hv == .sleep && d.on Reg.legacyWakeEnable then
    let c := d.legacyConditions cells ain1 ain2
    let met := c &&& d.sup.legacy
    let d := { d with sup := { d.sup with legacy := c, wakeLow := d.sup.wakeLow || met != 0 } }
    d.orBits Reg.legacyWakeStatus met
  else d

def execLegacyWakeCheck (cells : List Nat) (ain1 ain2 : Nat) (s : State) : Res :=
  .next (s.onDev (·.legacyCheck cells ain1 ain2))

end Sys2Proof.Machine
end

