-- ==== Sys2Proof/Machine/Trig.lean ====
section
/-! DEFINITION. Sine and cosine of fractions of a turn as scaled integers, for the multisine generator and the impedance
correlators (R156, R159). -/

namespace Sys2Proof.Machine

/-- 1.0 of a scaled sine. -/
def trigOne : Nat := 2 ^ 80

/-- π / 2 in units of 2^−80. -/
def halfPi : Int := 1898976236818169290393996

/-- Σ (−1)^j x^(2j+1) / (2j+1)! from the term x^(k) / k! on, in units of 2^−80; `xx` is x². -/
def sinSeries (xx : Int) : Nat → Nat → Int → Int
  | 0, _, _ => 0
  | fuel + 1, k, term => term + sinSeries xx fuel (k + 2) (-(term * xx / trigOne / ((k + 1) * (k + 2) : Nat)))

/-- sin of rem / q of a quarter turn, rem at most q. -/
def sinQuarter (rem q : Nat) : Int :=
  let x := halfPi * rem / q
  sinSeries (x * x / trigOne) 16 1 x

/-- sin of p / q turns in units of 2^−80, q above 0. -/
def sinTurn (p q : Nat) : Int :=
  let r := p % q
  let rem := 4 * r % q
  match 4 * r / q with
  | 0 => sinQuarter rem q
  | 1 => sinQuarter (q - rem) q
  | 2 => -sinQuarter rem q
  | _ => -sinQuarter (q - rem) q

/-- cos of p / q turns. -/
def cosTurn (p q : Nat) : Int := sinTurn (4 * p + q) (4 * q)

end Sys2Proof.Machine
end

