-- ==== Sys2Proof/Machine/Balancing.lean ====
section
/-! DEFINITION. Balancing (R136 to R152), the wire-gauge routine (R153 to R155) and impedance runs (R156 to R163). -/

namespace Sys2Proof.Machine

/-! ## Requests -/

/-- A write of BalRequest (R141): bits above CellCount are ignored. -/
def Dev.writeBalRequest (d : Dev) (v : Nat) : Dev := d.setNat Reg.balRequest (v % 2 ^ d.samp.cells)

/-- BalHold seconds after the last write of BalRequest (R141); the timer pauses in sleep, and 0 disables it. -/
def Dev.balHoldExpiry (d : Dev) : Dev :=
  if d.monLive && d.on Reg.balHold then d.set Reg.balRequest 0 else d

def execBalHoldExpiry (s : State) : Res := .next (s.onDev (·.balHoldExpiry))

/-! ## Switch faults (R139) -/

def Dev.switchFault (d : Dev) (k : Nat) (stuck : Bool) : Dev :=
  if d.monLive && 1 ≤ k && k ≤ 24 then
    let b := 2 ^ (k - 1)
    let d : Dev := { d with bal := if stuck then { d.bal with faultStuck := d.bal.faultStuck ||| b }
                                   else { d.bal with faultOver := d.bal.faultOver ||| b } }
    ((d.orBits Reg.balFaultLatched b).refreshBal).raise 8
  else d

def execSwitchFaultLatch (k : Nat) (stuck : Bool) (s : State) : Res := .next (s.together (s.onDev (·.switchFault k stuck)))

/-- Writing 1 to bits of BalFaultLatched clears their latches (R139). -/
def Dev.clearSwitchFaults (d : Dev) (m : Nat) : Dev :=
  ({ d with bal := { d.bal with faultOver := clearBits d.bal.faultOver m, faultStuck := clearBits d.bal.faultStuck m } }.andNot
    Reg.balFaultLatched m).refreshBal

/-! ## The frame decision -/

/-- The excited group of the run in progress, one bit per cell (Table 6.4). -/
def Dev.excited (d : Dev) : Nat :=
  match d.bal.run with
  | some r =>
    if r.source == 1 then 0
    else maskOf (((upTo d.samp.cells).filter (fun k => r.cells.testBit (k - 1) && (k % 2 == 0) == r.even)).map (· - 1))
  | none => 0

/-- P_on of cell k in pW: 72 mW until measured (R144). -/
def Dev.onPowerOf (d : Dev) (k : Nat) : Nat := ((Tab.find k d.bal.pOn).getD 72000000000).toNat

/-- The P_on of the cells of a mask, summed. -/
def Dev.powerSum (d : Dev) (mask : Nat) : Nat :=
  ((upTo 24).filter (fun k => mask.testBit (k - 1))).foldl (fun a k => a + d.onPowerOf k) 0

/-- BalCurrent and P_on take the last frame's on-time (R138, R144). -/
def Dev.takeMeasures (d : Dev) : Dev :=
  let d := (upTo 24).foldl (fun d k =>
    match Tab.find k d.bal.onCount with
    | some n =>
      { (d.set (Reg.balCurrent k) (roundDiv ((Tab.find k d.bal.onSum).getD 0) (1000 * n.toNat))) with
        bal := { d.bal with pOn := Tab.put k (roundDiv ((Tab.find k d.bal.onPower).getD 0) n.toNat) d.bal.pOn } }
    | none => d.set (Reg.balCurrent k) 0) d
  { d with bal := { d.bal with onSum := [], onPower := [], onCount := [] } }

/-- Levels 5 and 6 (R143, R146). -/
def Dev.judgeCells (d : Dev) : Dev :=
  let t := d.monTemp
  let hot := if d.reg Reg.balTempLimit ≤ t then true else if t ≤ d.reg Reg.balTempLimit - 50 then false else d.bal.hot
  let m := d.reg Reg.balMinCell * 1000
  let low := maskOf (((upTo d.samp.cells).filter (fun k =>
    d.reg (Reg.cellVoltage k) < m || (d.bal.low.testBit (k - 1) && d.reg (Reg.cellVoltage k) < m + 50000))).map (· - 1))
  { d with bal := { d.bal with hot := hot, low := low } }

/-- The sixteenths of on-rows that blank mode leaves (R144). -/
def Dev.frameShare (d : Dev) : Nat := if d.nat Reg.balModeInForce == 0 then 14 else 16

/-- The throttle duty for sums in pW/32 and a limit in mW (R145). -/
def throttleDuty (exc bal limitMw : Nat) : Nat :=
  let limit := limitMw * 32000000000
  if exc + bal ≤ limit then 16 else if limit ≤ exc || bal == 0 then 0 else min 16 (16 * (limit - exc) / bal)

/-- Cells free of levels 1 to 6, one bit each. -/
def Dev.freeCells (d : Dev) : Nat :=
  if d.bal.hot then 0 else clearBits (clearBits (2 ^ d.samp.cells - 1) d.ownedAbove) d.bal.low

/-- Levels 7 and 8 of the frame (R140, R142). -/
def Dev.assignLevels (d : Dev) : Dev :=
  let free := d.freeCells
  let l7 := d.excited &&& free
  let l8 := clearBits (d.nat Reg.balRequest &&& free) l7
  { d with bal := { d.bal with level7 := l7, level8 := l8 } }

/-- p_exc in pW/32 (R144). -/
def Dev.excPower (d : Dev) : Nat := d.powerSum d.bal.level7 * d.frameShare

/-- p_bal in pW/32 (R144). -/
def Dev.balPower (d : Dev) : Nat := d.powerSum d.bal.level8 * 2 * d.frameShare

/-- An impedance run in progress ends with a state of R158 and delivers nothing (R161). -/
def Dev.abandonRun (d : Dev) (st : Nat) : Dev :=
  if d.bal.run.isSome then
    ({ d with bal := { d.bal with run := none, level7 := 0 } }.setNat Reg.impState st).refreshBal
  else d

/-- Ownership, sums and duty of a frame (R140 to R146); an excitation beyond the limit ends its run (R145, R161). -/
def Dev.decideFrame (d : Dev) : Dev :=
  let d := d.assignLevels
  let d := if d.nat Reg.balPowerLimit * 32000000000 < d.excPower then (d.abandonRun 5).assignLevels else d
  let duty := throttleDuty d.excPower d.balPower (d.nat Reg.balPowerLimit)
  let d := (d.setNat Reg.balDuty duty).setNat Reg.balPowerEstimate
    (roundDiv (d.excPower + d.balPower : Nat) 32000000000).toNat
  let d := (d.setNat Reg.balActive (d.bal.level7 ||| d.bal.level8)).setBool Reg.balHeld
    (d.nat Reg.balModeInForce == 0 && (d.bal.level7 ||| d.bal.level8) != 0)
  ((upTo 24).foldl (fun d k => d.setBit (Reg.balState k) 3 (duty < 16 && d.bal.level8.testBit (k - 1))) d).refreshBal

/-- BalMode comes into force (R151): compensate mode only while the wire gauge is done, blank mode until then. While the
routine runs the mode's effect is suspended (R153), and BalModeInForce shows blank, whatever BalMode is (DESIGN CHOICE,
assumption 182). -/
def Dev.applyMode (d : Dev) : Dev :=
  if d.nat Reg.wireGaugeState == 1 then d.set Reg.balModeInForce 0
  else if d.nat Reg.balMode == 1 then d.set Reg.balModeInForce (if d.nat Reg.wireGaugeState == 2 then 1 else 0)
  else d.set Reg.balModeInForce (d.reg Reg.balMode)

/-- A step of the wire-gauge routine begins at a multiple-of-8 tick (R154), once an open-wire pass in progress is over
(R153): every switch opens. -/
def Dev.gaugeTick (d : Dev) : Dev :=
  if d.monLive && d.nat Reg.wireGaugeState == 1 && d.bal.gaugeRow.isNone && d.bal.gaugeSteps.length < d.samp.cells
      && !d.passRunning && d.samp.tickRow % 8 == 0 then
    { d with bal := { d.bal with gaugeRow := some d.samp.tickRow, gaugeSums := .empty } }
  else d

/-- A wire-gauge routine that is due starts at a frame start unless CellCount has changed since its request; a run in
progress keeps it waiting (R153), also where a write of BalMode 1 has asked for it, which is accepted meanwhile (DESIGN CHOICE,
assumption 181). -/
def Dev.startGauge (d : Dev) : Dev :=
  match d.bal.gaugeDue with
  | some n =>
    if d.bal.run.isSome then d
    else
      let d : Dev := { d with bal := { d.bal with gaugeDue := none, gaugeSteps := [], gaugeRow := none } }
      if n == d.nat Reg.cellCount && n == d.samp.cells && d.nat Reg.wireGaugeState != 1 then
        (d.set Reg.wireGaugeState 1).gaugeTick
      else d
  | none => d

/-! ## The switches of a frame -/

/-- Rows since the frame's start. -/
def Dev.frameAge (d : Dev) : Nat := (d.samp.tickRow + 2 ^ 32 - d.bal.frameRow) % 2 ^ 32

/-- Blank mode keeps the switches of levels 7 and 8 open on rows 112 to 127 (R148). -/
def Dev.blankRow (d : Dev) : Bool := d.nat Reg.balModeInForce == 0 && 112 ≤ d.frameAge

/-- A level-8 switch is closed on rows 0 to 8D − 1, in blank mode on rows 0 to 7D − 1 (R145). -/
def Dev.onRow (d : Dev) : Bool :=
  d.frameAge < (if d.nat Reg.balModeInForce == 0 then 7 else 8) * d.nat Reg.balDuty

/-- The used tones of a run in ascending frequency: frequency in 0.125 Hz and amplitude in 1/1,024 (R156, R157). -/
def ImpRun.tones (r : ImpRun) : List (Nat × Nat) :=
  sortBy (fun a b => a.1 ≤ b.1)
    (((List.range 8).map (fun t => (nth r.freqs t, nth r.amps t))).filter (fun t => t.1 != 0))

/-- Term i of m of d(t) in 1/1,024, scaled, at the n-th output since the run's start: a_i sin(2π f_i t + φ_i) with
φ_i = −π i (i − 1) / m, in turns f n / 128,000 − i (i − 1) / 2m (R156). -/
def excTerm (m i f a n : Nat) : Int :=
  a * sinTurn (f * n * m + 64000 * (i * (i - 1)) * (2 * m - 1)) (128000 * m)

/-- The sum over the tones from the i-th on. -/
def excSum (m n : Nat) : Nat → List (Nat × Nat) → Int
  | _, [] => 0
  | i, t :: rest => excTerm m i t.1 t.2 n + excSum m n (i + 1) rest

/-- d(t) × 1,024 of the modulation period that begins at the n-th output since the run's start, rounded (R156). -/
def ImpRun.duty (r : ImpRun) (n : Nat) : Nat :=
  (roundDiv (512 * trigOne + excSum r.tones.length n 1 r.tones) trigOne).toNat

/-- d × 1,024 of the excited switches in the present modulation period. -/
def Dev.excDuty (d : Dev) : Nat :=
  match d.bal.run with
  | some r => r.duty ((d.samp.outNo + 2 ^ 33 - r.startOut) % 2 ^ 33)
  | none => 0

/-- The wire-gauge step in progress closes switch k from 1.0 to 9.0 ms (Table 6.3). -/
def Dev.gaugeCloses (d : Dev) (k : Nat) : Bool :=
  match d.bal.gaugeRow with
  | some r => k == d.gaugeCell && 16 ≤ d.outputsSince r && d.outputsSince r < 144
  | none => false

/-- Closed MON cycles of switch k in the present modulation period of 1,024 (Table 6.1, R145, R148, R154, R156). -/
def Dev.switchCycles (d : Dev) (k : Nat) : Nat :=
  let b := k - 1
  if !d.monLive || k == 0 || d.samp.cells < k || (d.bal.faultOver ||| d.bal.faultStuck).testBit b || d.windowCells.testBit b then 0
  else if d.nat Reg.wireGaugeState == 1 then (if d.gaugeCloses k then 1024 else 0)
  else if (clearBits d.sup.uvTripped d.testMask ||| d.sup.uvGroup).testBit b then 0
  else if d.bal.level7.testBit b then (if d.blankRow then 0 else d.excDuty)
  else if d.bal.level8.testBit b then (if d.onRow then 1024 else 0)
  else 0

/-- Switch k closes in the present modulation period. -/
def Dev.switchClosed (d : Dev) (k : Nat) : Bool := d.switchCycles k != 0

/-- Mirror currents and drain-source voltages add to the on-time means (R138, R144). DESIGN CHOICE (assumption 100): a sample
counts as on-time where its switch is commanded closed for some part of the modulation period, at any level. -/
def Dev.measureSwitches (d : Dev) (mirrorUa vdsUv : List Int) : Dev :=
  (upTo 24).foldl (fun d k =>
    let i := nthInt mirrorUa (k - 1)
    if d.switchClosed k then
      { d with bal := { d.bal with
        onSum := Tab.put k ((Tab.find k d.bal.onSum).getD 0 + i) d.bal.onSum,
        onPower := Tab.put k ((Tab.find k d.bal.onPower).getD 0 + i * nthInt vdsUv (k - 1)) d.bal.onPower,
        onCount := Tab.put k ((Tab.find k d.bal.onCount).getD 0 + 1) d.bal.onCount } }
    else d) d

/-! ## Impedance runs: their start -/

/-- ImpSource 1 and 2 need the current channel of ImpShunt (R158). -/
def Dev.sourceBlocked (d : Dev) (source : Nat) : Bool :=
  source != 0 && !d.on (Reg.currentEnable (d.nat Reg.impShunt + 1))

/-- The configuration of a run that starts now (R157, R158). -/
def Dev.runConfig (d : Dev) : ImpRun :=
  { source := d.nat Reg.impSource, shunt := d.nat Reg.impShunt, window := d.nat Reg.impWindow,
    cells := d.nat Reg.impCells, freqs := (upTo 8).map (fun t => d.nat (Reg.impToneFreq t)),
    amps := (upTo 8).map (fun t => d.nat (Reg.impToneAmp t)), even := false, gated := false,
    openWires := d.nat Reg.openWireLatched, startOut := 2 * d.samp.tickRow, outputs := 0, taken := 0, sums := [],
    clipSeen := 0, stepSeen := false }

/-- The cells correlated in the present window (Table 6.4). -/
def Dev.correlated (d : Dev) (r : ImpRun) : List Nat :=
  (upTo d.samp.cells).filter (fun k => r.cells.testBit (k - 1) && (r.source == 1 || (k % 2 == 0) == r.even))

/-- The correlators of a window that opens now: one for each correlated cell and used tone, at 0 (R159). An open-wire window
in progress holds them (R161). -/
def Dev.openWindow (d : Dev) (r : ImpRun) : ImpRun :=
  { r with
    gated := d.sup.stage != 0, openWires := d.nat Reg.openWireLatched, outputs := 0, taken := 0,
    sums := (d.correlated r).flatMap (fun k => ((upTo 8).filter (fun t => nth r.freqs (t - 1) != 0)).map
      (fun t => ⟨k, t, 0, 0, 0, 0, 0, 0⟩)),
    clipSeen := 0, stepSeen := false }

/-- A run that is due starts at a frame start (R158); a natural run opens its window at once. -/
def Dev.startRun (d : Dev) : Dev :=
  let due := d.nat Reg.impEnable == 1 || (d.nat Reg.impEnable == 2 && d.bal.runDue)
  if due && d.bal.run.isNone && d.nat Reg.wireGaugeState != 1 && !d.sourceBlocked (d.nat Reg.impSource) then
    let r := d.runConfig
    { d with bal := { d.bal with run := some (if r.source == 1 then d.openWindow r else r), runDue := false } }.setNat
      Reg.impState (if r.source == 1 then 4 else 1)
  else d

/-- A frame start: the tick of a row that is a multiple of 128 (R140). A mean held at sleep entry goes on feeding the filter
after the wake until the next frame start decides (R149; DESIGN CHOICE, assumption 185). -/
def Dev.frameStart (d : Dev) : Dev :=
  if d.monLive && d.samp.tickRow % 128 == 0 then
    let before := d.nat Reg.balDuty
    let d := ((d.takeMeasures.startGauge).startRun).applyMode
    let d := ({ d with bal := { d.bal with frameRow := d.samp.tickRow } } : Dev).judgeCells.decideFrame
    let d : Dev := { d with samp := { d.samp with held := if d.on Reg.balHeld then d.samp.held else none } }
    if d.nat Reg.balDuty < 16 then (d.bump Reg.balThrottleCount).raiseIf (before == 16) 9 else d
  else d

def execBalanceFrameStart (s : State) : Res := .next (s.together (s.onDev (·.frameStart)))

/-- In a held frame the mean of the seven outputs 249 to 255 feeds the corner filter from the 255th on (R149). -/
def Dev.blankHold (d : Dev) : Dev := if d.monLive then d.holdMean else d

def execBlankHold (s : State) : Res := .next (s.onDev (·.blankHold))

/-- A write of BalMode (R151). -/
def Dev.writeBalMode (d : Dev) (v : Nat) : Dev :=
  let d := d.setNat Reg.balMode v
  if v == 1 && d.nat Reg.wireGaugeState != 2 && d.nat Reg.wireGaugeState != 1 then
    { d with bal := { d.bal with gaugeDue := some (d.nat Reg.cellCount) } }
  else d

/-! ## Wire gauge -/

/-- 1 written to WireGaugeCommand (R153). DESIGN CHOICE (assumption 101): a CellCount change shows as a CellCount not yet in
force, and the write is then refused; a change made after the write lets the request drop at the frame start. -/
def Dev.writeWireGauge (d : Dev) : Written :=
  if d.nat Reg.wireGaugeState == 1 || d.bal.run.isSome || d.nat Reg.cellCount != d.samp.cells then .error commandRefused
  else .ok { d with bal := { d.bal with gaugeDue := some (d.nat Reg.cellCount) } }

/-- An output falls into the wire-gauge step in progress (Table 6.3): cells k − 1, k and k + 1, and from 8.0 to 9.0 ms the
mirror current of switch k. -/
def Dev.noteGauge (d : Dev) (mirrorUa : List Int) : Dev :=
  match d.bal.gaugeRow with
  | some r =>
    let k := d.gaugeCell
    let since := d.outputsSince r
    let s := d.bal.gaugeSums.add since [if k == 1 then 0 else nthInt d.samp.wide (k - 2), nthInt d.samp.wide (k - 1),
      if k < d.samp.cells then nthInt d.samp.wide k else 0]
    let s := if 128 ≤ since && since < 144 then { s with amps := s.amps + nthInt mirrorUa (k - 1), ampsN := s.ampsN + 1 } else s
    { d with bal := { d.bal with gaugeSums := s } }
  | none => d

/-- Δ of the i-th cell of a step in sixteenths of µV: P − B of the means (R154). -/
def WindowSums.delta (s : WindowSums) (i : Nat) : Int :=
  roundDiv (16 * (nthInt s.load i * s.baseN - nthInt s.base i * s.loadN)) (s.baseN * s.loadN)

/-- The windows of a step are filled; at cell 1 and cell n the end input has been converted in both periods (R154). -/
def Dev.gaugeFilled (d : Dev) : Bool :=
  let s := d.bal.gaugeSums
  s.baseN != 0 && s.loadN != 0 && s.ampsN != 0
    && (!(d.gaugeCell == 1 || d.gaugeCell == d.samp.cells) || (s.edgeBase.isSome && s.edgeLoad.isSome))

/-- The step of a cell ends (R154): its changes and its current; the next step may start. -/
def Dev.gaugeStep (d : Dev) : Dev :=
  if d.monLive && d.nat Reg.wireGaugeState == 1 && d.bal.gaugeRow.isSome && d.gaugeFilled then
    let s := d.bal.gaugeSums
    let step : GaugeStep :=
      ⟨s.delta 0, s.delta 1, s.delta 2, 16 * (s.edgeLoad.getD 0 - s.edgeBase.getD 0), roundDiv (16 * s.amps) s.ampsN⟩
    ({ d with bal := { d.bal with gaugeSteps := d.bal.gaugeSteps ++ [step], gaugeRow := none } } : Dev).gaugeTick
  else d

def execWireGaugeStep (s : State) : Res := .next (s.onDev (·.gaugeStep))

/-- The voltage over r_up(k) in step k of n: cell k + 1, or the end input at the last cell (R155). -/
def GaugeStep.up (g : GaugeStep) (k n : Nat) : Int := if k == n then g.edge else g.next

/-- The voltage over r_dn(k − 1) in step k: cell k − 1, or the end input at the first cell (R155). -/
def GaugeStep.down (g : GaugeStep) (k : Nat) : Int := if k == 1 then g.edge else g.prev

/-- The voltage over r_cell(k) (R155). -/
def GaugeStep.cell (g : GaugeStep) (k n : Nat) : Int := -g.self - g.up k n - g.down k

/-- Step k fails (R155): below 20 mA, a wire outside 0 to 150 Ω, below −0.5 mV or above 2 Ω at the cell. -/
def GaugeStep.fails (g : GaugeStep) (k n : Nat) : Bool :=
  g.ua < 320000 || g.up k n < 0 || 150 * g.ua < g.up k n || g.down k < 0 || 150 * g.ua < g.down k
    || g.cell k n < -8000 || 2 * g.ua < g.cell k n

/-- µΩ of a voltage and a current in the same fractions of µV and µA (sixteenths, R155), rounded to the nearest (DESIGN CHOICE,
assumption 184). -/
def microOhm (uv ua : Int) : Int := roundDiv (uv * 1000000) ua.toNat

/-- The results of step k of n (R155). -/
def Dev.gaugeResult (d : Dev) (k n : Nat) (g : GaugeStep) : Dev :=
  let cell := microOhm (g.cell k n) g.ua
  ((d.set (Reg.wireRup k) (microOhm (g.up k n) g.ua)).set (Reg.wireRdown (k - 1)) (microOhm (g.down k) g.ua)).set
    (Reg.wireCellR k) (if cell < 0 then 0 else cell)

def Dev.gaugeStepOf (d : Dev) (k : Nat) : GaugeStep := (d.bal.gaugeSteps[k - 1]?).getD ⟨0, 0, 0, 0, 0⟩

/-- The routine has stepped every cell: its results, or its failure (R155). -/
def Dev.gaugeDone (d : Dev) : Dev :=
  let n := d.samp.cells
  if d.monLive && d.nat Reg.wireGaugeState == 1 && d.bal.gaugeSteps.length == n then
    match (upTo n).find? (fun k => (d.gaugeStepOf k).fails k n) with
    | some k => ((((d.set Reg.wireGaugeState 4).setNat Reg.wireGaugeFailCell k).refreshBal)).raise 10
    | none =>
      let d := (upTo n).foldl (fun d k => d.gaugeResult k n (d.gaugeStepOf k)) d
      (((d.set (Reg.wireRup 0) 0).set (Reg.wireRdown n) 0).set Reg.wireGaugeState 2).refreshBal
  else d

def execWireGaugeDone (s : State) : Res := .next (s.together (s.onDev (·.gaugeDone)))

/-- Sleep entry or HV reset abandons the routine (R153). -/
def Dev.abandonGauge (d : Dev) : Dev :=
  if d.nat Reg.wireGaugeState == 1 then
    { (d.set Reg.wireGaugeState 3) with bal := { d.bal with gaugeDue := none, gaugeSteps := [], gaugeRow := none } }
  else { d with bal := { d.bal with gaugeDue := none } }

/-! ## Impedance runs -/

/-- 1 written to ImpCommand: with ImpEnable 2 a run is due (R158); with 0 or 1 the write is accepted and does nothing
(DESIGN CHOICE, assumption 183). -/
def Dev.writeImpCommand (d : Dev) : Written :=
  if d.sourceBlocked (d.nat Reg.impSource) then .error commandRefused
  else if d.nat Reg.impEnable == 2 then .ok { d with bal := { d.bal with runDue := true } }
  else .ok d

/-- IMP_RUN_START: a run that is due starts at a frame start, before the frame's switches are decided (R140, R158). -/
def Dev.impStart (d : Dev) : Dev :=
  if d.monLive && d.samp.tickRow % 128 == 0 && d.bal.frameRow != d.samp.tickRow then d.startRun else d

def execImpRunStart (s : State) : Res := .next (s.onDev (·.impStart))

/-- The lead-in ends and correlation begins (R158). -/
def Dev.impLeadInEnd (d : Dev) : Dev :=
  match d.bal.run with
  | some r =>
    if d.monLive && d.nat Reg.impState == 1 then
      { d with bal := { d.bal with run := some (d.openWindow r) } }.setNat Reg.impState (if r.even then 3 else 2)
    else d
  | none => d

def execImpLeadInEnd (s : State) : Res := .next (s.onDev (·.impLeadInEnd))

/-! ## The correlators (R159) -/

/-- The current of a shunt in pA, positive into the pack (R97). DESIGN CHOICE (assumption 102): it enters the correlators
rounded to 1 pA. -/
def Dev.shuntPa (d : Dev) (shunt : Nat) : Int :=
  let pa := roundDiv (nthInt d.samp.wide (24 + shunt) * 12500000000000) (d.nat (Reg.shuntResistance (shunt + 1)))
  if d.on (Reg.shuntPolarity (shunt + 1)) then -pa else pa

/-- v′ of cell k in pV: the wide tap less the term e_k − e_(k−1) behind a copy of the decimator (R159). -/
def Dev.corrVolts (d : Dev) (k : Nat) : Int :=
  nthInt d.samp.wide (k - 1) * 1000000 - (if d.nat Reg.wireGaugeState == 2 then copyOut (column d.samp.terms (k - 1)) else 0)

/-- i of cell k in pA (Table 6.4): the switch current behind a copy of the decimator, the shunt current, or both. -/
def Dev.corrAmps (d : Dev) (r : ImpRun) (k : Nat) : Int :=
  (if r.source == 1 then 0 else copyOut (column d.samp.mirrors (k - 1)) * 1000000)
    - (if r.source == 0 then 0 else d.shuntPa r.shunt)

/-- A correlator takes output n of its window: v, i and the shunt current s at tone frequency f in 0.125 Hz (R159). -/
def ToneSum.add (t : ToneSum) (f n : Nat) (v i s : Int) : ToneSum :=
  let c := cosTurn (f * n) 128000
  let q := sinTurn (f * n) 128000
  { t with vRe := t.vRe + v * c, vIm := t.vIm - v * q, iRe := t.iRe + i * c, iIm := t.iIm - i * q,
           sRe := t.sRe + s * c, sIm := t.sIm - s * q }

/-- The correlators take an output while a window is open, unless an open-wire window holds them (R159, R161); clips, settling
channels and gauge steps in the window are noted (R160). -/
def Dev.correlate (d : Dev) : Dev :=
  match d.bal.run with
  | some r =>
    if d.nat Reg.impState == 2 || d.nat Reg.impState == 3 || d.nat Reg.impState == 4 then
      let r := { r with
        clipSeen := r.clipSeen ||| d.samp.wideClipped ||| d.nat Reg.channelSettling,
        stepSeen := r.stepSeen || (r.outputs != 0 && d.samp.stepBetween), outputs := r.outputs + 1 }
      if d.sup.stage != 0 then { d with bal := { d.bal with run := some { r with gated := true } } }
      else
        let s := d.shuntPa r.shunt
        let sums := r.sums.map (fun t =>
          t.add (nth r.freqs (t.tone - 1)) (r.outputs - 1) (d.corrVolts t.cell) (d.corrAmps r t.cell) s)
        { d with bal := { d.bal with run := some { r with sums := sums, taken := r.taken + 1 } } }
    else d
  | none => d

/-- The correlator of a cell and tone. -/
def ImpRun.sumOf (r : ImpRun) (k t : Nat) : ToneSum :=
  (r.sums.find? (fun s => s.cell == k && s.tone == t)).getD ⟨k, t, 0, 0, 0, 0, 0, 0⟩

/-- |Σ|² of the current. -/
def tonePower (t : ToneSum) : Nat := t.iRe.natAbs ^ 2 + t.iIm.natAbs ^ 2

/-- The shunt current exceeds 10 % of |i_f| (R160). -/
def toneDisturbed (t : ToneSum) : Bool := tonePower t < 100 * (t.sRe.natAbs ^ 2 + t.sIm.natAbs ^ 2)

/-- A tone's result is valid (R160): f × ImpWindow whole, |i_f| = 2 |Σ| / N at least 1.4 mA, no wire of the cell open, no
disturbance with source 0. DESIGN CHOICE (assumption 103): N is the number of outputs accumulated. -/
def ImpRun.valid (r : ImpRun) (k : Nat) (t : ToneSum) : Bool :=
  let f := nth r.freqs (t.tone - 1)
  f != 0 && f * r.window % 8 == 0 && r.taken != 0 && (1400000000 * r.taken * trigOne) ^ 2 ≤ 4 * tonePower t
    && !(r.openWires.testBit (k - 1) || r.openWires.testBit k) && !(r.source == 0 && toneDisturbed t)

/-- Re and Im of −v/i in 0.1 µΩ (R159). -/
def toneRe (t : ToneSum) : Int := roundDiv (-(t.vRe * t.iRe + t.vIm * t.iIm) * 10000000) (tonePower t)
def toneIm (t : ToneSum) : Int := roundDiv (-(t.vIm * t.iRe - t.vRe * t.iIm) * 10000000) (tonePower t)

/-- A result outside the number format, which the manual does not state, is free. -/
def inWord (v : Int) (free : Word) : Int := if -2147483648 < v && v ≤ 2147483647 then v else free.toInt

/-- Results of one tone of one cell (R159, R160). -/
def Dev.toneResult (d : Dev) (r : ImpRun) (k : Nat) (t : ToneSum) : Dev :=
  if r.valid k t then
    { (d.set (Reg.impReal k t.tone) (inWord (toneRe t) (Config.freeWord d.free))).set (Reg.impImag k t.tone)
        (inWord (toneIm t) (Config.freeWord (d.free + 1))) with free := d.free + 2 }
  else (d.set (Reg.impReal k t.tone) (-2147483648)).set (Reg.impImag k t.tone) (-2147483648)

/-- Clipped or settling samples among those of cell k, and of the shunt where it enters the current (R160). -/
def ImpRun.clipped (r : ImpRun) (k : Nat) : Bool :=
  r.clipSeen.testBit (k - 1) || (r.source != 0 && r.clipSeen.testBit (24 + r.shunt))

/-- ImpStatus of a cell at a window's end (R160). -/
def Dev.impStatusOf (d : Dev) (r : ImpRun) (k : Nat) (ts : List ToneSum) : Nat :=
  maskOf ((ts.filter (r.valid k)).map (fun t => t.tone - 1))
    + (if d.nat Reg.wireGaugeState != 2 then 256 else 0) + (if r.gated then 512 else 0)
    + (if r.source == 0 && ts.any (fun t => nth r.freqs (t.tone - 1) != 0 && toneDisturbed t) then 1024 else 0)
    + (if r.clipped k then 2048 else 0) + (if r.stepSeen then 4096 else 0)

/-- The results of a cell (R159, R160, Table 6.11). -/
def Dev.cellResults (d : Dev) (r : ImpRun) (k : Nat) : Dev :=
  let ts := (upTo 8).map (r.sumOf k)
  let d := ts.foldl (fun d t => d.toneResult r k t) d
  (d.setNat (Reg.impStatus k) (d.impStatusOf r k ts)).setNat (Reg.impWindowRow k) d.samp.tickRow

/-- What follows a window (Table 6.4): the even phase's lead-in after the odd window, else the run's end. -/
def Dev.nextPhase (d : Dev) (r : ImpRun) : Dev :=
  if d.nat Reg.impState == 2 then
    { d with bal := { d.bal with run := some { r with even := true, gated := false, sums := [] } } }.set Reg.impState 1
  else ({ d with bal := { d.bal with run := none } }.set Reg.impState 0).bump Reg.impRunCount

/-- An averaging window ends (R158 to R160, R163). -/
def Dev.impWindowEnd (d : Dev) : Dev :=
  match d.bal.run with
  | some r =>
    if d.monLive && (d.nat Reg.impState == 2 || d.nat Reg.impState == 3 || d.nat Reg.impState == 4) then
      let cells := d.correlated r
      let d := cells.foldl (fun d k => d.cellResults r k) d
      let d : Dev := { d with bal := { d.bal with impCells := maskOf (cells.map (· - 1)), impSource := r.source } }
      (d.latchInstant 5 (d.groupContent 5)).nextPhase r
    else d
  | none => d

def execImpWindowEnd (s : State) : Res := .next (s.together (s.onDev (·.impWindowEnd)))

def execImpRunAbandon (forPower : Bool) (s : State) : Res := .next (s.onDev (·.abandonRun (if forPower then 5 else 6)))

/-- The sum of amplitudes over used tones, and equal used tones (R157). -/
def tonesAllowed (freqs amps : List Nat) : Bool :=
  let used := (List.range 8).filter (fun t => nth freqs t != 0)
  (used.foldl (fun a t => a + nth amps t) 0) ≤ 512
    && used.all (fun t => used.all (fun u => t == u || nth freqs t != nth freqs u))

end Sys2Proof.Machine
end

