-- ==== Sys2Proof/Machine/Memory.lean ====
section
/-! DEFINITION. SRAM bytes (Table 10.1) as a list in one canonical form, and the physical memory map that requestors read:
the blocks of R245, the snapshot banks of R265, the mirrors of Table 8.4 and the sample buffer of R98. -/

namespace Sys2Proof.Machine

/-! ## The byte list -/

/-- The byte at an address; an address that is not listed reads 0 (assumption 2). -/
def memRead (a : Nat) : List Host.Cell → BitVec 8
  | [] => 0
  | (k, b) :: t => if k = a then b else memRead a t

/-- Drop the entry of an address. -/
def memDrop (a : Nat) : List Host.Cell → List Host.Cell
  | [] => []
  | (k, b) :: t => if k = a then t else (k, b) :: memDrop a t

/-- List a byte at an address, in ascending order. -/
def memPut (a : Nat) (v : BitVec 8) : List Host.Cell → List Host.Cell
  | [] => [(a, v)]
  | (k, b) :: t => if a < k then (a, v) :: (k, b) :: t else if k = a then (a, v) :: t else (k, b) :: memPut a v t

/-- Write a byte; 0 is not listed. -/
def memWrite (m : List Host.Cell) (a : Nat) (v : BitVec 8) : List Host.Cell :=
  if v = 0 then memDrop a m else memPut a v m

/-- Every listed address is above `a`. -/
def memAbove (a : Nat) : List Host.Cell → Bool
  | [] => true
  | (k, _) :: _ => decide (a < k)

/-- The canonical form: addresses strictly rising, no entry 0. -/
def Memory.wf : List Host.Cell → Bool
  | [] => true
  | (k, b) :: t => (b != 0) && memAbove k t && Memory.wf t

/-- Write bytes at ascending addresses. -/
def memWriteBytes (m : List Host.Cell) (a : Nat) : List Nat → List Host.Cell
  | [] => m
  | b :: t => memWriteBytes (memWrite m a (BitVec.ofNat 8 b)) (a + 1) t

/-- The `n` bytes from an address. -/
def memReadBytes (m : List Host.Cell) (a : Nat) : Nat → List Nat
  | 0 => []
  | n + 1 => (memRead a m).toNat :: memReadBytes m (a + 1) n

/-- A 32-bit word, little-endian (R13). -/
def memReadWord (m : List Host.Cell) (a : Nat) : Nat := ofLe (memReadBytes m a 4)
def memWriteWord (m : List Host.Cell) (a v : Nat) : List Host.Cell := memWriteBytes m a (leBytes 4 v)

/-! ## Regions (Table 10.1) -/

inductive Region where
  | rom | sramFirmware | rowRing | hostArea | fram | sampleBuffer | cellBlocks | phaseBlocks
  | bank (g : Nat) | mirrors | monRegisters | cnvPdRegisters | kaRegisters | peripherals
  deriving DecidableEq, Repr

/-- The region an address lies in. -/
def regionOf (a : Nat) : Option Region :=
  if a ≤ 0x0003FFFF then some .rom
  else if 0x10000000 ≤ a && a ≤ 0x1007FFFF then some .sramFirmware
  else if 0x10080000 ≤ a && a ≤ 0x10097FFF then some .rowRing
  else if 0x10098000 ≤ a && a ≤ 0x100BFFFF then some .sramFirmware
  else if 0x100C0000 ≤ a && a ≤ 0x100FFFFF then some .hostArea
  else if 0x14000000 ≤ a && a ≤ 0x1403FFFF then some .fram
  else if 0x18000000 ≤ a && a ≤ 0x1801FFFF then some .sampleBuffer
  else if 0x21000000 ≤ a && a ≤ 0x210005FF then some .cellBlocks
  else if 0x22000000 ≤ a && a ≤ 0x2200017F then some .phaseBlocks
  else if 0x23000000 ≤ a && a < 0x23007000 && (a - 0x23000000) % 0x1000 < 4 * groupWords ((a - 0x23000000) / 0x1000) then
    some (.bank ((a - 0x23000000) / 0x1000))
  else if 0x24000000 ≤ a && a ≤ 0x240FFFFF then some .mirrors
  else if 0x30000000 ≤ a && a ≤ 0x31FFFFFF then some .monRegisters
  else if 0x32000000 ≤ a && a ≤ 0x33FFFFFF then some .cnvPdRegisters
  else if 0x34000000 ≤ a && a ≤ 0x34FFFFFF then some .kaRegisters
  else if 0x38000000 ≤ a && a ≤ 0x38FFFFFF then some .peripherals
  else none

/-- The requestors whose tables the host owns (Table 10.2). -/
def hostOwned (r : Nat) : Bool := r == 5 || r == 6 || r == 7 || r == 8 || r == 11

/-- A DMA requestor (Table 10.2). -/
def isDmaRequestor (r : Nat) : Bool := 1 ≤ r && r ≤ 8

/-- What Table 10.1 opens to host-owned tables. -/
def hostMayRead : Region → Bool
  | .rowRing | .hostArea | .fram | .sampleBuffer | .cellBlocks | .phaseBlocks | .bank _ | .mirrors => true
  | _ => false

def hostMayWrite : Region → Bool
  | .hostArea => true
  | _ => false

/-- The region permits the access by this requestor (R264, R266, R267, R27, R245). -/
def regionPermits (bufferState requestor : Nat) (write : Bool) (reg : Region) : Bool :=
  (if hostOwned requestor then (if write then hostMayWrite reg else hostMayRead reg) else true)
    && (match reg with
      | .rom => !write
      | .sampleBuffer => bufferState == 3 && !write
      | .fram => !write || requestor == 15
      | .cellBlocks | .phaseBlocks | .bank _ | .mirrors => !write
      | .kaRegisters => !isDmaRequestor requestor
      | _ => true)

/-! ## What a read returns -/

/-- Words of a mirror block (Table 8.4), offset in words. -/
def Dev.mirrorWord (d : Dev) (a w : Nat) : Nat :=
  let set := d.blob (Reg.channelSet a).key (List.replicate 108 0)
  let report := d.blob (Reg.diagnosticReport a).key (List.replicate 27 0)
  if a == 0 || 4094 < a then 0
  else if w == 0 then d.nat (Reg.mirrorState a) + 256 * d.nat (Reg.memberUpPort a) + 65536 * d.nat (Reg.channelCount a)
    + 2 ^ 24 * d.nat (Reg.lastNibble a)
  else if w == 1 then d.nat (Reg.parentAddress a) + 65536 * d.nat (Reg.walkPosition a)
  else if w == 2 then d.nat (Reg.memberSerial a) % 2 ^ 32
  else if w == 3 then d.nat (Reg.memberSerial a) / 2 ^ 32
  else if w == 4 then d.nat (Reg.memberDelay a)
  else if w == 5 then d.nat (Reg.memberWindows a)
  else if w == 6 then d.nat (Reg.lastStitchRow a)
  else if w == 7 then d.nat (Reg.missingRows a)
  else if w == 8 || w == 35 then ofLe (set.take 4)
  else if 9 ≤ w && w < 35 then ofLe ((set.drop (4 * (w - 8))).take 4)
  else if 36 ≤ w && w < 43 then ofLe ((report.drop (4 * (w - 36))).take 4)
  else if w == 43 then d.nat (Reg.memberConfigState a)
  else if w == 44 then d.nat (Reg.memberAbsentCount a)
  else if w == 45 then d.nat (Reg.hops a)
  else 0

/-- Words of a cell block (Table 9.4). -/
def Dev.cellWord (d : Dev) (k w : Nat) : Nat :=
  if w == 0 then word32 (d.reg (Reg.cellVoltage k)) else if w == 1 then word32 (d.reg (Reg.cellVoltageUncorrected k))
  else if w == 2 then d.nat (Reg.cellStatus k) else if w == 3 then word32 (d.reg (Reg.checkVoltage k))
  else if w == 4 then word32 (d.reg (Reg.checkDifference k)) else if w == 5 then d.nat (Reg.balCurrent k)
  else if w == 6 then d.nat (Reg.balState k) else 0

/-- Words of a phase block (R245, R307). -/
def Dev.phaseWord (d : Dev) (p w : Nat) : Nat :=
  if w == 0 then word32 (d.reg (Reg.phaseMeanCurrent p)) else if w == 1 then word32 (d.reg (Reg.phasePeakCurrent p))
  else if w == 2 then d.nat (Reg.phaseFrequency p) else if w == 3 then d.nat (Reg.phaseState p)
  else if w == 4 then d.nat (Reg.phaseRegion p) else if w == 5 then d.nat (Reg.phaseWindow p)
  else if w == 6 then word32 (d.reg (Reg.phaseDeviation p)) else if w == 7 then d.nat (Reg.phaseDeviationCount p)
  else if w == 8 then d.nat (Reg.phaseClampedCycles p) else if w == 9 then d.nat (Reg.phaseForcedCycles p) else 0

/-- Words of the sample buffer (R98): ring frame f = w / 27; what a frame never written holds is free. -/
def Dev.bufferWord (d : Dev) (w : Nat) : Nat :=
  let age := (d.samp.framePos + 2 * 1213 - 1 - w / 27) % 1213
  match d.samp.frames[age]? with
  | some f => if w / 27 < 1213 then word32 (nthInt f (w % 27)) else (Config.freeWord d.free).toNat
  | none => (Config.freeWord d.free).toNat

/-- The payload of an image (R396): a counter record is its 128 bytes; the coding of the others is not published. -/
def Image.payload (cap : Nat) (m : Image) : List Nat :=
  match findBlob 0 m.strings with
  | some b => b.take cap
  | none => (List.range (min cap (Config.imageSize m.regs m.strings))).map (fun i => (Config.imageByte m.regs m.strings i).toNat)

/-- Word `w` of the payload rows that hold an image. -/
def Image.payloadWord (m : Image) (w : Nat) : Nat :=
  match findBlob 0 m.strings with
  | some b => ofLe ((b.drop (4 * w)).take 4)
  | none => ofLe ((List.range 4).map (fun i => (Config.imageByte m.regs m.strings (4 * w + i)).toNat))

/-- The header row of a slot (R396). -/
def headerBytes (seq gen : Nat) (payload : List Nat) : List Nat :=
  let head := leBytes 4 seq ++ leBytes 4 gen ++ leBytes 4 payload.length
  head ++ leBytes 4 (crc32 (payload ++ head))

/-- Word `w` of a slot with `cap` bytes of payload and its header row last (R395, R396, R441). -/
def ImageSlot.word (cap : Nat) : ImageSlot → Nat → Nat
  | .blank, _ => 0
  | .holds seq gen m, w =>
    if 4 * w < cap then m.payloadWord w else ofLe (((headerBytes seq gen (m.payload cap)).drop (4 * w - cap)).take 4)
  | .torn rows m under, w => if w / 4 < rows then m.payloadWord w else under.word cap w

/-- Word `o` of two slots of `cap` bytes of payload each; rows beyond them are never written. -/
def DualImage.word (x : DualImage) (cap o : Nat) : Nat :=
  let n := (cap + 16) / 4
  if o < n then x.a.word cap o else if o < 2 * n then x.b.word cap (o - n) else 0

/-- The dual image at a place of a list, blank where there is none. -/
def dualAt (l : List (Nat × DualImage)) (i : Nat) : DualImage := ((l[i]?).map (·.2)).getD .blank

/-- Word `o` of FRAM page `p`, pages 1 to 63 (Table 15.1). Page 58 gives each skein a word, the sequence number of its first page
(R401), page 59 each block its bit (DEDUCED from their sizes, assumption 172); pages 57 to 59 hold what has been committed. -/
def Storage.pageWord (s : Storage) (p o : Nat) : Nat :=
  if p == 1 then (s.record.getD 0 .blank).word 2032 o
  else if p == 2 then s.headImage.word 2032 o
  else if p ≤ 50 then (dualAt s.members (p - 3)).word 2032 o
  else if p ≤ 54 then (if o / 72 < 14 then (dualAt s.counterRecords (14 * (p - 51) + o / 72)).word 128 (o % 72) else 0)
  else if p == 55 then s.page55.word 48 o
  else if p == 56 then ((s.entryRows[o / 4]?).map (fun e => ofLe ((e.drop (4 * (o % 4))).take 4))).getD 0
  else if p == 57 then (if s.stateWritten then (Config.logStateWord s.openPage.length s.intent s.framVoids o).toNat else 0)
  else if p == 58 then ((s.framSkeins.find? (fun e => e.1 == o)).map (·.2)).getD 0
  else if p == 59 then maskOf ((s.framBad.filter (fun b => b / 32 == o)).map (· % 32))
  else (s.record.getD (p - 59) .blank).word 2032 o

/-- The signature of a page's content (R416). -/
def Storage.pageSignature (s : Storage) (p : Nat) : Nat := misr ((List.range 1024).map (s.pageWord p))

/-- A page's entry of the signature table (R393 step 5). -/
def Storage.signature (s : Storage) (p : Nat) : Nat := ((Tab.find p s.badSignatures).map (·.toNat)).getD (s.pageSignature p)

/-- A row of page 0 beside the signature table has been written: the journal row by any commit, the rows of the store generation
by a store. -/
def Storage.systemRowWritten (s : Storage) (row : Nat) : Bool :=
  (row == Config.systemRow 4 && s.commitSeq != 0)
    || ((row == Config.systemRow 0 || row == Config.systemRow 6) && s.generation != 0)

/-- Word `w` of page 0 (Table 15.1, R441): the signature table has a word for each page, in their order (DESIGN CHOICE, assumption
11), the rows that commits have written hold what is not published, and every other row is cleared. -/
def Storage.systemPageWord (s : Storage) (w : Nat) : Nat :=
  let row := w / 4
  let table := Config.systemRow 3
  if table ≤ row && row < table + 16 then (if w == 4 * table then 0 else s.signature (w - 4 * table))
  else if s.systemRowWritten row then
    (Config.systemWord (s.journal.map (fun j => (j.page, j.first, j.rows, j.seq))) s.generation w).toNat
  else 0

/-- A word of FRAM (R392). -/
def Dev.framWord (d : Dev) (w : Nat) : Nat :=
  if w / 1024 == 0 then d.stor.systemPageWord w else d.stor.pageWord (w / 1024) (w % 1024)

/-- The signature that a march forms over a 1 KiB block of SRAM (R415, R416). -/
def State.blockSignature (s : State) (block : Nat) : Nat :=
  misr ((List.range 256).map (fun i => memReadWord s.mem (0x10000000 + 1024 * block + 4 * i)))

/-- The word that a reader of the memory map reads at a physical address (accesses are of aligned words), and the device after
the read: the first word that it fetches of a bank opens its read and the group's last word closes it (R265). What the manual
does not publish is free. -/
def State.physRead (s : State) (reader a : Nat) : Nat × State :=
  let d := s.dev
  let free := ((Config.freeWord d.free).toNat, s.onDev (fun d => { d with free := d.free + 1 }))
  match regionOf a with
  | some .sramFirmware | some .rowRing | some .hostArea => (memReadWord s.mem (a / 4 * 4), s)
  | some .cellBlocks => (d.cellWord ((a - 0x21000000) / 64 + 1) ((a - 0x21000000) % 64 / 4), s)
  | some .phaseBlocks => (d.phaseWord ((a - 0x22000000) / 64 + 1) ((a - 0x22000000) % 64 / 4), s)
  | some (.bank g) =>
    let w := (a - 0x23000000) % 0x1000 / 4
    let s := if (d.group g).readers.contains reader then s else s.onDev (·.openRead g reader)
    (d.bankWord g w, if w + 1 == groupWords g then s.onDev (·.closeRead g reader) else s)
  | some .mirrors => (d.mirrorWord ((a - 0x24000000) / 256) ((a - 0x24000000) % 256 / 4), s)
  | some .fram => (d.framWord ((a - 0x14000000) / 4), s)
  | some .sampleBuffer => (d.bufferWord ((a - 0x18000000) / 4), s.onDev (fun d => { d with free := d.free + 1 }))
  | _ => free

/-- A word that a requestor writes at a physical address: SRAM takes it; what a write of an unpublished register does the
manual does not say, and no host path reaches one. -/
def State.physWrite (s : State) (a v : Nat) : State :=
  match regionOf a with
  | some .sramFirmware | some .rowRing | some .hostArea => { s with mem := memWriteWord s.mem (a / 4 * 4) v }
  | _ => s

/-! ## Translation (R270) -/

/-- The page-table entry of a requestor. -/
def Dev.pageEntry (d : Dev) (r p : Nat) : Nat := ((Tab.find (r * 1024 + p) d.ctl.pages).getD 0).toNat

/-- A virtual address through a requestor's table: the physical address, or the kind of fault (1 miss, 2 protection). -/
def Dev.translate (d : Dev) (r v : Nat) (write : Bool) : Except (Nat × Nat) Nat :=
  let p := field v 12 21
  let e := d.pageEntry r p
  let phys := field e 12 31 * 4096 + v % 4096
  if v / 2 ^ 22 != 0 || d.nat (Reg.tableLength r) ≤ p || !e.testBit 0 then .error (1, 0)
  else if !e.testBit (if write then 2 else 1) then .error (2, phys)
  else match regionOf phys with
    | some reg => if regionPermits (d.nat Reg.bufferState) r write reg then .ok phys else .error (2, phys)
    | none => .error (2, phys)

/-- `n` words from a virtual address on: the physical address of the first, or the fault of the first word that has one
(R264, R270). -/
def Dev.translateSpan (d : Dev) (r v n : Nat) (write : Bool) : Except (Nat × Nat) Nat :=
  match (List.range n).findSome? (fun k => match d.translate r (v + 4 * k) write with | .error e => some e | .ok _ => none) with
  | some e => .error e
  | none => d.translate r v write

/-- A fault record (Table 10.5). -/
def Dev.recordBytes (d : Dev) (requestor : Nat) (channel : Option Nat) (kind stage words : Nat) (uncertain : Bool)
    (vaddr left desc phys : Nat) : List Nat :=
  leBytes 4 (requestor + (match channel with | some c => 16 * c + 256 | none => 0) + 512 * kind + 4096 * stage
    + 2 ^ 14 * words + (if uncertain then 2 ^ 17 else 0))
    ++ leBytes 4 vaddr ++ leBytes 4 left ++ leBytes 4 desc ++ leBytes 4 d.row ++ leBytes 4 phys ++ List.replicate 8 0

/-- The record of a requestor's last fault (R280). -/
def Dev.requestorRecord (d : Dev) (r : Nat) (bytes : List Nat) : Dev :=
  (d.setBlob (Reg.requestorFault r).key bytes).bump (Reg.faultCount r)

/-- A translation fault of a requestor other than DMA, at `v` (R280); source 45 for requestors 9 to 13. -/
def Dev.translationFault (d : Dev) (r v : Nat) (write : Bool) (kind phys : Nat) : Dev :=
  (d.requestorRecord r (d.recordBytes r none kind (if write then 2 else 1) 0 false v 0 0 phys)).raiseIf
    (9 ≤ r && r ≤ 13) 45

/-- An access of the core or of a requestor that is not DMA: a fetch is the core's read of an instruction, which only ROM may
serve (R263, R270). -/
def Dev.access (d : Dev) (r v : Nat) (write fetch : Bool) : Except (Nat × Nat) Nat :=
  match d.translate r v write with
  | .ok phys => if fetch && r == 0 && regionOf phys != some .rom then .error (2, phys) else .ok phys
  | .error e => .error e

/-- An access that faults in translation (R270): it has a record when it does fault. -/
def Dev.faultedAccess (d : Dev) (r v : Nat) (write fetch : Bool) : Dev :=
  if d.cpuLive && r < 16 && !isDmaRequestor r then
    match d.access r v write fetch with
    | .error (k, phys) => d.translationFault r v write k phys
    | .ok _ => d
  else d

def execTranslationFault (r : Nat) (v : BitVec 32) (write fetch : Bool) (s : State) : Res :=
  .next (s.together (s.onDev (·.faultedAccess r v.toNat write fetch)))

end Sys2Proof.Machine
end

