-- ==== Sys2Proof/Machine/Controller.lean ====
section
/-! DEFINITION. The DMA channels (R274 to R282), page tables (R269 to R272), the row ring (R268), SRAM errors (R273) and the
event controller's writes (R283 to R285). -/

namespace Sys2Proof.Machine

/-! ## Page tables -/

/-- A host-owned table may hold this entry (R271). -/
def entryAllowed (e : Nat) : Bool :=
  if !e.testBit 0 then true
  else field e 3 11 == 0 && (match regionOf (field e 12 31 * 4096) with
    | some reg => hostMayRead reg && (!e.testBit 2 || hostMayWrite reg)
    | none => false)

/-- A write of PageTable (R269, R271, R272): the host's of a table that firmware owns is refused; the firmware's own takes any
entry (DESIGN CHOICE, assumption 163). -/
def Dev.writePageTable (d : Dev) (host : Bool) (r : Nat) (entries : List Nat) : Written :=
  if host && !hostOwned r then .error commandRefused
  else if hostOwned r && (entries.take (d.nat (Reg.tableLength r))).any (fun e => !entryAllowed e) then .error outOfRange
  else
    let kept := d.ctl.pages.dropIf (fun k => k / 1024 == r)
    let pages := (List.range 1024).foldl (fun t p =>
      if nth entries p == 0 then t else Tab.put (r * 1024 + p) (nth entries p) t) kept
    .ok { d with ctl := { d.ctl with pages := pages } }

/-- A write of TableLength (R269, R272). -/
def Dev.writeTableLength (d : Dev) (host : Bool) (r v : Nat) : Written :=
  if host && !hostOwned r then .error commandRefused else .ok (d.setNat (Reg.tableLength r) v)

/-! ## Channels -/

def Dev.chan (d : Dev) (c : Nat) : DmaChannel := (d.ctl.dma[c]?).getD .reset
def Dev.setChan (d : Dev) (c : Nat) (v : DmaChannel) : Dev := { d with ctl := { d.ctl with dma := setNth d.ctl.dma c v } }
def Dev.chanState (d : Dev) (c : Nat) : Nat := d.nat (Reg.channelState c)
def Dev.setChanState (d : Dev) (c v : Nat) : Dev := d.setNat (Reg.channelState c) v

/-- DMA channel c belongs to requestor 1 + floor(c / 2) (R269). -/
def chanRequestor (c : Nat) : Nat := 1 + c / 2

/-- Element size in bytes (Table 10.3). -/
def DmaChannel.size (ch : DmaChannel) : Nat := 4 * 2 ^ field (ch.words.getD 3 0).toNat 0 1

def DmaChannel.bit (ch : DmaChannel) (n : Nat) : Bool := (ch.words.getD 3 0).toNat.testBit n
def DmaChannel.word (ch : DmaChannel) (n : Nat) : Nat := (ch.words.getD n 0).toNat

/-- A channel that the engine can run: Active or Pre-empted (R278). -/
def Dev.chanReady (d : Dev) (c : Nat) : Bool := d.chanState c == 2 || d.chanState c == 3

/-- `a` goes before `b`: higher priority, then the longer wait (R278). -/
def Dev.goesBefore (d : Dev) (a b : Nat) : Bool :=
  d.nat (Reg.channelPriority b) < d.nat (Reg.channelPriority a)
    || (d.nat (Reg.channelPriority a) == d.nat (Reg.channelPriority b) && (d.chan a).since ≤ (d.chan b).since)

/-- The ready channel that the engine picks (R278). -/
def Dev.bestReady (d : Dev) : Option Nat :=
  (List.range 16).foldl (fun best c =>
    if d.chanReady c then
      (match best with
       | some b => if d.goesBefore b c then some b else some c
       | none => some c)
    else best) none

/-- The engine takes the channel it picks; a pre-empted channel becomes Active. -/
def Dev.enginePick (d : Dev) : Dev :=
  match d.bestReady with
  | some c => { d.setChanState c 2 with ctl := { d.ctl with running := some c } }
  | none => { d with ctl := { d.ctl with running := none } }

/-- The engine runs a channel that is Active, else picks one. -/
def Dev.engineRun (d : Dev) : Dev :=
  match d.ctl.running with
  | some c => if d.chanState c == 2 then d else d.enginePick
  | none => d.enginePick

/-- A channel begins to wait for the engine. -/
def Dev.beginWait (d : Dev) (c : Nat) : Dev :=
  { (d.setChan c { d.chan c with since := d.ctl.clock }) with ctl :=
    { (d.setChan c { d.chan c with since := d.ctl.clock }).ctl with clock := d.ctl.clock + 1 } }

/-- DMA_PREEMPT (R278): at a boundary a ready channel of higher priority takes the engine. -/
def Dev.preempt (d : Dev) (c : Nat) : Dev :=
  match d.bestReady with
  | some b =>
    if b != c && d.nat (Reg.channelPriority c) < d.nat (Reg.channelPriority b) then
      (((d.setChanState c 3).bump (Reg.preemptions c)).beginWait c).enginePick
    else d
  | none => d

/-- The bank reads that the channel has open close (R265, R33). -/
def Dev.closeBankOf (d : Dev) (c : Nat) : Dev := d.closeReader (32 + c)

/-! ## Faults -/

/-- A fault stops a channel (R279, R280): both records, source 44, state 4, and the engine moves on. -/
def Dev.dmaFault (d : Dev) (c kind stage words : Nat) (uncertain : Bool) (vaddr left phys : Nat) : Dev :=
  let rec_ := d.recordBytes (chanRequestor c) (some c) kind stage words uncertain vaddr left
    (d.nat (Reg.currentDescriptor c)) phys
  let d := (d.closeBankOf c).setChanState c 4
  let d := (d.setChan c { d.chan c with faultStage := stage, fault := kind }).setNat (Reg.remaining c) left
  let d := (d.setBlob (Reg.faultRecord c).key rec_).requestorRecord (chanRequestor c) rec_
  (d.raise 44).enginePick

/-- The physical address of a virtual one for a record, 0 where it does not translate. -/
def Dev.physOf (d : Dev) (r v : Nat) (write : Bool) : Nat :=
  match d.translate r v write with
  | .ok p => p
  | .error (_, p) => p

/-! ## Descriptors -/

/-- The descriptor is invalid (R275). -/
def descriptorInvalid (w0 w1 w2 w3 w4 : Nat) : Bool :=
  let size := 4 * 2 ^ field w3 0 1
  w2 == 0 || 1048576 < w2 || w0 % size != 0 || w1 % size != 0 || w3.testBit 7 || field w3 15 31 != 0
    || (w3.testBit 4 && w4 % 32 != 0)

/-- The words that DMA channel c reads from a physical address on. -/
def State.readWords (s : State) (c a : Nat) : Nat → List Nat × State
  | 0 => ([], s)
  | n + 1 =>
    let (v, s) := s.physRead (32 + c) a
    let (t, s) := s.readWords c (a + 4) n
    (v :: t, s)

def State.writeWords (s : State) (a : Nat) : List Nat → State
  | [] => s
  | v :: t => (s.physWrite a v).writeWords (a + 4) t

/-- The channel the engine runs is `c`, Active, in this stage. -/
def Dev.runsStage (d : Dev) (c : Nat) (fetch writeBack : Bool) : Bool :=
  d.cpuLive && c < 16 && d.ctl.running == some c && d.chanState c == 2 && (d.chan c).fetch == fetch
    && (d.chan c).writeBack == writeBack

/-- The fetched descriptor comes into force (R276 stages 1 and 2): with bit [6] the channel waits for its trigger. -/
def Dev.takeDescriptor (d : Dev) (c : Nat) (ws : List Nat) : Dev :=
  let ch : DmaChannel := { d.chan c with
    words := ws.map (BitVec.ofNat 32), src := nth ws 0, dst := nth ws 1, fetch := false, writeBack := false }
  let d := (d.setChan c ch).setNat (Reg.remaining c) (nth ws 2)
  if ch.bit 6 then (d.setChanState c 1).enginePick else d

/-- DESCRIPTOR_FETCH (R274 to R276). -/
def State.descriptorFetch (s : State) (c : Nat) : State :=
  let s := s.onDev (·.engineRun)
  if s.dev.runsStage c true false then
    let v := s.dev.nat (Reg.currentDescriptor c)
    match s.dev.translateSpan (chanRequestor c) v 5 false with
    | .error (k, phys) => s.onDev (·.dmaFault c k 0 0 false v 0 (if k == 1 then 0 else phys))
    | .ok phys =>
      let (ws, s) := s.readWords c phys 5
      if descriptorInvalid (nth ws 0) (nth ws 1) (nth ws 2) (nth ws 3) (nth ws 4) then
        s.onDev (·.dmaFault c 5 0 0 false v 0 0)
      else s.onDev (·.takeDescriptor c ws)
  else s

def execDescriptorFetch (c : Nat) (s : State) : Res := .next (s.together (s.descriptorFetch c))

/-- Element e is complete (R276): the addresses advance, Remaining falls, and a boundary lets a higher priority in. -/
def Dev.elementDone (d : Dev) (c : Nat) : Dev :=
  let ch := d.chan c
  let left := d.nat (Reg.remaining c) - 1
  let d := (d.setChan c { ch with
    src := if ch.bit 2 then (ch.src + ch.size) % 2 ^ 32 else ch.src,
    dst := if ch.bit 3 then (ch.dst + ch.size) % 2 ^ 32 else ch.dst,
    writeBack := left == 0 }).setNat (Reg.remaining c) left
  if (ch.word 2 - left) * ch.size % 32 == 0 then d.preempt c else d

/-- DMA_ELEMENT (R276): both translations, of every word of the element, the whole element read, then written in ascending word
order. -/
def State.dmaElement (s : State) (c : Nat) : State :=
  let s := s.onDev (·.engineRun)
  if s.dev.runsStage c false false && s.dev.on (Reg.remaining c) then
    let ch := s.dev.chan c
    let r := chanRequestor c
    let left := s.dev.nat (Reg.remaining c)
    let n := ch.size / 4
    match s.dev.translateSpan r ch.src n false, s.dev.translateSpan r ch.dst n true with
    | .error (k, phys), _ => s.onDev (·.dmaFault c k 1 0 false ch.src left (if k == 1 then 0 else phys))
    | _, .error (k, phys) => s.onDev (·.dmaFault c k 2 0 false ch.dst left (if k == 1 then 0 else phys))
    | .ok from_, .ok to_ =>
      let (ws, s) := s.readWords c from_ n
      (s.writeWords to_ ws).onDev (·.elementDone c)
  else s

def execDmaElement (c : Nat) (s : State) : Res := .next (s.together (s.dmaElement c))

/-- The channel's descriptor ends in a chain (R278): a higher priority pre-empts it, and else the engine picks again, this
channel waiting from now. -/
def Dev.pickAfter (d : Dev) (c : Nat) : Dev :=
  let d := d.preempt c
  if d.ctl.running == some c then (d.beginWait c).enginePick else d

/-- After the write-back: the completion source, the chain's next descriptor or Idle (R276, R278). -/
def Dev.descriptorDone (d : Dev) (c : Nat) : Dev :=
  let ch := d.chan c
  let d := (d.setChan c { ch with writeBack := false, fetch := ch.bit 4, fault := 0 }).bump (Reg.descriptorsDone c)
  let d := if ch.bit 4 then d.setNat (Reg.currentDescriptor c) (ch.word 4) else d.setChanState c 0
  let d := d.raiseIf (ch.bit 5) (48 + c)
  if ch.bit 4 then d.pickAfter c else d.enginePick

/-- Word 5 of a descriptor that is done (R276): faulted and the kind where a fault halted it before a resume (DEDUCED,
assumption 164). -/
def DmaChannel.status (ch : DmaChannel) : Nat := 1 + (if ch.fault == 0 then 0 else 2) + 4 * ch.fault

/-- DMA_WRITE_BACK (R276 stage 4). -/
def State.dmaWriteBack (s : State) (c : Nat) : State :=
  let s := s.onDev (·.engineRun)
  if s.dev.runsStage c false true then
    let v := (s.dev.nat (Reg.currentDescriptor c) + 20) % 2 ^ 32
    match s.dev.translate (chanRequestor c) v true with
    | .error (k, phys) => s.onDev (·.dmaFault c k 3 0 false v 0 (if k == 1 then 0 else phys))
    | .ok phys => (s.physWrite phys (s.dev.chan c).status).onDev (·.descriptorDone c)
  else s

def execDmaWriteBack (c : Nat) (s : State) : Res := .next (s.together (s.dmaWriteBack c))

/-- The address a fault of a stage names (Table 10.5): the word's. -/
def Dev.faultAddress (d : Dev) (c stage words : Nat) : Nat :=
  (if stage == 0 then d.nat (Reg.currentDescriptor c) + 4 * words else if stage == 1 then (d.chan c).src + 4 * words
   else if stage == 2 then (d.chan c).dst + 4 * words else d.nat (Reg.currentDescriptor c) + 20) % 2 ^ 32

/-- The stage an external fault can meet: the one the channel is in, source and destination of the element alike. -/
def Dev.stageNow (d : Dev) (c stage : Nat) : Bool :=
  if (d.chan c).fetch then stage == 0 else if (d.chan c).writeBack then stage == 3 else stage == 1 || stage == 2

/-- The words of a faulted element that reach the destination (Table 10.4): words 0 to w − 1, and word w or not (R25). -/
def State.partialElement (s : State) (c words : Nat) : State :=
  let ch := s.dev.chan c
  let n := ch.size / 4
  match s.dev.translateSpan (chanRequestor c) ch.src n false, s.dev.translateSpan (chanRequestor c) ch.dst n true with
  | .ok from_, .ok to_ =>
    let (ws, s) := s.readWords c from_ n
    let took := Config.freeBool s.dev.free
    (s.writeWords to_ (ws.take (words + (if took then 1 else 0)))).onDev (fun d => { d with free := d.free + 1 })
  | _, _ => s

/-- A stage that meets a miss, a violation or an invalid descriptor of its own (R270, R275). -/
def State.stageFaults (s : State) (c stage : Nat) : State :=
  let t := if stage == 0 then s.descriptorFetch c else if stage == 3 then s.dmaWriteBack c else s.dmaElement c
  if t.dev.chanState c == 4 then t else s

/-- DMA_FAULT (R279): a fault that the channel meets at a stage; an ECC error or a timeout, kinds 3 and 4, comes from outside
and names the word; the other kinds are those of the tables and the descriptor as they stand. -/
def State.externalFault (s : State) (c kind stage words : Nat) : State :=
  let s := s.onDev (·.engineRun)
  let d := s.dev
  if d.cpuLive && c < 16 && d.ctl.running == some c && d.chanState c == 2 && d.stageNow c stage
      && 1 ≤ kind && kind ≤ 5 && words < 8 then
    if kind != 3 && kind != 4 then s.stageFaults c stage
    else let left := if stage == 0 || stage == 3 then 0 else d.nat (Reg.remaining c)
    let v := d.faultAddress c stage words
    let write := stage == 2 || stage == 3
    let s := if stage == 2 && kind == 4 then s.partialElement c words else s
    s.onDev (·.dmaFault c kind stage (if stage == 2 then words else 0) (kind == 4 && write) v left
      (d.physOf (chanRequestor c) v write))
  else s

def execDmaFault (c kind stage words : Nat) (s : State) : Res := .next (s.together (s.externalFault c kind stage words))

/-- A double ECC error on a word that a DMA requestor reads (R273, R279): the channel that the engine runs through its table
faults with kind 3 in the stage it is in, at the address of the word. A write-back reads nothing. -/
def Dev.dmaReadError (d : Dev) (requestor addr : Nat) : Dev :=
  let d := d.engineRun
  match d.ctl.running with
  | some c =>
    let ch := d.chan c
    if chanRequestor c == requestor && d.chanState c == 2 && !ch.writeBack then
      d.dmaFault c 3 (if ch.fetch then 0 else 1) 0 false addr (if ch.fetch then 0 else d.nat (Reg.remaining c))
        (d.physOf requestor addr false)
    else d
  | none => d

/-- DMA_TRIGGER (R277): a source rises, and the channels that wait for it become ready. A flag already set, or a reserved
source, does not rise. -/
def execDmaTrigger (source : Nat) (s : State) : Res :=
  .next (s.together (s.onDev (fun d =>
    if d.cpuLive && source < 128 && !d.on (Reg.eventFlag source) then (d.raise source).engineRun else d)))

/-! ## Channel commands (Table 10.6) -/

/-- Command 1: the first descriptor is to be fetched. -/
def Dev.chanStart (d : Dev) (c : Nat) : Dev :=
  let d := (d.setNat (Reg.currentDescriptor c) (d.nat (Reg.firstDescriptor c))).setChan c
    { d.chan c with fetch := true, writeBack := false, fault := 0 }
  ((d.setChanState c 2).beginWait c).engineRun

/-- Command 2: halted by command, the context kept. -/
def Dev.chanHalt (d : Dev) (c : Nat) : Dev :=
  let held := if d.chanState c == 1 then 1 else 2
  (((d.closeBankOf c).setChan c { d.chan c with held := held }).setChanState c 5).engineRun

/-- Command 3: the faulted stage again from its start, or the state before the halt. -/
def Dev.chanResume (d : Dev) (c : Nat) : Dev :=
  let ch := d.chan c
  if d.chanState c == 4 then
    let d := d.setChan c { ch with fetch := ch.faultStage == 0, writeBack := ch.faultStage == 3 }
    ((d.setChanState c 2).beginWait c).engineRun
  else if ch.held == 1 then d.setChanState c 1
  else ((d.setChanState c 2).beginWait c).engineRun

/-- Command 4: Idle without a write-back; Remaining keeps its value. -/
def Dev.chanAbort (d : Dev) (c : Nat) : Dev := ((d.closeBankOf c).setChanState c 0).engineRun

/-- The command is listed for the channel's state (Table 10.6). -/
def commandListed (state v : Nat) : Bool :=
  if v == 1 then state == 0 else if v == 2 then state == 1 || state == 2 || state == 3
  else if v == 3 then state == 4 || state == 5 else v == 4 && state != 0

/-- A write of ChannelCommand (R282). Channels 0 to 7 are the firmware's, which commands them as the host does its own
(DESIGN CHOICE, assumption 163). -/
def Dev.writeChannelCommand (d : Dev) (host : Bool) (c v : Nat) : Written :=
  if host && c < 8 || !commandListed (d.chanState c) v then .error commandRefused
  else .ok (if v == 1 then d.chanStart c else if v == 2 then d.chanHalt c else if v == 3 then d.chanResume c else d.chanAbort c)

/-- A write of FirstDescriptor: the host's for channels 0 to 7 is refused, and any while the channel is not Idle (R282, Table
10.10). -/
def Dev.writeFirstDescriptor (d : Dev) (host : Bool) (c v : Nat) : Written :=
  if host && c < 8 || d.chanState c != 0 then .error commandRefused else .ok (d.setNat (Reg.firstDescriptor c) v)

def Dev.writeChannelPriority (d : Dev) (host : Bool) (c v : Nat) : Written :=
  if host && c < 8 then .error commandRefused else .ok (d.setNat (Reg.channelPriority c) v)

/-- Step 4 of sleep entry: host channels in work are halted by command (R282). -/
def Dev.haltHostChannels (d : Dev) : Dev :=
  [8, 9, 10, 11, 12, 13, 14, 15].foldl (fun d c =>
    if d.chanState c == 1 || d.chanState c == 2 || d.chanState c == 3 then d.chanHalt c else d) d

/-! ## The row ring (R268) -/

/-- The three words of a window, bits [95:64] first. -/
def windowWords (v : Nat) : List Nat := [v / 2 ^ 64 % 2 ^ 32, v / 2 ^ 32 % 2 ^ 32, v % 2 ^ 32]

/-- The 377 words of an entry: the windows of the field by number, 0 for one that R198 does not pass. -/
def ringEntry (row : Nat) (windows : List (Nat × Nat)) : List Nat :=
  let field := (List.range 125).flatMap (fun w =>
    windowWords (match windows.find? (fun e => e.1 == w) with | some e => e.2 | none => 0))
  [row] ++ field ++ [row]

/-- The link receiver completes entry e. -/
def Dev.ringEntered (d : Dev) (e : Nat) : Dev := (d.setNat Reg.rowRingHead e).bump Reg.rowRingWritten

/-- The words of entry e from the ring's byte `at_` on, each through the table of requestor 9 (R269, R270): a word that faults has
its record, and the entry does not complete. The virtual address of the ring is the firmware's (assumption 163). -/
def State.ringThrough (s : State) (e at_ : Nat) : List Nat → State
  | [] => s.onDev (·.ringEntered e)
  | w :: rest =>
    let v := Config.ringPage.toNat * 4096 + at_
    match s.dev.translate 9 v true with
    | .error (k, phys) => s.onDev (·.translationFault 9 v true k phys)
    | .ok phys => (s.physWrite phys w).ringThrough e (at_ + 4) rest

/-- The link receiver writes an accepted row into the next entry: through its table, or with none written at the addresses that
R268 fixes. -/
def State.ringWrite (s : State) (row : Nat) (windows : List (Nat × Nat)) : State :=
  let h := s.dev.nat Reg.rowRingHead
  let e := if h == 0xFF then 0 else (h + 1) % 64
  let words := ringEntry row windows
  if s.dev.on (Reg.tableLength 9) then s.ringThrough e (e * 1508) words
  else { s with
    mem := memWriteBytes s.mem (0x10080000 + e * 1508) (words.flatMap (leBytes 4)), dev := s.dev.ringEntered e }

/-! ## Event controller -/

/-- A raise of a source (R283). The commands of each chapter raise their own sources; this is the raise of a source as such. -/
def execEventRaise (e : Nat) (s : State) : Res := .next (s.together (s.onDev (·.raise e)))

/-- Writing 1 to EventFlag clears it; writing 0 has no effect, nor has a write to a reserved source (R283, R285). -/
def Dev.clearFlag (d : Dev) (e v : Nat) : Dev := if v == 1 && !reservedSource e then d.set (Reg.eventFlag e) 0 else d

/-- A write of EventEnable, EventPriority or EventRouting: refused for reserved sources (R285). -/
def Dev.writeEventSetting (d : Dev) (e : Nat) (r : Reg) (v : Nat) : Written :=
  if reservedSource e then .error outOfRange else .ok (d.setNat r v)

/-- EventPending of a group of 32 sources (Table 10.8). -/
def Dev.pendingWord (d : Dev) (g : Nat) : Nat :=
  maskOf ((List.range 32).filter (fun b => d.on (Reg.eventFlag (32 * g + b))))

end Sys2Proof.Machine
end

