-- ==== Sys2Proof/Machine/Outputs.lean ====
section
/-! DEFINITION. What happens at each tick and each 16 kS/s output (R37, R38, R88 to R99): the taps, and every consumer of them
in order; the channels that a change of CellCount or CurrentEnable brings into use. -/

namespace Sys2Proof.Machine

/-! ## The output -/

/-- The output after the tick by the device's own clock, on a member whose row marks are lost (R38). -/
def Dev.ownClock (d : Dev) : Bool := !d.monHead && d.samp.untimed

/-- The consumers of the wide tap (Table 4.2, R112, R122, R124, R154, R159). -/
def Dev.wideConsumers (d : Dev) (mirrorUa : List Int) : Dev :=
  ((((d.compareSlots).noteWire).noteGauge mirrorUa).superviseGroups).correlate

/-- The consumers of the narrow tap (Table 4.2, R94, R96, R98). -/
def Dev.narrowConsumers (d : Dev) (atTick : Bool) : Dev :=
  let d := d.bufferWrite atTick
  let d := if atTick && d.samp.tickRow % 8 == 0 then d.bumpBy Reg.overRangeCount (countBits d.samp.clipped) else d
  if atTick && d.samp.tickRow % rowDivisor (d.nat Reg.streamRateInForce) == 0 then d.liveObjects.storeSet d.samp.tickRow
  else d

/-- An output of the 26 channels goes to both taps and all their consumers (R89, R90, R95, R96, R98, R149, R164). -/
def Dev.takeOutput (d : Dev) (raw mirrorUa vdsUv : List Int) : Dev :=
  let atTick := d.samp.tickPending
  let d := (((d.noteOutput raw mirrorUa).holdMean).formTaps raw).measureSwitches mirrorUa vdsUv
  let d := d.integrateOutput atTick (d.stepOf d.samp.wide mirrorUa d.samp.wideClipped)
  (d.wideConsumers mirrorUa).narrowConsumers atTick

/-- The output of an own-clock tick is delivered: no received tick has come within 62.5 µs (R38). -/
def Dev.deliverOwn (d : Dev) : Dev :=
  match d.samp.ownTick with
  | some o =>
    ({ d with samp := { d.samp with ownTick := none, tickPending := true } } : Dev).takeOutput o.raw o.mirror o.vds
  | none => d

/-- One 16 kS/s output. The one at an own-clock tick waits for half a period, in which a received tick withdraws it: no
consumer sees it before (R38; DESIGN CHOICE, assumption 150). -/
def Dev.decimatorOutput (d : Dev) (raw mirrorUa vdsUv : List Int) : Dev :=
  if !d.monLive then d
  else
    let d := d.deliverOwn
    if d.samp.tickPending && d.ownClock then
      { d with samp := { d.samp with tickPending := false, ownTick := some ⟨raw, mirrorUa, vdsUv⟩ } }
    else d.takeOutput raw mirrorUa vdsUv

/-! ## The tick -/

/-- The tick of a row: the output at the tick follows, a TickAlign that names the row takes effect (R204), a wire-gauge step
may begin (R154). -/
def Dev.tickAt (d : Dev) (row : Nat) : Dev :=
  ((({ d with samp := { d.samp with tickRow := row, tickPending := true, markNew := false } } : Dev).alignAtTick
    row).gaugeTick).refreshTimed

/-- The row of a tick (R37, R38): the head's own row, the row of the mark just accepted, or the row before it plus 1. -/
def Dev.nextTickRow (d : Dev) : Nat :=
  if d.monHead || (!d.samp.untimed && d.samp.markNew) then d.row else (d.samp.tickRow + 1) % 2 ^ 32

/-- SAMPLE_TICK (R37, R38). -/
def Dev.sampleTick (d : Dev) : Dev := if d.monLive then d.deliverOwn.tickAt d.nextTickRow else d

def execSampleTick (s : State) : Res := .next (s.onDev (·.sampleTick))

/-- A member has seen no row mark for 8 row periods (R38): MON has no reference (R24). -/
def Dev.tickLost (d : Dev) : Dev :=
  if d.monLive && !d.monHead then
    (({ d with samp := { d.samp with untimed := true }, pwr := { d.pwr with markCycles := 0 } }.setBit Reg.linkStatus 0
      false).refreshTimed).raise 12
  else d

def execTickLost (s : State) : Res := .next (s.together (s.onDev (·.tickLost)))

/-- The first accepted tick after the row marks return (R38): the grid moves in one step, the sample at that tick carries the
received row number and every channel starts settling. An own-clock tick less than 62.5 µs before delivers no sample. -/
def Dev.tickReturn (d : Dev) (row : Nat) (withinHalf : Bool) : Dev :=
  if d.monLive && !d.monHead && d.samp.untimed then
    let d := if withinHalf then { d with samp := { d.samp with ownTick := none } } else d.deliverOwn
    let d := (({ d with samp := { d.samp with untimed := false } } : Dev).setBit Reg.linkStatus 0 true).tickAt (row % 2 ^ 32)
    d.startSettling d.usedChannels true
  else d

def execTickReturn (row : Nat) (withinHalf : Bool) (s : State) : Res :=
  .next (s.together (s.onDev (·.tickReturn row withinHalf)))

/-! ## Channels brought into use and taken out -/

/-- ChannelCount of the head's own mirror follows its channels (R235). -/
def Dev.refreshOwnCount (d : Dev) : Dev :=
  if d.on (Reg.mirrorState 1) then d.setNat (Reg.channelCount 1) d.channelList.length else d

/-- CellCount or CurrentEnable comes into force (R88, R189): channels brought into use settle, channels taken out read 0;
switches and comparators above the new CellCount open and never trip (R118, Table 6.1). CurrentStatus [4] follows the balls alone
(R126). -/
def Dev.channelsInForce (d : Dev) : Dev :=
  let before := d.usedChannels
  let n := d.nat Reg.cellCount
  let d := if n != d.samp.cells then d.abandonRun 6 else d
  let d := { d with
    samp := { d.samp with cells := n, cs1 := d.on (Reg.currentEnable 1), cs2 := d.on (Reg.currentEnable 2) },
    sup := { d.sup with
      ovTripped := d.sup.ovTripped % 2 ^ n, uvTripped := d.sup.uvTripped % 2 ^ n,
      ovRaw := d.sup.ovRaw % 2 ^ n, uvRaw := d.sup.uvRaw % 2 ^ n } }
  let d := (List.range 24).foldl (fun d c =>
    if c < n then d.setBit (Reg.cellStatus (c + 1)) 3 false
    else (((d.set (Reg.cellStatus (c + 1)) 8).set (Reg.cellVoltage (c + 1)) 0).set
      (Reg.cellVoltageUncorrected (c + 1)) 0).setBit Reg.channelSettling c false) d
  let d := [1, 2].foldl (fun d x =>
    if d.currentOn x then d.setBit (Reg.currentStatus x) 3 false
    else (((d.setNat (Reg.currentStatus x) (8 + (d.nat (Reg.currentStatus x) &&& 0x10))).set (Reg.currentSample x) 0).set
        (Reg.current x) 0).setBit
      Reg.channelSettling (23 + x) false) d
  ((((d.startSettling (clearBits d.usedChannels before) true).refreshSource).setNat Reg.balRequest
    (d.nat Reg.balRequest % 2 ^ n)).refreshOpen).refreshOwnCount

/-- The instant at which a changed channel set applies: the next 1 kS/s boundary, or on a member that holds windows a
multiple-of-64 row (R88, R189). -/
def Dev.channelApply (d : Dev) : Dev :=
  let step := if !d.monHead && field (d.nat Reg.windowAssignment) 0 6 != 0x7F then 64 else 8
  let changed := d.nat Reg.cellCount != d.samp.cells || d.on (Reg.currentEnable 1) != d.samp.cs1
    || d.on (Reg.currentEnable 2) != d.samp.cs2
  if d.monLive && changed && d.samp.tickRow % step == 0 then d.channelsInForce else d

def execChannelSetApply (s : State) : Res := .next (s.onDev (·.channelApply))

end Sys2Proof.Machine
end

