-- ==== Sys2Proof/Machine/Link.lean ====
section
/-! DEFINITION. The Dwemar link (chapter 7): port states, row marks on a member, stitches, float framing, delays and tick
alignment. The head's rows stand in Chain.lean. -/

namespace Sys2Proof.Machine

/-! ## Port states (Table 7.2) -/

/-- A port leaves Up: its marks clear (R182, R213). -/
def Dev.leaveUp (d : Dev) (p : Port) : Dev :=
  d.setPortLink p { d.portLink p with deadEnd := false, leftOut := false, misses := 0 }

/-- Training ends (R176, R177, R174): to Up with its forwarding delays to ports A, B and C, or to Lost. A member takes the
rate its up port detects. -/
def Dev.trainingDone (d : Dev) (p : Port) (ok rate25 : Bool) (forwardPs : List Nat) : Dev :=
  if d.nat (Reg.portState p.num) == 2 then
    if ok then
      let d := d.set (Reg.portState p.num) 3
      let d := d.setPortLink p { d.portLink p with rate25 := rate25, misses := 0, forward := forwardPs }
      if !d.monHead && (d.nat Reg.upPort == p.num || d.nat Reg.upPort == 0xFF) then d.setBool Reg.linkRateInForce rate25
      else d
    else (d.set (Reg.portState p.num) 4).bump (Reg.lossOfSignal p.num)
  else d

/-- No transition for 100 cells in Up: to Lost (R176). -/
def Dev.signalLoss (d : Dev) (p : Port) : Dev :=
  if d.nat (Reg.portState p.num) == 3 then
    ((d.leaveUp p).set (Reg.portState p.num) 4).bump (Reg.lossOfSignal p.num)
  else d

/-- Transitions present for 10 µs in Lost: to Training (R176). -/
def Dev.signalReturn (d : Dev) (p : Port) : Dev :=
  if d.nat (Reg.portState p.num) == 4 then d.set (Reg.portState p.num) 2 else d

def execPortSignalReturn (p : Port) (s : State) : Res := .next (s.onDev (·.signalReturn p))

/-- The counters of a port (Table 7.9). -/
def portCounters (p : Nat) : List Reg :=
  [Reg.edgeErrors p, Reg.rowPeriodErrors p, Reg.headerErrors p, Reg.crcErrors p, Reg.spoiledReceived p, Reg.alarmStruck p,
   Reg.alarmsReceived p, Reg.alarmsSent p, Reg.lossOfSignal p, Reg.rowsReceived p, Reg.missingStitches p, Reg.windowErrors p]

/-- StatsClear (R209). -/
def Dev.clearStats (d : Dev) (p : Nat) : Dev := (portCounters p).foldl (fun d r => d.set r 0) d

/-! ## Service slots (R195) -/

/-- The 96 bits of a service slot. -/
def slotBits (code target arg : Nat) : Nat :=
  let body := target % 4096 * 2 ^ 65 + code % 16 * 2 ^ 61 + arg % 2 ^ 60 * 2
  7 * 2 ^ 93 + body * 2 ^ 16 + crc16Bits (bitsOf 77 body)

/-- The bits of a slot as received: one whose CRC failed goes on with a CRC that fails. -/
def receivedSlot (s : ServiceSlot) : Nat :=
  if s.crcOk then slotBits s.code s.target s.arg else slotBits s.code s.target s.arg ^^^ 1

/-- The place of the slot of role s in a row: all four at 100 Mbit/s, one in turn at 25 Mbit/s (R195). -/
def Dev.slotIndex (d : Dev) (row s : Nat) : Option Nat :=
  if d.on Reg.linkRateInForce then (if row % 4 == s then some 0 else none) else some s

/-- The slot of role s among the slots received with a row; an unused one where the row has none. -/
def Dev.rxSlot (d : Dev) (row : Nat) (slots : List ServiceSlot) (s : Nat) : ServiceSlot :=
  match d.slotIndex row s with
  | some i => slots.getD i ⟨0, 0, 0, true⟩
  | none => ⟨0, 0, 0, true⟩

/-- The slot of role s of the row that leaves takes new bits, where the row has that slot. -/
def Dev.putSlot (d : Dev) (s v : Nat) : Dev :=
  match d.slotIndex d.link.sentRow s with
  | some i => { d with link := { d.link with slots := d.link.slots.set i v } }
  | none => d

/-- The code in the slot of role s of the row that leaves, 0 where the row has none. -/
def Dev.slotCode (d : Dev) (s : Nat) : Nat :=
  match d.slotIndex d.link.sentRow s with
  | some i => field (nth d.link.slots i) 77 80
  | none => 0

/-! ## Walk on a member (R181, R212, R213) -/

/-- A member sends rows down this port: Up, no dead end, not barred, not its up port. -/
def Dev.downPartner (d : Dev) (p : Port) : Bool :=
  d.nat (Reg.portState p.num) == 3 && !(d.portLink p).deadEnd && !(d.portLink p).barred && d.nat Reg.upPort != p.num

/-- The ports of a member's walk in order: C, then the A/B down port (R181). DESIGN CHOICE (assumption 149): a member whose up
port is C walks a partner on A, then one on B. -/
def Dev.downPorts (d : Dev) : List Port := [Port.c, .a, .b].filter (fun p => d.downPartner p)

/-- The port a row leaves by when it enters on the up port; the up port where the member turns it. -/
def Dev.firstDown (d : Dev) : Nat :=
  match d.downPorts with
  | p :: _ => p.num
  | [] => d.nat Reg.upPort

/-- The element after `p` in a list of ports; `last` where there is none. -/
def portAfter (p last : Nat) (ports : List Nat) : Nat :=
  match ports.dropWhile (fun q => q != p) with
  | _ :: q :: _ => q
  | _ => last

/-- The port a row leaves by when it has returned on a down port: the ports are those of the row's arrival (R213). -/
def Dev.nextDown (d : Dev) (p : Nat) : Nat := portAfter p (d.nat Reg.upPort) d.link.downs

/-- The forwarding delay from the receive of port p to port q (R177). -/
def Dev.forwardPs (d : Dev) (p q : Nat) : Nat :=
  match allPorts.find? (fun x => x.num == p) with
  | some x => nth (d.portLink x).forward q
  | none => 0

/-- ForwardDelay of each port in Up follows the port by which the walk next leaves (R177, Table 7.9). -/
def Dev.refreshForwardBy (d : Dev) (next : Nat → Nat) : Dev :=
  [0, 1, 2].foldl (fun d p =>
    if d.nat (Reg.portState p) == 3 then d.setNat (Reg.forwardDelay p) (d.forwardPs p (next p)) else d) d

/-- On a member the walk leaves the up port by the first down port, and a down port by the next one. -/
def Dev.memberForward (d : Dev) : Dev :=
  let up := d.nat Reg.upPort
  let downs := d.downPorts.map Port.num
  d.refreshForwardBy (fun p => if p == up then d.firstDown else portAfter p up downs)

/-- A change of flag [10] clears every dead-end mark (R213). -/
def Dev.takeFlags (d : Dev) (flags : Nat) : Dev :=
  let changed := d.link.flags.testBit 10 != flags.testBit 10
  let d := if changed then allPorts.foldl (fun d p => d.leaveUp p) d else d
  { d with link := { d.link with flags := flags } }

/-- The up port that a row mark decides, with the rate detected on it (R174, R212). -/
def Dev.adoptUp (d : Dev) (p : Port) : Dev :=
  (d.setNat Reg.upPort p.num).setBool Reg.linkRateInForce (d.portLink p).rate25

/-- Code 0xB on a port other than the up port (R229): it becomes the up port; the former one is the A/B down port if it is
Up, else barred; D is discarded. -/
def Dev.takeRingBreak (d : Dev) (p : Port) : Dev :=
  let old := d.nat Reg.upPort
  let d := allPorts.foldl (fun d q =>
    if q.num == old && d.nat (Reg.portState old) != 3 then d.setPortLink q { d.portLink q with barred := true } else d) d
  let d := (d.adoptUp p).set Reg.cumulativeDelay 0
  ({ d with link := { d.link with
    held := none, due := none, candidates := [], measured := false, probing := false, report := none } }.setBit
    Reg.linkStatus 3 false).refreshTimed

/-- The D that a member holds: the one in use, else the first result that waits for its tick (R206). -/
def Dev.ownD (d : Dev) : Option Nat := match d.link.held with | some v => some v | none => d.link.due

/-- The answer to a probe that came in on port q goes into slot 1 of the next row out of q that has that slot (R205). -/
def Dev.answerProbe (d : Dev) (q : Nat) : Dev :=
  match d.link.probed.find? (fun e => e.1 == q) with
  | some (_, turn) =>
    if (d.slotIndex d.link.sentRow 1).isSome then
      ({ d with link := { d.link with probed := d.link.probed.filter (fun e => e.1 != q) } } : Dev).putSlot 1
        (slotBits 2 0 (turn % 2 ^ 28))
    else d
  | none => d

/-- The slots that a member writes as the row leaves it (R195, R205). By the up port: its probe while it is probing. By a
down port: in slot 3 its D plus the time since the reference edge came in on its up port, unused while it holds no D
(DEDUCED, assumption 112); in slot 1 the answer to a probe from there. -/
def Dev.departSlots (d : Dev) (q sincePs : Nat) : Dev :=
  if q == d.nat Reg.upPort then (if d.link.probing then d.putSlot 1 (slotBits 1 0 0) else d)
  else if 3 ≤ q then d
  else
    (d.putSlot 3 (match d.ownD with | some v => slotBits 0xC 0 (v + sincePs) | none => slotBits 0 0 0)).answerProbe q

/-- A probe received in slot 1 of a row on the return direction is answered in a later row (R205). -/
def Dev.noteProbe (d : Dev) (p : Nat) (s : ServiceSlot) (turnaround : Nat) : Dev :=
  if s.crcOk && s.code == 1 then
    { d with link := { d.link with probed := d.link.probed.filter (fun e => e.1 != p) ++ [(p, turnaround)] } }
  else d

/-- Outside a pass an unaddressed member writes its presence into an unused slot 2 of every 64th row (R223). DESIGN CHOICE
(assumption 198): the 64th rows are those alone, so that at 25 Mbit/s, where a row carries slot 2 only when its number modulo 4
is 2, a member that counts from another row writes none. -/
def Dev.writePresence (d : Dev) : Dev :=
  if d.link.address == 0 && !d.link.flags.testBit 8 && (d.row + 2 ^ 32 - d.link.firstRow) % 2 ^ 32 % 64 == 0
      && d.slotCode 2 == 0 then
    d.putSlot 2 (slotBits 8 0 (d.nat Reg.upPort % 4 + Config.deviceSerial.toNat % 2 ^ 58 * 4))
  else d

/-- The row before has not come back on the down port it was sent out of (R213); on a ring none is expected on A or B. -/
def Dev.closeRow (d : Dev) : Dev :=
  let p := d.link.sentOut
  if p == d.nat Reg.upPort || (d.link.flags.testBit 10 && p != 2) then d
  else allPorts.foldl (fun d q =>
    if q.num == p then d.setPortLink q { d.portLink q with misses := (d.portLink q).misses + 1 } else d) d

/-- A row goes on from the up port by the walk of its arrival (R181, R213), its slots as received. -/
def Dev.passRow (d : Dev) (row : Nat) (slots : List ServiceSlot) : Dev :=
  { d with link := { d.link with
    sentOut := d.firstDown, sentRow := row % 2 ^ 32, downs := d.downPorts.map Port.num,
    outPs := d.forwardPs (d.nat Reg.upPort) d.firstDown,
    slots := slots.map receivedSlot } }

/-- An accepted row (R178, R199, R220): its number, its flags, the bind-off code of slot 0, where it goes next, and the slots
this device writes. A member without a line delay probes in every row. -/
def Dev.acceptRow (d : Dev) (p row flags : Nat) (headerOk : Bool) (slots : List ServiceSlot) : Dev :=
  let number := if headerOk then row % 2 ^ 32 else (d.row + 1) % 2 ^ 32
  let slot0 := d.rxSlot number slots 0
  let d := ((d.setNat Reg.rowNumber number).bump (Reg.rowsReceived p)).setBit Reg.linkStatus 0 true
  let d := if headerOk then d.takeFlags flags else d
  let bind := if slot0.crcOk && slot0.code == 0xA && slot0.target == 4095 then
    some (slot0.arg % 2 ^ 32, field slot0.arg 32 33) else d.link.bindOff
  let d := d.passRow number slots
  let d : Dev := { d with pwr := { d.pwr with markCycles := 2048 }, samp := { d.samp with markNew := true }, link := { d.link with
    rowTaken := true, missedRows := 0, bindOff := bind, probing := d.link.probing || !d.link.measured,
    firstRow := if d.link.rowsStarted then d.link.firstRow else number, rowsStarted := true } }
  (d.departSlots d.link.sentOut (d.forwardPs p d.link.sentOut)).writePresence

/-- The row out on a down port comes back on it (R181). -/
def Dev.comesBack (d : Dev) (p row : Nat) : Bool := d.link.sentOut == p && row == d.link.sentRow

/-- RING_BREAK_RECEIVED (R229, R213): the row that carries the code has flag [10] clear. Where it comes back on the down port
that this member has sent it out of, it is a return. -/
def Dev.ringBreakReceived (d : Dev) (p : Port) (row : Nat) : Dev :=
  if d.monLive && !d.monHead && d.nat (Reg.portState p.num) == 3 && d.nat Reg.upPort != p.num
      && !(d.portLink p).barred && !d.comesBack p.num (row % 2 ^ 32) then
    ((d.closeRow.takeRingBreak p).acceptRow p.num row (withBit d.link.flags 10 false) true
      [⟨4095, 0xB, row % 2 ^ 32, true⟩]).memberForward
  else d

def execRingBreakReceived (p : Port) (row : Nat) (s : State) : Res := .next (s.onDev (·.ringBreakReceived p row))

/-- The checks of Table 7.7 on a row mark and on the fields outside the windows. -/
def Dev.checkMark (d : Dev) (p : Nat) (headerOk periodOk : Bool) (edges : Nat) : Dev :=
  let d := (if periodOk then d else d.bump (Reg.rowPeriodErrors p)).bumpBy (Reg.edgeErrors p) edges
  if headerOk then d else d.bump (Reg.headerErrors p)

/-- A row mark on a member's up port: one that fails the period check is no tick and nothing is inserted; the row goes on
unchanged (R199). -/
def Dev.markOnUp (d : Dev) (p row flags : Nat) (headerOk periodOk : Bool) (slots : List ServiceSlot) : Dev :=
  if periodOk then d.closeRow.acceptRow p row flags headerOk slots
  else
    let d := d.closeRow.passRow row slots
    { d with link := { d.link with rowTaken := false, missedRows := d.link.missedRows + 1 } }

/-- The row returns on the down port it was sent out of and goes on (R181, R212); into a row that failed its period check
nothing is inserted (R199). A row that comes back later than 100 µs after it left has not returned (R213). -/
def Dev.returnOnDown (d : Dev) (p row : Nat) (timing : MarkTiming) (slots : List ServiceSlot) : Dev :=
  if d.link.outPs + 100000000 < timing.sincePs then d
  else
    let q := d.nextDown p
    let d := (d.bump (Reg.rowsReceived p)).noteProbe p (d.rxSlot row slots 1) timing.turnaround
    let d := allPorts.foldl (fun d x => if x.num == p then d.setPortLink x { d.portLink x with misses := 0 } else d) d
    let out := timing.sincePs + d.forwardPs p q
    let d : Dev := { d with link := { d.link with sentOut := q, outPs := out, slots := slots.map receivedSlot } }
    if d.link.rowTaken then d.departSlots q out else d

/-- ROW_MARK_RECEIVED (R199, R212): on the up port, on the port that becomes it, as a return on a down port, or ignored. -/
def Dev.rowMark (d : Dev) (p : Port) (row flags : Nat) (headerOk periodOk : Bool) (timing : MarkTiming)
    (slots : List ServiceSlot) : Dev :=
  if d.monHead || !d.monLive || d.nat (Reg.portState p.num) != 3 || (d.portLink p).barred then d
  else
    let d := d.checkMark p.num headerOk periodOk timing.edgeErrors
    let up := d.nat Reg.upPort
    let slot0 := d.rxSlot row slots 0
    if up == 0xFF then
      if headerOk && periodOk then (d.adoptUp p).markOnUp p.num row flags headerOk periodOk slots else d
    else if up == p.num then d.markOnUp p.num row flags headerOk periodOk slots
    else if headerOk && d.comesBack p.num row then d.returnOnDown p.num row timing slots
    else if headerOk && slot0.crcOk && slot0.code == 0xB && slot0.target == 4095 then
      (d.takeRingBreak p).markOnUp p.num row flags headerOk periodOk slots
    else d

def execRowMarkReceived (p : Port) (row flags : Nat) (headerOk periodOk : Bool) (timing : MarkTiming)
    (slots : List ServiceSlot) (s : State) : Res :=
  .next (s.onDev (fun d =>
    let d := d.rowMark p row flags headerOk periodOk timing slots
    if d.monHead || !d.monLive then d else d.memberForward))

/-- A member marks a down port dead-end (R213): the row out on it and the one before have not returned. In ring mode it
expects no return on its A/B down port. -/
def Dev.deadEndMark (d : Dev) (p : Port) : Dev :=
  if d.monLive && !d.monHead && d.downPartner p && !(d.link.flags.testBit 10 && p != .c) && d.link.sentOut == p.num
      && 1 ≤ (d.portLink p).misses then
    let d := d.setPortLink p { d.portLink p with deadEnd := true, misses := 0 }
    ({ d with link := { d.link with sentOut := 3 } } : Dev).memberForward
  else d

def execDeadEndMark (p : Port) (s : State) : Res := .next (s.onDev (·.deadEndMark p))

/-! ## Windows (R184 to R188) -/

/-- Devices per window of a share mode (R186). -/
def shareOf (mode : Nat) : Nat := if mode == 0 then 1 else if mode == 1 then 4 else 8

/-- (row − 1) mod m, in the 32-bit row arithmetic. -/
def rowPhase (row m : Nat) : Nat := (row + 2 ^ 32 - 1) % m

/-- An assignment owns window w in this row: `some false` as its first window, `some true` as its second (R186). -/
def ownsWindow (wa row w : Nat) : Option Bool :=
  let m := shareOf (windowShare wa)
  if field wa 0 6 == w && w != 0x7F && rowPhase row m == field wa 9 11 then some false
  else if field wa 12 18 == w && w != 0x7F && rowPhase row m == field wa 19 21 then some true
  else none

/-- The stitch of a row: j, the tick row of its sample set (R187). -/
def stitchPlace (row mode : Nat) : Nat × Nat :=
  let d := rowDivisor mode
  let q := rowPhase row d
  (q / (d / 8), (row + 2 ^ 32 - 1 - q) % 2 ^ 32)

/-- Three list positions of a stitch, 0 beyond the list (R187). -/
def slotValues (values : List Nat) (pos : Nat) : List Nat := [nth values pos, nth values (pos + 1), nth values (pos + 2)]

/-- The buffer that holds the set of a tick row; a device that has none sends no-sample codes (assumption 21). -/
def Dev.setOf (d : Dev) (row : Nat) : List Nat :=
  if d.link.buffer0.row == row && d.link.buffer0.inTransit then d.link.buffer0.values
  else if d.link.buffer1.row == row && d.link.buffer1.inTransit then d.link.buffer1.values
  else d.channelList.map (fun c => if c < 24 then 0 else 0x80000)

/-! ## The status nibble (R190) -/

/-- Any upstream frame not yet fully sent. -/
def Dev.floatQueued (d : Dev) : Bool :=
  !d.link.upBits.isEmpty || d.link.upResponse.isSome || d.link.upReport.isSome

def Dev.supervisionBit (d : Dev) : Bool :=
  (upTo 24).any (fun k => d.bit (Reg.cellStatus k) 4 || d.bit (Reg.cellStatus k) 7) || d.on Reg.checkSarStatus
    || d.bit (Reg.currentStatus 1) 4 || d.bit (Reg.currentStatus 2) 4
    || (upTo 8).any (fun n => d.bit (Reg.ainStatus n) 6 || d.bit (Reg.ainStatus n) 7)

def Dev.timingBit (d : Dev) : Bool := d.isUntimed || d.on Reg.channelSettling || d.bit Reg.linkStatus 2

def Dev.attentionBit (d : Dev) : Bool :=
  d.on Reg.monResetCause || d.on Reg.ovLatched || d.on Reg.uvLatched || d.on Reg.checkMismatchLatched
    || d.on Reg.openWireLatched || d.on Reg.balFaultLatched || field (d.nat Reg.counterStatus) 0 4 != 0
    || field (d.nat Reg.monSelfTestStatus) 0 1 != 0 || d.floatQueued

/-- Table 7.5. -/
def Dev.nibble (d : Dev) : Nat :=
  (if d.faultNow then 8 else 0) + (if d.supervisionBit then 4 else 0) + (if d.timingBit then 2 else 0)
    + (if d.attentionBit then 1 else 0)

/-! ## Float frames (R191, R192) -/

/-- A 0 after five 1s of content. -/
def stuffBits : Nat → List Bool → List Bool
  | _, [] => []
  | n, b :: t => if b && n == 4 then true :: false :: stuffBits 0 t else b :: stuffBits (if b then n + 1 else 0) t

def flagBits : List Bool := [false, true, true, true, true, true, true, false]

/-- The bits of a frame with its flags. -/
def frameBits (content : List Nat) : List Bool := flagBits ++ stuffBits 0 (content.flatMap bitsOfByte) ++ flagBits

/-- The content of a frame (Table 7.6): kind and sequence, length, payload, CRC-16 high byte first. -/
def frameContent (kind seq : Nat) (payload : List Nat) : List Nat :=
  let body := [kind * 16 + seq % 16, payload.length] ++ payload
  body ++ beBytes 2 (crc16 body)

/-- Kind, sequence number and payload of intact content (R191, R192); none where its CRC, kind or length fails. -/
def parseFrame (bytes : List Nat) : Option (Nat × Nat × List Nat) :=
  let n := bytes.length
  let kind := nth bytes 0 / 16
  if n < 4 || nth bytes 1 + 4 != n || 64 < nth bytes 1 || kind < 1 || 3 < kind then none
  else if crc16 (bytes.take (n - 2)) != nth bytes (n - 2) * 256 + nth bytes (n - 1) then none
  else some (kind, nth bytes 0 % 16, (bytes.drop 2).take (n - 4))

/-- Bits in groups of eight as bytes; none where they do not fill the last one. -/
def bytesOfBits : List Bool → Option (List Nat)
  | [] => some []
  | a :: b :: c :: e :: f :: g :: h :: i :: t =>
    (bytesOfBits t).map (fun l => [a, b, c, e, f, g, h, i].foldl (fun v x => 2 * v + (if x then 1 else 0)) 0 :: l)
  | _ => none

/-- What stands between two flags, oldest last: the frame's content, none inside where it fills no bytes. Nothing, or a run of
idle 1s, is not a frame (R191). -/
def betweenFlags (bits : List Bool) : Option (Option (List Nat)) :=
  if bits.length ≤ 5 && bits.all id then none else some (bytesOfBits bits.reverse)

/-- A receiver takes one float bit, none where it comes erased (R191). Where the bit ends a frame: its content, or none for a
frame discarded. The six newest bits before a flag's last 0 are the flag's own. -/
def FloatRx.take (x : FloatRx) : Option Bool → FloatRx × Option (Option (List Nat))
  | none => (⟨0, x.bits, true, x.flagged⟩, none)
  | some true =>
    if x.ones < 5 then ({ x with ones := x.ones + 1, bits := if x.flagged then true :: x.bits else [] }, none)
    else if x.ones == 5 then ({ x with ones := 6 }, none)
    else (⟨7, [], false, false⟩, if x.erased || 5 < x.bits.length then some none else none)
  | some false =>
    if x.ones == 5 then ({ x with ones := 0 }, none)
    else if x.ones == 6 then
      (⟨0, [], false, true⟩,
        if x.erased then some none
        else betweenFlags (x.bits.drop 6))
    else ({ x with ones := 0, bits := if x.flagged then false :: x.bits else [] }, none)

/-- LinkStatus bit [4] follows the float queue (Table 7.8). -/
def Dev.refreshFloat (d : Dev) : Dev := d.setBit Reg.linkStatus 4 d.floatQueued

/-- The next upstream float bit: the frame in transmission, else the response that waits, else the report, else idle
(R191, R193). -/
def Dev.nextFloatBit (d : Dev) : Bool × Dev :=
  let d : Dev := if d.link.upBits.isEmpty then
    (match d.link.upResponse with
     | some c => { d with link := { d.link with upBits := frameBits c, upResponse := none } }
     | none => match d.link.upReport with
       | some c => { d with link := { d.link with upBits := frameBits c, upReport := none } }
       | none => d) else d
  match d.link.upBits with
  | b :: t => (b, ({ d with link := { d.link with upBits := t } } : Dev).refreshFloat)
  | [] => (true, d)

/-! ## Stitches (R183) -/

/-- The 96 bits of a stitch. -/
def stitchBits (addr s0 s1 s2 nibble : Nat) (float : Bool) : Nat :=
  let body := addr % 4096 * 2 ^ 65 + s0 % 2 ^ 20 * 2 ^ 45 + s1 % 2 ^ 20 * 2 ^ 25 + s2 % 2 ^ 20 * 2 ^ 5 + nibble % 16 * 2
    + (if float then 1 else 0)
  5 * 2 ^ 93 + body * 2 ^ 16 + crc16Bits (bitsOf 77 body)

/-- The stitch that leaves is the last of its set (R188): j = 7 in the device's later window. -/
def lastOfSet (wa j : Nat) (second : Bool) : Bool :=
  j == 7 && (field wa 12 18 == 0x7F
    || second == (field wa 9 11 < field wa 19 21 || (field wa 9 11 == field wa 19 21 && field wa 0 6 < field wa 12 18)))

/-- Release the buffer of a tick row (R188). -/
def Dev.releaseSet (d : Dev) (row : Nat) : Dev :=
  if d.link.buffer0.row == row && d.link.buffer0.inTransit then
    { d with link := { d.link with buffer0 := { d.link.buffer0 with inTransit := false } } }
  else if d.link.buffer1.row == row && d.link.buffer1.inTransit then
    { d with link := { d.link with buffer1 := { d.link.buffer1 with inTransit := false } } }
  else d

/-- The member replaces its window with its stitch (R185, R187, R190). -/
def Dev.sendStitch (d : Dev) (second : Bool) : Dev :=
  let wa := d.nat Reg.windowAssignment
  let (j, setRow) := stitchPlace d.row (windowShare wa)
  let values := slotValues (d.setOf setRow) ((if second then 24 else 0) + 3 * j)
  let nib := d.nibble
  let (bit, d) := if second then (false, d) else d.nextFloatBit
  let d := d.setNat Reg.statusNibble nib
  let d : Dev := { d with link := { d.link with
    stitch := stitchBits d.link.address (nth values 0) (nth values 1) (nth values 2) nib bit } }
  if lastOfSet wa j second then d.releaseSet setRow else d

/-- A window is bad at this receiver (R197): its CRC, its lead or an edge within it. -/
def windowBad (w : RxWindow) : Bool := !w.crcOk || w.edgeErrors != 0 || (w.lead != 5 && w.lead != 0)

/-- A window's faults at a receiver (R197, R198, R202): each misplaced edge; and once: spoiled before, struck by an alarm
symbol, whose edges do not count, or first found bad here. -/
def Dev.countWindow (d : Dev) (p : Nat) (w : RxWindow) : Dev :=
  let d := if w.alarmStruck then d else d.bumpBy (Reg.edgeErrors p) w.edgeErrors
  if w.lead == 3 then d.bump (Reg.spoiledReceived p)
  else if w.alarmStruck then d.bump (Reg.alarmStruck p)
  else if windowBad w then d.bump (Reg.crcErrors p)
  else d

/-- The windows that an addressed member owns in the row passing it: `some false` the first, `some true` the second. -/
def Dev.insertsAt (d : Dev) (w : Nat) : Option Bool :=
  if d.monHead || !d.monLive || !d.link.rowTaken || d.link.address == 0 then none
  else ownsWindow (d.nat Reg.windowAssignment) d.row w

/-- STITCH_INSERT (R185): the window of an addressed member's own row. DESIGN CHOICE (assumption 196): one that carries another
address is forwarded unchanged, its lead too, also where an edge error or its CRC would have it spoiled (R197). -/
def Dev.stitchInsert (d : Dev) (w : RxWindow) : Dev :=
  let up := d.nat Reg.upPort
  match d.insertsAt w.index with
  | none => d
  | some second =>
    let d := d.countWindow up w
    if w.addr != d.link.address then d.bump (Reg.windowErrors up) else d.sendStitch second

/-- The downstream bit that a window gives a member's float receiver (R185, R202): none where it gives one no bit, `some none`
where the bit comes erased. That a window spoiled before erases its bit is DEDUCED (assumption 113). -/
def Dev.downBit (d : Dev) (w : RxWindow) : Option (Option Bool) :=
  match d.insertsAt w.index with
  | some false =>
    some (if w.addr != d.link.address || !w.crcOk || w.lead == 3 || w.alarmStruck then none else some w.floatBit)
  | _ => none

/-- WINDOW_FORWARD (R197): the count at the receiving port and the lead that leaves; spoiled on the insertion direction
only. -/
def Dev.windowForward (d : Dev) (p : Port) (w : RxWindow) : Dev :=
  if d.monHead || !d.monLive || d.nat (Reg.portState p.num) != 3 then d
  else
    let spoil := d.nat Reg.upPort == p.num && !w.alarmStruck && windowBad w
    (d.countWindow p.num w).setPortLink p { d.portLink p with lead := if spoil then 3 else w.lead }

def execWindowForward (p : Port) (w : RxWindow) (s : State) : Res := .next (s.onDev (·.windowForward p w))

/-! ## Reports (R193) -/

/-- The 27 bytes of a diagnostic report. -/
def Dev.report (d : Dev) : List Nat :=
  leBytes 4 (d.nat Reg.ovLatched) ++ leBytes 4 (d.nat Reg.uvLatched) ++ leBytes 4 (d.nat Reg.checkMismatchLatched)
    ++ leBytes 4 (d.nat Reg.openWireLatched) ++ leBytes 4 (d.nat Reg.balFaultLatched)
    ++ leBytes 4 (d.nat Reg.counterStatus)
    ++ [d.nat Reg.monResetCause % 256, d.nat Reg.checkSarStatus % 256, d.nat Reg.monSelfTestStatus % 256]

/-- A member queues a report: its content differs from the last one, or nibble bit [0] rises (R193). The report carries a
sequence number of the member's own. -/
def Dev.diagnosticReport (d : Dev) : Dev :=
  if d.monLive && !d.monHead && (d.report != d.link.reportSent || (d.attentionBit && !d.bit Reg.statusNibble 0)) then
    ({ d with link := { d.link with
      upReport := some (frameContent 3 (d.link.reportSeq + 1) d.report), reportSent := d.report,
      reportSeq := (d.link.reportSeq + 1) % 16 } } : Dev).refreshFloat
  else d

def execDiagnosticReport (s : State) : Res := .next (s.onDev (·.diagnosticReport))

/-! ## Delays (R205 to R207) -/

/-- A member sends a probe into slot 1 of a row leaving by its up port. -/
def Dev.delayProbe (d : Dev) : Dev :=
  if d.monLive && !d.monHead && d.nat Reg.upPort < 3 && d.link.rowsStarted then
    { d with link := { d.link with probing := true } }
  else d

def execDelayProbe (s : State) : Res := .next (s.onDev (·.delayProbe))

/-- The last three differing results agree within 0.6 ns. -/
def agreeing : List Nat → Bool
  | [a, b, c] => max a (max b c) - min a (min b c) ≤ 600
  | _ => false

/-- A probe result for D (R206). -/
def Dev.newDelay (d : Dev) (v : Nat) : Dev :=
  match d.link.held with
  | none => { d with link := { d.link with due := some v } }
  | some old =>
    if ((v : Int) - old).natAbs ≤ 2000 then
      { d with link := { d.link with due := some v, candidates := [] } }
    else
      let first := !d.bit Reg.linkStatus 3
      let cs := (v :: d.link.candidates).take 3
      let d : Dev := { d with link := { d.link with
        candidates := if agreeing cs then [] else cs, due := if agreeing cs then some v else none } }
      let d := d.setBit Reg.linkStatus 3 true
      if first then d.bump Reg.delayStepCount else d

/-- The probed partner answers: L = (round trip − turnaround) / 2 (R205), and with the report received a result for D. -/
def Dev.probeAnswer (d : Dev) (roundTrip turnaround : Nat) : Dev :=
  if d.monLive && !d.monHead && d.link.probing then
    let l := (roundTrip - turnaround) / 2
    let d := { d with link := { d.link with probing := false, measured := true } }.setNat (Reg.lineDelay (d.nat Reg.upPort)) l
    match d.link.report with
    | some r => d.newDelay (r + l)
    | none => d
  else d

def execProbeAnswer (roundTrip turnaround : Nat) (s : State) : Res := .next (s.onDev (·.probeAnswer roundTrip turnaround))

/-- The delay report in slot 3 (R205): a member that holds no D takes its first result. -/
def Dev.delayReport (d : Dev) (ps : Nat) : Dev :=
  if d.monLive && !d.monHead then
    let d : Dev := { d with link := { d.link with report := some ps } }
    if d.link.measured && d.link.held.isNone then d.newDelay (ps + d.nat (Reg.lineDelay (d.nat Reg.upPort))) else d
  else d

def execDelayReport (ps : Nat) (s : State) : Res := .next (s.onDev (·.delayReport ps))

/-- A D that waits is applied at the tick of a multiple-of-64 row (R206). -/
def Dev.delayApply (d : Dev) : Dev :=
  match d.link.due with
  | some v =>
    if d.monLive && !d.monHead && d.samp.tickRow % 64 == 0 then
      (({ d with link := { d.link with held := some v, due := none, candidates := [] } }.setNat Reg.cumulativeDelay
        v).setBit Reg.linkStatus 3 false).refreshReach
    else d
  | none => d

def execDelayApply (s : State) : Res := .next (s.onDev (·.delayApply))

/-- A TickAlign broadcast (R204): the first copy with an intact slot CRC counts. -/
def Dev.tickAlign (d : Dev) (row ps : Nat) (crcOk : Bool) : Dev :=
  if d.monLive && !d.monHead && crcOk && row % 64 == 0 then
    match d.link.alignDue with
    | some (r, _) => if r == row then d else { d with link := { d.link with alignDue := some (row, ps) } }
    | none => { d with link := { d.link with alignDue := some (row, ps) } }
  else d

def execTickAlignReceived (row ps : Nat) (crcOk : Bool) (s : State) : Res := .next (s.onDev (·.tickAlign row ps crcOk))

/-- D + 0.5 µs exceeds TickAlign (R207). -/
def execBeyondTickReach (s : State) : Res :=
  .next (s.onDev (fun d => if d.monLive && !d.monHead then d.refreshReach else d))

/-- Address, windows, D and up port of a member are cleared (R212, R231). -/
def Dev.clearAddress (d : Dev) : Dev :=
  let d : Dev := { d with link := { d.link with address := 0, claimNonce := none, rx := .reset } }
  (d.set Reg.windowAssignment 0x0007F07F).set Reg.floatRate 0

def Dev.unbind (d : Dev) : Dev :=
  let d := (d.clearAddress.set Reg.upPort 0xFF).set Reg.cumulativeDelay 0
  ({ d with pwr := { d.pwr with markCycles := 0 }, link := { d.link with
    bindOff := none, passAccepted := none, held := none, due := none, candidates := [], measured := false, probing := false,
    report := none, rowTaken := false } }.setBit Reg.linkStatus 3 false).refreshTimed

end Sys2Proof.Machine
end

