-- ==== Sys2Proof/Machine/Chain.lean ====
section
/-! DEFINITION. The head's rows and the chain (chapters 7 and 8): row start and return, cast-on passes, mirrors, bind-off,
ring break, rate fallback; and the member's side of cast-on. -/

namespace Sys2Proof.Machine

/-! ## The pack as the head knows it -/

/-- The head drives rows: its firmware runs, row marks have started at step 6 of Table 3.6, and its monitor die is awake in
the head role (R77). -/
def Dev.drivesRows (d : Dev) : Bool :=
  d.cpuLive && d.monHead && d.monLive && 6 ≤ d.nat Reg.startupState && d.nat Reg.startupState ≤ 8

/-- Windows of a row at the rate in force (R179). -/
def Dev.windowCount (d : Dev) : Nat := if d.on Reg.linkRateInForce then 30 else 125

/-- Member addresses with a mirror in use. -/
def Dev.usedAddresses (d : Dev) : List Nat :=
  ((upTo (d.nat Reg.highestAddress)).drop 1).filter (fun a => d.on (Reg.mirrorState a))

/-- The device that owns window w in a row, 0 if none (R185, R186). -/
def Dev.ownerOf (d : Dev) (w row : Nat) : Nat :=
  (d.usedAddresses.find? (fun a => (ownsWindow (d.nat (Reg.memberWindows a)) row w).isSome)).getD 0

/-- Share mode and indices taken in window w: (mode, share index) of each holder. -/
def Dev.sharesOf (d : Dev) (w : Nat) : List (Nat × Nat) :=
  d.usedAddresses.flatMap (fun a =>
    let wa := d.nat (Reg.memberWindows a)
    (if field wa 0 6 == w then [(windowShare wa, field wa 9 11)] else [])
      ++ (if field wa 12 18 == w then [(windowShare wa, field wa 19 21)] else []))
    ++ d.chain.windowChanges.flatMap (fun (e : Nat × Nat × Nat × Bool) =>
      let wa := e.2.1
      (if field wa 0 6 == w then [(windowShare wa, field wa 9 11)] else [])
        ++ (if field wa 12 18 == w then [(windowShare wa, field wa 19 21)] else []))

/-- The lowest free share index of window w in a mode. -/
def freeShare (mode : Nat) (taken : List (Nat × Nat)) : Option Nat :=
  if taken.any (fun t => t.1 != mode) then none
  else (List.range (shareOf mode)).find? (fun i => !taken.any (fun t => t.2 == i))

/-- A window and share index for a mode (R218): the lowest partly used window with a free index, else the lowest empty one;
never the window `other`. -/
def Dev.allocWindow (d : Dev) (mode : Nat) (other : Option Nat) : Option (Nat × Nat) :=
  let ws := (List.range d.windowCount).filter (fun w => some w != other)
  match ws.findSome? (fun w => let t := d.sharesOf w
      if t.isEmpty then none else (freeShare mode t).map (fun i => (w, i))) with
  | some r => some r
  | none => (ws.find? (fun w => (d.sharesOf w).isEmpty)).map (fun w => (w, 0))

/-- The windows of a member of c channels at a stream rate (R186, R218), as WindowAssignment. -/
def Dev.allocWindows (d : Dev) (c mode : Nat) : Option Nat :=
  match d.allocWindow mode none with
  | none => none
  | some (w, i) =>
    if c ≤ 24 then some (w + 128 * mode + 512 * i + 4096 * 0x7F)
    else match d.allocWindow mode (some w) with
      | none => none
      | some (v, j) => some (w + 128 * mode + 512 * i + 4096 * v + 2 ^ 19 * j)

/-- DeviceCount, AbsentMembers and WindowsFree follow the mirrors (Table 8.5). -/
def Dev.refreshChain (d : Dev) : Dev :=
  let used := d.usedAddresses
  ((d.setNat Reg.deviceCount (1 + (used.filter (fun a => d.nat (Reg.mirrorState a) == 1)).length)).setNat
    Reg.absentMembers (used.filter (fun a => d.nat (Reg.mirrorState a) == 2)).length).setNat
    Reg.windowsFree ((List.range d.windowCount).filter (fun w => (d.sharesOf w).isEmpty)).length

/-- Ports of the head's walk in order (R211). -/
def Dev.walkPorts (d : Dev) : List Nat :=
  (allPorts.filter (fun p => d.nat (Reg.portState p.num) == 3 && (d.portLink p).driven && !(d.portLink p).leftOut)).map
    Port.num

/-- The legs of the walk: the port a leg leaves by and the port it returns on (R182, R211). -/
def Dev.walkLegs (d : Dev) : List (Nat × Nat) :=
  if d.chain.ring && d.walkPorts.contains 0 then (0, 1) :: (d.walkPorts.filter (fun p => p == 2)).map (fun p => (p, p))
  else d.walkPorts.map (fun p => (p, p))

/-- Topology (Table 8.5). -/
def Dev.topologyNow (d : Dev) : Dev :=
  let a := d.walkPorts.contains 0
  let b := d.walkPorts.contains 1
  let pair := if d.chain.broken then 5 else if d.chain.ring then 4
    else if a && b then 3 else if b then 2 else if a then 1 else 0
  d.setNat Reg.topology (pair + (if d.walkPorts.contains 2 then 8 else 0) + (if d.chain.branch then 16 else 0))

/-- Topology follows the ports while the head drives rows. -/
def Dev.refreshTopology (d : Dev) : Dev := if d.drivesRows then d.topologyNow else d

/-- The port of the leg after the one that leaves by `p`; 3 after the last. -/
def Dev.nextLeg (d : Dev) (p : Nat) : Nat := portAfter p 3 (d.walkLegs.map (·.1))

/-- On the head the walk leaves a return port by the next leg (R177, R211). -/
def Dev.headForward (d : Dev) : Dev :=
  d.refreshForwardBy (fun p => match d.walkLegs.find? (fun l => l.2 == p) with | some l => d.nextLeg l.1 | none => 3)

/-- The objects that follow the ports: Topology on the head, ForwardDelay in either role. -/
def Dev.followPorts (d : Dev) : Dev :=
  if d.drivesRows then d.topologyNow.headForward else if d.monHead || !d.monLive then d else d.memberForward

def execPortTrainingDone (p : Port) (ok rate25 : Bool) (forwardPs : List Nat) (s : State) : Res :=
  .next (s.onDev (fun d => (d.trainingDone p ok rate25 forwardPs).followPorts))

/-- A port of the head's walk that enters Lost before pass close counts for the fallback (R227). -/
def Dev.walkPortLost (d : Dev) (p : Port) : Dev :=
  if d.drivesRows && d.walkPorts.contains p.num then { d with chain := { d.chain with lostWalk := true } } else d

def execPortSignalLoss (p : Port) (s : State) : Res :=
  .next (s.onDev (fun d => ((d.walkPortLost p).signalLoss p).followPorts))

/-! ## The order of the walk (Table 8.3) -/

/-- Members on the walk: recorded, and neither unassigned nor a hole. -/
def Dev.onWalk (d : Dev) : List Nat := (d.chain.tree.map (·.1)).filter (fun a => d.nat (Reg.mirrorState a) != 3)

/-- The last device that the walk has reached for the first time: its address and depth and those of the devices between it
and the head, innermost first, and the hop passages since the head's first departure. -/
structure WalkPlace where
  path : List (Nat × Nat)
  hops : Nat
  deriving DecidableEq, Repr

/-- The walk goes on to a member of depth k: its parent, and the place. The way back leads up to the device above it, or to
the head; a ring of `trunk` members is left at its last one, for the head, by one passage (Table 8.3). -/
def WalkPlace.reach (w : WalkPlace) (trunk a k : Nat) : Nat × WalkPlace :=
  let path := w.path.dropWhile (fun e => k ≤ e.2)
  let parent := match path with | (b, _) :: _ => b | [] => 1
  let hops := match w.path with | (_, last) :: _ => w.hops + (last + 2 - (if k == 1 then trunk else k)) | [] => 1
  (parent, ⟨(a, k) :: path, hops⟩)

/-- The strings of the tree: a member at a port of the head, and what follows it. -/
def segments : List (Nat × Nat) → List (List (Nat × Nat))
  | [] => []
  | e :: t =>
    match segments t with
    | ((x, 1) :: s) :: more => [e] :: ((x, 1) :: s) :: more
    | s :: more => (e :: s) :: more
    | [] => [[e]]

/-- A string as members in a row, each with the branch behind its port C, depths counted from it: C is walked first (R181). -/
def trunkGroups (onC : Nat → Bool) : Nat → List (Nat × Nat) → List (List (Nat × Nat))
  | n + 1, (a, k) :: t =>
    let branch := if onC a then (match t with | e :: u => e :: u.takeWhile (fun x => k + 1 < x.2) | [] => []) else []
    (((a, k) :: branch).map (fun e => (e.1, e.2 - k))) :: trunkGroups onC n (t.drop branch.length)
  | _, _ => []

/-- A member's port C leads on to a branch. -/
def Dev.branchesAt (d : Dev) (a : Nat) : Bool :=
  (((Tab.find a d.chain.ports).getD 0).toNat).testBit 2 && d.nat (Reg.memberUpPort a) != 2

/-- The string of ports A and B, which may be a ring, by its members in a row. -/
def Dev.ringGroups (d : Dev) : List (List (Nat × Nat)) :=
  match segments d.chain.tree with
  | s :: _ => trunkGroups d.branchesAt s.length s
  | [] => []

/-- WalkPosition, ParentAddress and Hops of every member follow the tree (Table 8.3). -/
def Dev.refreshWalk (d : Dev) : Dev :=
  let trunk := if d.chain.ring then d.ringGroups.length else 1
  (d.chain.tree.foldl (fun (e : Dev × WalkPlace × Nat) m =>
    let r := e.2.1.reach trunk m.1 m.2
    (((e.1.setNat (Reg.parentAddress m.1) r.1).setNat (Reg.walkPosition m.1) e.2.2).setNat (Reg.hops m.1) r.2.hops, r.2,
      e.2.2 + 1))
    (d, ⟨[], 0⟩, 1)).1

/-- The largest h between two devices of one string (R208, R210, R234): ports A and B carry one string, C the other; the
head's departure to the string counts as its own place. -/
def Dev.refreshHops (d : Dev) : Dev :=
  let hs := [[0, 1], [2]].map (fun (string : List Int) =>
    let l := (d.onWalk.filter (fun a => string.contains ((Tab.find a d.chain.legs).getD 0))).map (fun a => d.nat (Reg.hops a))
    match l with
    | [] => 0
    | h :: t => t.foldl max h - t.foldl min h + 1)
  let m := hs.foldl max 0
  let d := d.setNat Reg.maxHops m
  if 53 < m then d.setBit Reg.chainFlags 3 true else d

/-- Parents, positions, hop passages and MaxHops follow the tree. -/
def Dev.followTree (d : Dev) : Dev := d.refreshWalk.refreshHops

/-- Head port by which a member's row returns. -/
def Dev.legOf (d : Dev) (a : Nat) : Nat := ((Tab.find a d.chain.legs).getD 0).toNat

/-! ### A further member (R217, R222, R235) -/

/-- A place at which the walk can reach a further device: its position and depth in the tree, the device above it, and the D
that a device there would have. -/
structure WalkSlot where
  index : Nat
  depth : Nat
  parent : Nat
  delay : Nat
  deriving DecidableEq, Repr

/-- The places behind the member at position j of the tree, which has two down ports: on the row's arrival, and on its return
from the one device there. -/
def slotsBehind (delay : Nat → Nat) (hop j : Nat) (tree : List (Nat × Nat)) : List WalkSlot :=
  match tree.drop j with
  | (b, m) :: t =>
    let sub := t.takeWhile (fun e => m < e.2)
    match (sub.filter (fun e => e.2 == m + 1)).length, sub.getLast? with
    | 0, _ => [⟨j + 1, m + 1, b, delay b + hop⟩]
    | 1, some (x, k) => [⟨j + 1, m + 1, b, delay b + hop⟩, ⟨j + 1 + sub.length, m + 1, b, delay x + (k + 1 - m) * hop⟩]
    | _, _ => []
  | [] => []

/-- The element with the least key. -/
def leastBy {α : Type} (key : α → Nat) : List α → Option α
  | [] => none
  | h :: t => match leastBy key t with | some x => some (if key h ≤ key x then h else x) | none => some h

/-- One hop in D, in ps: a forwarding delay of R177 and a short line. -/
def Dev.hopPs (d : Dev) : Nat := if d.on Reg.linkRateInForce then 945000 else 235000

/-- The leg of the string that position j of the tree lies in. -/
def Dev.legAt (d : Dev) (j : Nat) : Nat :=
  match ((d.chain.tree.take (j + 1)).reverse).find? (fun e => e.2 == 1) with | some e => d.legOf e.1 | none => 3

/-- The place of a claim (DEDUCED, assumption 114): the one whose expected D comes nearest. A full cast-on claims in the order
of the walk, so there it is one at the end. -/
def Dev.claimSlot (d : Dev) (c : Claim) : Option WalkSlot :=
  let tree := d.chain.tree
  let slots := (List.range tree.length).flatMap (fun j =>
    if d.legAt j == c.leg then slotsBehind (fun a => d.nat (Reg.memberDelay a)) d.hopPs j tree else [])
  leastBy (fun w => ((w.delay : Int) - c.delay).natAbs) (slots.filter (fun w => !d.chain.full || w.index == tree.length))

/-- An absent member, or a hole, in whose place a device claims again (R224). -/
def Dev.returnsAs (d : Dev) (c : Claim) : Option Nat :=
  let far := fun a => ((d.nat (Reg.memberDelay a) : Int) - c.delay).natAbs
  leastBy far ((d.chain.tree.map (·.1)).filter (fun a =>
    2 ≤ d.nat (Reg.mirrorState a) && d.legOf a == c.leg && far a ≤ d.hopPs / 2))

/-- A place joins the tree: a second device behind a member, or one behind a member of a ring, is a branch on its port C.
Behind a member whose claim showed no partner but on its up port the head cannot tell port C from the other port of A and B:
whether it is a branch is free (assumption 199). -/
def Dev.joinAt (d : Dev) (a : Nat) (w : WalkSlot) : Dev :=
  let second := w.index < d.chain.tree.length && ((d.chain.tree.getD w.index (0, 0)).2 == w.depth)
  let up := d.nat (Reg.memberUpPort w.parent)
  let ports := ((Tab.find w.parent d.chain.ports).getD 0).toNat
  let onC := up != 2 && (second || d.chain.ring || (ports == 2 ^ up && Config.freeBool d.free))
  { d with free := d.free + 1, chain := { d.chain with
    tree := d.chain.tree.take w.index ++ (a, w.depth) :: d.chain.tree.drop w.index,
    branch := d.chain.branch || onC,
    ports := if onC then Tab.put w.parent (ports ||| 4 : Nat) d.chain.ports else d.chain.ports } }

/-- A member that has claimed joins the tree. -/
def Dev.joinTree (d : Dev) (a : Nat) (c : Claim) : Dev :=
  let d : Dev := { d with chain := { d.chain with trunk := [] } }
  match d.returnsAs c with
  | some x => { d with chain := { d.chain with tree := d.chain.tree.map (fun e => if e.1 == x then (a, e.2) else e) } }
  | none =>
    match d.claimSlot c with
    | some w => d.joinAt a w
    | none =>
      let before := (List.range d.chain.tree.length).takeWhile (fun j => d.legAt j ≤ c.leg)
      { d with chain := { d.chain with
        tree := d.chain.tree.take before.length ++ (a, 1) :: d.chain.tree.drop before.length } }

/-! ### The ring breaks (R228 to R230) -/

/-- Members in a row with their branches, the first at depth k. -/
def hang : Nat → List (Nat × List (Nat × Nat)) → List (Nat × Nat)
  | _, [] => []
  | k, (_, g) :: t => g.map (fun e => (e.1, e.2 + k)) ++ hang (k + 1) t

/-- The ring is kept as it stands. -/
def Dev.keepTrunk (d : Dev) : Dev :=
  { d with chain := { d.chain with trunk := d.ringGroups.map (fun g =>
    (match g with | (a, _) :: _ => d.nat (Reg.memberUpPort a) | [] => 0xFF, g)) } }

/-- The members of a side take their leg and the up port they now have: beyond the break the other port of the pair (R229). -/
def Dev.sideOf (d : Dev) (leg : Nat) (side : List (Nat × List (Nat × Nat))) : Dev :=
  side.foldl (fun (d : Dev) e =>
    let d := match e.2 with
      | (a, _) :: _ => d.setNat (Reg.memberUpPort a) (if leg == 1 && e.1 ≤ 1 then 1 - e.1 else e.1)
      | [] => d
    { d with chain := { d.chain with legs := e.2.foldl (fun t m => Tab.put m.1 (leg : Int) t) d.chain.legs } }) d

/-- A broken ring is two open chains (R228): up to the last member whose stitches return on A, and the rest, in the reverse
of its order, from B (DEDUCED, assumption 114). -/
def Dev.splitRing (d : Dev) : Dev :=
  let trunk := d.chain.trunk
  if trunk.isEmpty then d
  else
    let beyond := trunk.reverse.takeWhile (fun e => match e.2 with | (a, _) :: _ => d.legOf a != 0 | [] => true)
    let near := trunk.take (trunk.length - beyond.length)
    let other := ((segments d.chain.tree).filter (fun s => match s with | (a, _) :: _ => d.legOf a == 2 | [] => false)).flatten
    let d := (d.sideOf 0 near).sideOf 1 beyond
    ({ d with chain := { d.chain with tree := hang 1 near ++ hang 1 beyond ++ other } } : Dev).followTree

/-- A pass or a bind-off is running (R232). -/
def Dev.chainBusy (d : Dev) : Bool :=
  let st := d.nat Reg.chainState
  st == 1 || st == 2 || st == 3 || st == 5

/-! ## Requests of the head's own (R259, R439) -/

/-- A Read message to a member with both privilege bits (Table 9.5). -/
def readMessage (member index sub : Nat) : List Nat := [1, sub] ++ leBytes 2 index ++ leBytes 2 (member + 0x3000)
def writeMessage (member index sub : Nat) (value : List Nat) : List Nat :=
  [2, sub] ++ leBytes 2 index ++ leBytes 2 (member + 0x3000) ++ value

/-- MemberRequestsWaiting (R259). -/
def Dev.refreshWaiting (d : Dev) : Dev :=
  d.setNat Reg.memberRequestsWaiting (min 8 (d.svc.requests.filter (fun r => !r.inFlight)).length)

/-- A request of the head itself joins the member's queue; an empty message stands for the load of the member's image. -/
def Dev.queueOwn (d : Dev) (member : Nat) (message : List Nat) (more : List (List Nat)) : Dev :=
  ({ d with svc := { d.svc with
    requests := d.svc.requests ++ [⟨member, 3, message, more, 0, false, 0⟩] } } : Dev).refreshWaiting

/-- Serial, image and self-calibration of an addressed member (R439, step 7 of Table 3.6). -/
def Dev.admitMember (d : Dev) (a : Nat) : Dev :=
  let d := (d.queueOwn a (readMessage a 0x1000 5) []).queueOwn a [] []
  if d.bit Reg.startupControl 1 then d.queueOwn a (writeMessage a 0x2030 1 [1]) [] else d

/-! ## Rows -/

/-- The slot role that a row carries: all four at 100 Mbit/s, one in turn at 25 Mbit/s (R195). -/
def Dev.rowCarries (d : Dev) (row slot : Nat) : Bool := !d.on Reg.linkRateInForce || row % 4 == slot

/-- The first multiple of 64 at least 2 rows after the row that follows `row` (R204, R216). -/
def nextAlign (row : Nat) : Nat := (row + 66) / 64 * 64 % 2 ^ 32

/-- The effect row of a bind-off announced in this row (R231). -/
def effectRow (row : Nat) : Nat := (row + 23) / 8 * 8 % 2 ^ 32

/-- Step 1 of a bind-off has ended: no request is outstanding (R231). -/
def Dev.requestsOutstanding (d : Dev) : Bool := d.svc.requests.any (fun r => r.inFlight)

/-- A bind-off whose step 1 has ended names its effect row (R231). -/
def Dev.announceBindOff (d : Dev) (row : Nat) : Dev :=
  match d.chain.bindOff with
  | some (none, act) =>
    if d.requestsOutstanding then d
    else { d with chain := { d.chain with bindOff := some (some (effectRow row), act) } }
  | _ => d

/-- Code, target and argument of slot 0 of a row (Table 8.1), and the chain after it is sent. A ring break names the row that
carries it, and the ring ends with that row (R228). The row that TickAlign names carries the pass close (R216): reassignments
wait for it (assumption 115). -/
def Chain.slot0Of (c : Chain) (row highest devices : Nat) : (Nat × Nat × Nat) × Chain :=
  if c.breakDue then ((0xB, 4095, row), { c with breakDue := false, ring := false })
  else match c.slot0 with
  | some s => (s, { c with slot0 := none })
  | none =>
    match c.bindOff with
    | some (some e, act) => if rowAhead e row then ((0xA, 4095, e + act * 2 ^ 32), c) else ((0, 0, 0), c)
    | some (none, _) => ((0, 0, 0), c)
    | none =>
      let close := (9, 4095, c.pass + 256 * highest + (if c.ring then 2 ^ 20 else 0) + 2 ^ 21 * devices)
      if c.closing && (match c.alignRow with | some (e, _) => e == row | none => false) then (close, c)
      else match c.reassigns, c.assigning with
      | (target, arg) :: more, _ => ((7, target, arg), { c with reassigns := more })
      | [], some (a, w, n, t) =>
        ((7, 0, a + w % 2 ^ 22 * 2 ^ 12 + n * 2 ^ 34), { c with assigning := some (a, w, n, t + 1) })
      | [], none =>
        if c.calling then ((5, 0, c.pass + 256 * c.nonce), c)
        else if c.closing && (match c.alignRow with | some (e, _) => !rowAhead e row | none => true) then
          (close, c)
        else ((0, 0, 0), c)

/-- Slot 2: the TickAlign broadcast before the row it names (R204). -/
def Chain.slot2Of (c : Chain) (row : Nat) : Nat × Nat × Nat :=
  match c.alignRow with
  | some (e, v) => if rowAhead e row then (3, 4095, e * 2 ^ 28 + v) else (0, 0, 0)
  | none => (0, 0, 0)

/-- Header flags of a row (R180): flag [8] rises with the row that carries the pass open code (R216). -/
def Dev.rowFlags (d : Dev) (row : Nat) : Nat :=
  (if d.chain.opened && d.chain.slot0.isNone then 0x100 else 0)
    + (match d.chain.bindOff with | some (some e, _) => if rowAhead e row then 0x200 else 0 | _ => 0)
    + (if d.chain.ring then 0x400 else 0) + (if d.headAttention then 0x800 else 0)

/-- The 48 bits of a row header (R180). -/
def headerBits (row flags : Nat) : Nat :=
  let body := row * 256 + flags / 256
  body * 256 + crc8Header (bitsOf 40 body)

/-- At a multiple-of-64 row every change that its member has accepted takes effect: the mirror takes the new windows and
channel count, the old windows are free, and a reassignment goes out in slot 0 (R189, Table 8.1), except in a lead-in, whose
rows carry no codes (R216). Slot 0 carries one code a row: of several, the later ones follow in the next rows; calls and
assigns of a pass wait for them, and they for the pass close (DESIGN CHOICE, assumption 115). -/
def Dev.windowChange (d : Dev) (row : Nat) : Dev :=
  if row % 64 == 0 then
    let now := d.chain.windowChanges.filter (fun (e : Nat × Nat × Nat × Bool) => e.2.2.2)
    let new := now.filter (fun (e : Nat × Nat × Nat × Bool) => d.nat (Reg.memberWindows e.1) != e.2.1)
    let d := now.foldl (fun d (e : Nat × Nat × Nat × Bool) =>
      (d.setNat (Reg.memberWindows e.1) e.2.1).setNat (Reg.channelCount e.1) e.2.2.1) d
    ({ d with chain := { d.chain with
      windowChanges := d.chain.windowChanges.filter (fun (e : Nat × Nat × Nat × Bool) => !e.2.2.2),
      reassigns := if d.nat Reg.chainState == 1 then []
        else d.chain.reassigns ++ new.map (fun (e : Nat × Nat × Nat × Bool) => (e.1, e.1 + 4096 * e.2.1)) } } :
      Dev).refreshChain
  else d

/-- The service code of slot 0 in the row last sent. -/
def Dev.sentCode (d : Dev) : Nat :=
  if d.on Reg.linkRateInForce && d.row % 4 != 0 then 0 else field (nth d.link.slots 0) 77 80

/-- The leg the row has been sent out for returns on this port. -/
def Dev.legReturn (d : Dev) (p : Nat) : Bool := d.link.rowLegs.any (fun l => l.1 == d.link.sentOut && l.2 == p)

/-- A call whose row or slot is lost is neither claimed nor unclaimed: a new call follows (R216). -/
def Dev.loseCall (d : Dev) : Dev := { d with chain := { d.chain with calling := false } }

/-- A window of a return that R198 passes: the owner's stitch. -/
def passes (w : RxWindow) (owner : Nat) : Bool :=
  w.lead == 5 && w.crcOk && w.edgeErrors == 0 && !w.alarmStruck && w.addr == owner && owner != 0

/-- One upstream float bit of a member, none where it comes erased (R191). -/
def Dev.upBit (d : Dev) (a : Nat) (b : Option Bool) : Dev :=
  let x := ((d.chain.upRx.find? (fun e => e.1 == a)).map (·.2)).getD .reset
  let r := x.take b
  { d with chain := { d.chain with
    upRx := d.chain.upRx.filter (fun e => e.1 != a) ++ [(a, r.1)],
    upFrames := match r.2 with | some f => d.chain.upFrames ++ [(a, f)] | none => d.chain.upFrames } }

/-- The slots of a stitch join the sample set they belong to (R187, R236). -/
def Dev.gatherSet (d : Dev) (a row : Nat) (w : RxWindow) (second : Bool) : Dev :=
  let (j, setRow) := stitchPlace row (windowShare (d.nat (Reg.memberWindows a)))
  let pos := (if second then 24 else 0) + 3 * j
  let before := match d.chain.sets.find? (fun e => e.member == a && e.row == setRow) with | some e => e.parts | none => []
  { d with chain := { d.chain with
    sets := d.chain.sets.filter (fun e => e.member != a)
      ++ [⟨a, setRow, before ++ [(pos, w.slot0), (pos + 1, w.slot1), (pos + 2, w.slot2)]⟩] } }

/-- A valid stitch reaches the mirror (R190, R225, R236, Table 8.3). -/
def Dev.takeStitch (d : Dev) (p a row : Nat) (w : RxWindow) : Dev :=
  let was := d.nat (Reg.lastNibble a)
  let first := field (d.nat (Reg.memberWindows a)) 0 6 == w.index
  let d := d.setNat (Reg.lastStitchRow a) row
  let moved := d.legOf a != p
  let d : Dev := { d with chain := { d.chain with
    lastValid := Tab.put a row d.chain.lastValid, legs := Tab.put a (p : Int) d.chain.legs } }
  let d := if moved then d.splitRing else d
  let d := d.gatherSet a row w !first
  if first then
    let d := (d.setNat (Reg.lastNibble a) (w.nibble % 16)).upBit a (some w.floatBit)
    let since := Tab.find a d.chain.timingRows
    let d : Dev := { d with chain := { d.chain with
      timingRows := if !w.nibble.testBit 1 then d.chain.timingRows.dropIf (fun k => k == a)
        else if since.isSome then d.chain.timingRows else Tab.put a row d.chain.timingRows,
      asked := if w.nibble.testBit 1 then d.chain.asked else d.chain.asked.filter (fun x => x != a) } }
    d.raiseIf (w.nibble.testBit 0 && !was.testBit 0) 43
  else d

/-- An owned window of a member without a valid stitch: MissingRows counts the row, once for both windows of a member
(DEDUCED, assumption 147), and its float bit comes erased (R191, R236). -/
def Dev.missRow (d : Dev) (a row w : Nat) : Dev :=
  let d := if d.chain.missed.contains a then d
    else { d.bump (Reg.missingRows a) with chain := { d.chain with missed := a :: d.chain.missed } }
  if ownsWindow (d.nat (Reg.memberWindows a)) row w == some false then d.upBit a none else d

/-- No leg of the row reaches the device (R182). -/
def Dev.unreached (d : Dev) (a : Nat) : Bool := !d.link.rowLegs.any (fun l => l.2 == d.legOf a)

/-- The window of an unreached device at a return: each of its faults counts where it shows, a stitch that is not the owner's
as a window error, and the window not again as missing (R198, DEDUCED, assumption 148). -/
def Dev.countUnreached (d : Dev) (p : Nat) (w : RxWindow) : Dev :=
  let faulty := w.alarmStruck || windowBad w
  if d.chain.counted.contains w.index || !(faulty || w.lead == 5) then d
  else
    let d := { d.countWindow p w with chain := { d.chain with counted := w.index :: d.chain.counted } }
    if faulty then d else d.bump (Reg.windowErrors p)

/-- One window of a return (R182, R198): of the devices behind this leg passed to the mirror or counted once. A stitch of this
row taken from an earlier leg's return is not taken again. -/
def Dev.receiveWindow (d : Dev) (p row : Nat) (w : RxWindow) : Dev :=
  let a := d.ownerOf w.index row
  let here := d.legOf a == p
  if passes w a then
    (if here || Tab.find a d.chain.lastValid != some (row : Int) then d.takeStitch p a row w else d)
  else if a != 0 && d.unreached a then d.countUnreached p w
  else
    let d := d.countWindow p w
    if a == 0 || !here then d
    else
      let d := d.missRow a row w.index
      if w.alarmStruck || windowBad w then d
      else if w.lead == 5 then d.bump (Reg.windowErrors p) else d.bump (Reg.missingStitches p)

/-- Every owned window of the devices behind a head port counts as missing in this row (R182). -/
def Dev.missLeg (d : Dev) (p row : Nat) : Dev :=
  (List.range d.windowCount).foldl (fun d w =>
    let a := d.ownerOf w row
    if a != 0 && d.legOf a == p then (d.bump (Reg.missingStitches p)).missRow a row w else d) d

/-- The row is over: an owned window of a device that no leg of the row reaches has come back without its stitch; unless it
counts for another fault it counts as missing at the port behind which the device lies (R198, DEDUCED, assumption 148). -/
def Dev.missUnreached (d : Dev) (row : Nat) : Dev :=
  (List.range d.windowCount).foldl (fun d w =>
    let a := d.ownerOf w row
    if a != 0 && d.unreached a && Tab.find a d.chain.lastValid != some (row : Int) then
      (if d.chain.counted.contains w then d else d.bump (Reg.missingStitches (d.legOf a))).missRow a row w
    else d) d

/-- The 96 bits of an empty window: lead 000, owner, downstream float bit and CRC (R185). -/
def emptyWindow (owner : Nat) (float : Bool) : Nat :=
  let body := owner % 4096 * 2 ^ 65 + (if float then 1 else 0)
  body * 2 ^ 16 + crc16Bits (bitsOf 77 body)

/-- The next downstream float bit for a member: idle is 1 (R191). -/
def takeDownBit (a : Nat) : List (Nat × List Bool) → Bool × List (Nat × List Bool)
  | [] => (true, [])
  | (b, bits) :: t =>
    if b == a then
      (match bits with
       | x :: more => (x, if more.isEmpty then t else (b, more) :: t)
       | [] => (true, t))
    else
      let r := takeDownBit a t
      (r.1, (b, bits) :: r.2)

/-- The windows of a row as the head sends them, and the float bits left (R185, R191): an owner's first window carries its
next bit, a second window none. -/
def Dev.emptyWindows (d : Dev) (row : Nat) : List Nat × List (Nat × List Bool) :=
  (List.range d.windowCount).foldl (fun (e : List Nat × List (Nat × List Bool)) w =>
    let a := d.ownerOf w row
    if a != 0 && ownsWindow (d.nat (Reg.memberWindows a)) row w == some false then
      let r := takeDownBit a e.2
      (e.1 ++ [emptyWindow a r.1], r.2)
    else (e.1 ++ [emptyWindow a false], e.2)) ([], d.link.downBits)

/-- D of a claim in ps: 1/64 cell at the rate in force (Table 8.1). -/
def claimDelay (rate25 : Bool) (q : Nat) : Nat := (roundDiv ((q * (if rate25 then 40000 else 10000) : Nat)) 64).toNat

/-- TickAlign for the largest recorded D of the pack plus 1.0 µs, up to 0.1 µs, at most 60.0 µs (R204, R221); a hole is not in
the pack. -/
def Dev.alignValue (d : Dev) : Nat :=
  let m := ((d.usedAddresses.filter (fun a => d.nat (Reg.mirrorState a) != 3)).map (fun a => d.nat (Reg.memberDelay a))).foldl
    max 0
  min 60000000 ((m + 1000000 + 99999) / 100000 * 100000)

/-- The calls end: TickAlign is announced and the pass closes in the row it names (R216, R219). -/
def Dev.announceAlign (d : Dev) (row : Nat) : Dev :=
  let e := nextAlign row
  { d with
    chain := { d.chain with alignRow := some (e, d.alignValue) },
    link := { d.link with alignDue := some (e, d.alignValue) } }

def Dev.endCalls (d : Dev) (row : Nat) : Dev :=
  let d : Dev := { d with chain := { d.chain with calling := false, claim := none, assigning := none, closing := true } }
  d.announceAlign row

/-- The slots that the head writes as a row leaves it by port q (R195, R205): the time since the row's first departure in
slot 3, and in slot 1 the answer to a probe from there. -/
def Dev.headSlots (d : Dev) (q sincePs : Nat) : Dev :=
  if 3 ≤ q then d else (d.putSlot 3 (slotBits 0xC 0 sincePs)).answerProbe q

/-- The row leaves by the first leg with its number, header, windows and slots. -/
def Dev.departRow (d : Dev) (row : Nat) (s0 : Nat × Nat × Nat) : Dev :=
  let s2 := if d.rowCarries row 2 then d.chain.slot2Of row else (0, 0, 0)
  let slots := [slotBits s0.1 s0.2.1 s0.2.2, slotBits 0 0 0, slotBits s2.1 s2.2.1 s2.2.2, slotBits 0xC 0 0]
  let past := match d.chain.alignRow with | some (e, _) => !d.chain.closing && !rowAhead e row | none => false
  let flags := d.rowFlags row
  let w := d.emptyWindows row
  let legs := d.walkLegs
  let first := match legs with | (p, _) :: _ => p | [] => 3
  ({ d with
    chain := { d.chain with missed := [], counted := [], alignRow := if past then none else d.chain.alignRow },
    samp := { d.samp with untimed := false },
    link := { d.link with
      rowsStarted := true, flags := flags, header := headerBits row flags, windows := w.1, downBits := w.2,
      slots := if d.on Reg.linkRateInForce then [nth slots (row % 4)] else slots,
      sentRow := row, sentOut := first, legsBefore := d.link.legsOut, legsOut := (legs.take 1).flatMap (fun l => [l.1, l.2]),
      rowLegs := legs, legMissed := false, ringRow := none } } : Dev).headSlots first 0

/-- The rows that publications count from, as the row number wraps to 0 (R255): also of one whose mode came from FRAM, which
counts from row 0 (assumption 71). -/
def Dev.wrapPubStart (d : Dev) : Dev :=
  { d with svc := { d.svc with
    pubStart := (upTo 64).foldl (fun t p => Tab.put p ((Tab.find p t).getD 0 - 2 ^ 32) t) d.svc.pubStart } }

/-- The head has sent its last row (R231): the effect row of a bind-off with action 1, after which ChainState reads 0 until a full
cast-on starts the rows again. -/
def Dev.rowsEnded (d : Dev) : Bool :=
  (d.link.rowsStarted && d.nat Reg.chainState == 0)
    || (match d.chain.bindOff with | some (some e, 1) => !rowAhead e d.row | _ => false)

/-- ROW_START (R178, R180, R185, R195): a call that no leg could carry is unclaimed (R217); the next row number, header,
windows and service slots; the row leaves by the first leg. Flag [10] changes with the row that carries a ring break
(R228), and the marks of the ports clear (R182). -/
def Dev.rowStart (d : Dev) : Dev :=
  if !d.drivesRows || d.rowsEnded then d
  else
    let d := if d.chain.calling && d.walkLegs.isEmpty && d.sentCode == 5 then d.endCalls d.row else d
    let row := if d.link.rowsStarted then (d.row + 1) % 2 ^ 32 else 0
    let d := if d.link.rowsStarted && row == 0 then d.wrapPubStart else d
    let d := (((d.setNat Reg.rowNumber row).setBit Reg.linkStatus 0 true).announceBindOff row).windowChange row
    let (s0, chain) := if d.rowCarries row 0 then d.chain.slot0Of row (d.nat Reg.highestAddress) (d.nat Reg.deviceCount)
      else ((0, 0, 0), d.chain)
    let ends := chain.ring != d.chain.ring
    let d := if ends then (allPorts.foldl (fun d p => d.leaveUp p) d).keepTrunk else d
    let d := { d with chain := { chain with trunk := d.chain.trunk } }
    let d := (if ends then d.splitRing else d).departRow row s0
    (d.setNat Reg.chainState (if d.nat Reg.chainState == 0 then 4 else d.nat Reg.chainState)).followPorts

/-- Slot 0 of an accepted return while calls run (R216, R217). -/
def Dev.takeSlot0 (d : Dev) (p row : Nat) (s : ServiceSlot) : Dev :=
  if !d.chain.calling || d.sentCode != 5 then d
  else if !s.crcOk then d.loseCall
  else if s.code == 5 then (if p == (match d.walkLegs.getLast? with | some l => l.2 | none => 3) then d.endCalls row else d)
  else if s.code == 6 && s.arg % 256 == d.chain.pass && field s.arg 8 23 == d.chain.nonce && d.chain.claim.isNone then
    if field s.arg 36 59 == 0xFFFFFF then d.loseCall
    else { d with chain := { d.chain with
      calling := false,
      claim := some {
        count := field s.arg 29 33, rate := field s.arg 34 35,
        delay := claimDelay (d.on Reg.linkRateInForce) (field s.arg 36 59), nonce := field s.arg 8 23,
        upPort := field s.arg 24 25, portsUp := field s.arg 26 28, leg := p },
      branch := d.chain.branch || (s.arg.testBit 28 && field s.arg 24 25 != 2) } }
  else d

/-- WalkTime of a row (R234): every row above 90 µs sets ChainFlags bit [2] and raises source 41. -/
def Dev.takeWalkTime (d : Dev) (ps : Nat) : Dev :=
  let d := (d.setNat Reg.walkTime ps).setNat Reg.walkTimeMax (max ps (d.nat Reg.walkTimeMax))
  if 90000000 < ps then (d.setBit Reg.chainFlags 2 true).raise 41 else d

/-- HEAD_CONFLICT (R4, R182, R226): the head stops driving rows on the port. -/
def Dev.foreignRow (d : Dev) (p : Port) : Dev :=
  let d := (d.setBit Reg.linkStatus 5 true).setBit Reg.chainFlags (6 + p.num) true
  if (d.portLink p).driven then ((d.setPortLink p { d.portLink p with driven := false }).refreshTopology).raise 33 else d

/-- The windows of a return that R198 passes, as 96-bit stitches by number. -/
def Dev.passedWindows (d : Dev) (row : Nat) (ws : List RxWindow) : List (Nat × Nat) :=
  (ws.filter (fun w => w.index < d.windowCount && passes w (d.ownerOf w.index row))).map
    (fun w => (w.index, stitchBits w.addr w.slot0 w.slot1 w.slot2 w.nibble w.floatBit))

/-- The windows that the row ring will hold gain those of one more leg (R182, R268). -/
def Dev.addRingWindows (d : Dev) (row : Nat) (ws : List RxWindow) : Dev :=
  let before := d.link.ringRow.getD []
  { d with link := { d.link with ringRow := some (before
    ++ (d.passedWindows row ws).filter (fun e => !before.any (fun x => x.1 == e.1))) } }

/-- The row is over: after the last leg's return, or after the limit that ends it. A row with an accepted return enters the row
ring, one entry a row (R268). -/
def State.closeRing (s : State) (row : Nat) : State :=
  match s.dev.link.ringRow with
  | some ws =>
    if s.dev.link.sentOut < 3 then s
    else (s.onDev (fun d => { d with link := { d.link with ringRow := none } })).ringWrite row ws
  | none => s

/-- The legs that follow the one the row is out on, as the row departed (R182). -/
def Dev.legsAfter (d : Dev) : List (Nat × Nat) := (d.link.rowLegs.dropWhile (fun l => l.1 != d.link.sentOut)).drop 1

/-- The row goes on by the next leg that still has a partner, as it came back, with the slots the head writes; the last return
gives WalkTime (R182, R205, R211, R234). The windows of a leg passed over are missing. -/
def Dev.nextOut (d : Dev) (p : Nat) (sincePs : Nat) (slots : List ServiceSlot) : Dev :=
  let gone := d.legsAfter.takeWhile (fun l => !d.walkLegs.contains l)
  let next := (d.legsAfter.drop gone.length).take 1
  let d := gone.foldl (fun d l => d.missLeg l.2 d.row) d
  match next with
  | [] => (({ d with link := { d.link with sentOut := 3 } } : Dev).takeWalkTime sincePs).missUnreached d.row
  | (q, r) :: _ =>
    ({ d with link := { d.link with
      sentOut := q, legsOut := d.link.legsOut ++ [q, r], legMissed := false, slots := slots.map receivedSlot } } : Dev).headSlots
      q (sincePs + d.forwardPs p q)

/-- An accepted return of a leg (R182): its windows, its slots and the next leg. -/
def Dev.acceptReturn (d : Dev) (p : Port) (row : Nat) (timing : MarkTiming) (windows : List RxWindow)
    (slots : List ServiceSlot) : Dev :=
  let d := (d.bump (Reg.rowsReceived p.num)).noteProbe p.num (d.rxSlot row slots 1) timing.turnaround
  let d := d.setPortLink p { d.portLink p with misses := 0 }
  let d := windows.foldl (fun d w => d.receiveWindow p.num row w) (d.addRingWindows row windows)
  let d := (d.takeSlot0 p.num row (d.rxSlot row slots 0)).nextOut p.num timing.sincePs slots
  { d with chain := { d.chain with ringMisses := if p == .b then 0 else d.chain.ringMisses } }

/-- The row does not return on its leg within ReturnLimit (R182, R228): the windows of this leg and those after it are
missing; a leg that fails twice is left out. -/
def Dev.returnLimit (d : Dev) (p : Port) : Dev :=
  if d.drivesRows && d.legReturn p.num then
    let legs := (if d.link.legMissed then [] else [p.num]) ++ d.legsAfter.map (·.2)
    let d := ((legs.foldl (fun d q => d.missLeg q d.row) d).loseCall).missUnreached d.row
    let d : Dev := { d with link := { d.link with sentOut := 3 } }
    if d.chain.ring && p == .b then { d with chain := { d.chain with ringMisses := d.chain.ringMisses + 1 } }
    else
      let l := d.portLink p
      (d.setPortLink p { l with misses := if 1 ≤ l.misses then 0 else l.misses + 1, leftOut := 1 ≤ l.misses }).refreshTopology
  else d

/-- A row mark that may be a return of the head's own row, and so is never foreign (R4): it comes in on a port of a leg for
which the head has sent the row, or the row before it, out; or one of these two rows, sent out of A, comes round to B or is
turned back to A (R214, R230). -/
def Dev.sentFor (d : Dev) (p row : Nat) : Bool :=
  let before := (row + 1) % 2 ^ 32 == d.row
  let legs := if before then d.link.legsBefore else d.link.legsOut
  legs.contains p || (p ≤ 1 && (before || row == d.row) && legs.contains 0)

/-- A row of the head's own that its leg cannot take (R182): too late, or of another number. Its windows count as missing once
a row; one that its leg no longer waits for has been counted at ReturnLimit. -/
def Dev.discardReturn (d : Dev) (p : Port) (sincePs : Nat) : Dev :=
  if !d.legReturn p.num then d
  else if 100000000 < sincePs then d.returnLimit p
  else
    let d := (if d.link.legMissed then d else d.missLeg p.num d.row).loseCall
    { d with link := { d.link with legMissed := true } }

/-- The ring closes (R214): flag [10] from the next row, and the marks of the ports clear. -/
def Dev.ringDetected (d : Dev) : Dev :=
  (allPorts.foldl (fun (d : Dev) q => d.leaveUp q)
    { d with chain := { d.chain with ring := true, ringMisses := 0 } }).refreshTopology

/-- The windows of a row that the head does not accept: the checks of Table 7.7 run on them all the same (R196). -/
def Dev.countWindows (d : Dev) (p : Nat) (windows : List RxWindow) : Dev := windows.foldl (fun d w => d.countWindow p w) d

/-- ROW_RETURN (R182, R196, R214, R268). -/
def State.rowReturn (s : State) (p : Port) (row : Nat) (headerOk periodOk : Bool) (timing : MarkTiming)
    (windows : List RxWindow) (slots : List ServiceSlot) : State :=
  if !s.dev.drivesRows || s.dev.nat (Reg.portState p.num) != 3 then s
  else
    let s := s.onDev (·.checkMark p.num headerOk periodOk timing.edgeErrors)
    let d := s.dev
    let recent := row == d.row || (row + 1) % 2 ^ 32 == d.row
    if !headerOk then s.onDev (fun d => (d.countWindows p.num windows).loseCall)
    else if !d.chain.ring && p == .b && d.link.sentOut == 0 && row == d.row && timing.sincePs ≤ 100000000 then
      s.onDev (fun d => (d.countWindows p.num windows).ringDetected)
    else if !d.sentFor p.num row then s.onDev (fun d => (d.countWindows p.num windows).foreignRow p)
    else if d.legReturn p.num && timing.sincePs ≤ 100000000 && recent then
      (s.onDev (·.acceptReturn p row timing windows slots)).closeRing row
    else (s.onDev (fun d => (d.countWindows p.num windows).discardReturn p timing.sincePs)).closeRing s.dev.row

/-! ## Cast-on at the head -/

/-- The head's own mirror (R235); its channel count follows the channels in force (`Dev.channelsInForce`). -/
def Dev.ownMirror (d : Dev) : Dev :=
  ((d.set (Reg.mirrorState 1) 1).setNat (Reg.memberSerial 1) Config.deviceSerial.toNat).setNat (Reg.channelCount 1)
    d.channelList.length

/-- The ports that carry rows fall silent and enter Lost (R176, R227). -/
def Dev.portsLost (d : Dev) : Dev :=
  allPorts.foldl (fun d p => if d.nat (Reg.portState p.num) == 3 then
    ((d.leaveUp p).set (Reg.portState p.num) 4).bump (Reg.lossOfSignal p.num) else d) d

/-- A full cast-on starts with its lead-in (R216, R174, R226). Where the rate changes, the ports that carried rows train again
from Lost (R176, R227). -/
def Dev.beginFullCastOn (d : Dev) : Dev :=
  let rate := if d.nat Reg.linkRate == 1 || (d.nat Reg.linkRate == 2 && d.chain.fallback) then 1 else 0
  let d := if d.nat Reg.linkRateInForce == rate then d else d.portsLost.setNat Reg.linkRateInForce rate
  let d := allPorts.foldl (fun d p => d.setPortLink p { d.portLink p with
    driven := true, leftOut := false, misses := 0 }) d
  ({ d with chain := { d.chain with
    full := true, opened := false, calling := false, assigning := none, claim := none, slot0 := none, closing := false,
    incrementalAt := none, bindOff := none, restart := false, breakDue := false, reassigns := [], lostWalk := false,
    startRow := if d.link.rowsStarted then (d.row + 1) % 2 ^ 32 else 0 } }.set Reg.chainState 1).ownMirror

def Dev.fullCastOn (d : Dev) : Dev := if d.drivesRows && !d.chainBusy then d.beginFullCastOn else d

def execFullCastOn (s : State) : Res := .next (s.onDev (·.fullCastOn))

/-- An incremental pass starts (R222). -/
def Dev.beginIncremental (d : Dev) : Dev :=
  { d with chain := { d.chain with
    full := false, opened := false, calling := false, assigning := none, claim := none, slot0 := none, closing := false,
    incrementalAt := none } }.set Reg.chainState 3

/-- The pass that a presence code has called for (R222). DESIGN CHOICE (assumption 197): 8 rows after the row N in which the code
returned means once row N + 8 has started, so that code 0x4 goes out in row N + 9 at the earliest. -/
def Dev.incrementalPass (d : Dev) : Dev :=
  match d.chain.incrementalAt with
  | some r => if d.drivesRows && !d.rowsEnded && !d.chainBusy && !rowAhead r d.row then d.beginIncremental else d
  | none => d

def execIncrementalPass (s : State) : Res := .next (s.onDev (·.incrementalPass))

/-- Every member mirror becomes unassigned (R216, R231). -/
def Dev.clearMirrors (d : Dev) : Dev :=
  let d := d.usedAddresses.foldl (fun d a => (d.set (Reg.mirrorState a) 0).set (Reg.memberWindows a) 0x0007F07F) d
  ({ d with chain := { d.chain with
    lastValid := [], legs := [], tree := [], trunk := [], ports := [], timingRows := [], asked := [], upRx := [], sets := [],
    windowChanges := [],
    reassigns := [] } }.set Reg.highestAddress 1).refreshChain

/-- SpoiledReceived, CrcErrors and MissingStitches together, of each head port (R227). -/
def Dev.portErrors (d : Dev) : List Nat :=
  [0, 1, 2].map (fun p => d.nat (Reg.spoiledReceived p) + d.nat (Reg.crcErrors p) + d.nat (Reg.missingStitches p))

/-- The head opens the pass (R216, R222, Table 8.5). -/
def Dev.openPass (d : Dev) : Dev :=
  let pass := (d.chain.pass + 1) % 256
  let d := if d.chain.full then
      ((({ d with chain := { d.chain with broken := false, branch := false } } : Dev).clearMirrors.setNat Reg.chainFlags
        (d.nat Reg.chainFlags &&& 0x10)).set Reg.holeCount 0).set Reg.walkTimeMax 0
    else d
  { d with chain := { d.chain with
    pass := pass, opened := true, slot0 := some (4, 4095, pass + (if d.chain.full then 256 else 0)), fragments := [],
    thisPass := [], errorsAtOpen := d.portErrors } }.set Reg.chainState (if d.chain.full then 2 else 3)

/-- A member accepts the pass open row (R216, R217). A full cast-on ends the bar of a port (R229, R230). -/
def Dev.acceptOpen (d : Dev) (pass : Nat) (full : Bool) : Dev :=
  let d := if full then allPorts.foldl (fun d p => d.setPortLink p { d.portLink p with barred := false }) d.clearAddress
    else d
  { d with link := { d.link with passAccepted := some (pass % 256), claimNonce := none } }

def Dev.passOpen (d : Dev) (pass : Nat) (full : Bool) : Dev :=
  if d.drivesRows then
    if (d.nat Reg.chainState == 1 && 7 ≤ (d.row + 2 ^ 32 - d.chain.startRow) % 2 ^ 32 && d.link.rowsStarted)
        || (d.nat Reg.chainState == 3 && !d.chain.opened) then d.openPass
    else d
  else if d.monLive && !d.monHead && d.link.rowTaken then d.acceptOpen pass full
  else d

def execPassOpen (pass : Nat) (full : Bool) (s : State) : Res := .next (s.onDev (·.passOpen pass full))

/-- CALL (R216): a new nonce; a member answers with CLAIM. -/
def Dev.call (d : Dev) (nonce : Nat) : Dev :=
  if d.drivesRows && d.chain.opened && d.chain.slot0.isNone && !d.chain.calling && d.chain.assigning.isNone
      && d.chain.claim.isNone && !d.chain.closing then
    { d with chain := { d.chain with calling := true, nonce := nonce % 65536 } }
  else d

def execCall (nonce : Nat) (s : State) : Res := .next (s.onDev (·.call nonce))

/-- D in a claim: units of 1/64 cell at the rate in force, to the nearest (DESIGN CHOICE, assumption 116), 0xFFFFFF while it
is not measured (Table 8.1). -/
def Dev.claimedD (d : Dev) : Nat :=
  match d.ownD with
  | some v => min 0xFFFFFE (roundDiv (v * 64 : Nat) (if d.on Reg.linkRateInForce then 40000 else 10000)).toNat
  | none => 0xFFFFFF

/-- The argument of a claim (Table 8.1). -/
def Dev.claimArg (d : Dev) (pass nonce : Nat) : Nat :=
  pass % 256 + 2 ^ 8 * (nonce % 65536) + 2 ^ 24 * (d.nat Reg.upPort % 4)
    + 2 ^ 26 * maskOf ([0, 1, 2].filter (fun p => d.nat (Reg.portState p) == 3)) + 2 ^ 29 * d.channelList.length
    + 2 ^ 34 * (d.nat Reg.streamRateInForce % 4) + 2 ^ 36 * d.claimedD

/-- CLAIM (R217): an unaddressed member that accepted this pass's open row replaces the call with its claim and keeps the
nonce. -/
def Dev.claim (d : Dev) (pass nonce : Nat) : Dev :=
  if d.monLive && !d.monHead && d.link.rowTaken && d.link.address == 0 && d.link.passAccepted == some (pass % 256) then
    { d.putSlot 0 (slotBits 6 0 (d.claimArg pass nonce)) with link :=
      { (d.putSlot 0 (slotBits 6 0 (d.claimArg pass nonce))).link with claimNonce := some (nonce % 65536) } }
  else d

def execClaim (pass nonce : Nat) (s : State) : Res := .next (s.onDev (·.claim pass nonce))

/-- Windows or addresses are exhausted (R219). -/
def Dev.exhausted (d : Dev) (bit : Nat) : Dev := ((d.setBit Reg.chainFlags bit true).raise 36).endCalls d.row

/-- The head assigns the device whose claim it holds (R218, R219). -/
def Dev.assignNext (d : Dev) : Dev :=
  match d.chain.claim with
  | some c =>
    let a := d.nat Reg.highestAddress + 1
    if 4094 < a then d.exhausted 1
    else match d.allocWindows c.count (min c.rate 2) with
      | some wa => { d with chain := { d.chain with assigning := some (a, wa, c.nonce, 0) } }
      | none => d.exhausted 0
  | none => d

/-- A member takes its address and windows (R218), or as an addressed device its new windows (R189), and sets bit [59] in the
code as it passes. -/
def Dev.takeAssign (d : Dev) (address windows nonce : Nat) : Dev :=
  let mine := if d.link.address == 0 then d.link.claimNonce == some nonce else nonce == 0 && address == d.link.address
  if mine then
    let wa := windows % 2 ^ 22
    let d := d.putSlot 0 (slotBits 7 d.link.address (address % 4096 + 2 ^ 12 * wa + 2 ^ 34 * (nonce % 65536) + 2 ^ 59))
    let d : Dev := { d with link := { d.link with address := address % 4096, claimNonce := none } }
    (d.setNat Reg.windowAssignment wa).setNat Reg.floatRate (floatRateOf wa)
  else d

def Dev.assign (d : Dev) (address windows nonce : Nat) : Dev :=
  if d.drivesRows then (if d.chain.opened && d.chain.assigning.isNone then d.assignNext else d)
  else if d.monLive && !d.monHead && d.link.rowTaken then d.takeAssign address windows nonce
  else d

def execAssign (address windows nonce : Nat) (s : State) : Res :=
  .next (s.together (s.onDev (·.assign address windows nonce)))

/-- The mirror of a device that the head has assigned, present or at once a hole (R218, R221, R224, Table 8.3): its claim, its
serial number 0 until it is read, and the walk as it is now known. -/
def Dev.recordClaim (d : Dev) (a wa : Nat) (c : Claim) (state : Nat) : Dev :=
  let d := ((((((d.setNat (Reg.mirrorState a) state).setNat (Reg.memberWindows a) wa).setNat (Reg.channelCount a)
    c.count).setNat (Reg.memberDelay a) c.delay).setNat (Reg.memberUpPort a) c.upPort).set (Reg.memberSerial a) 0).setNat
    Reg.highestAddress a
  ({ d with chain := { d.chain with
    assigning := none, claim := none, thisPass := d.chain.thisPass ++ [a], legs := Tab.put a c.leg d.chain.legs,
    ports := Tab.put a c.portsUp d.chain.ports } } : Dev).joinTree a c |>.followTree.refreshTopology.refreshChain

/-- The mirror of a device that has taken its address. -/
def Dev.recordMember (d : Dev) (a wa : Nat) (c : Claim) : Dev :=
  ({ d with chain := { d.chain with lastValid := Tab.put a d.row d.chain.lastValid } } : Dev).recordClaim a wa c 1

/-- A hole (R224): its address, windows, claim and place stay, for a member that returns. -/
def Dev.recordHole (d : Dev) (a : Nat) : Dev :=
  (((d.set (Reg.mirrorState a) 3).bump Reg.holeCount).refreshHops.refreshChain).raise 38

/-- ASSIGN_ACCEPTED (R218): the member is recorded, from step 7 of Table 3.6 on also admitted (R77, R439), or the assign goes
out again, at most 3 times. -/
def Dev.assignAccepted (d : Dev) (ok : Bool) : Dev :=
  match d.chain.assigning, d.chain.claim with
  | some (a, wa, _, times), some c =>
    if !d.drivesRows || times == 0 then d
    else if ok then
      let d := d.recordMember a wa c
      if d.nat Reg.startupState == 7 || d.nat Reg.startupState == 8 then d.admitMember a else d
    else if times < 4 then d
    else (d.recordClaim a wa c 3).recordHole a
  | _, _ => d

def execAssignAccepted (ok : Bool) (s : State) : Res := .next (s.together (s.onDev (·.assignAccepted ok)))

/-- The pass close row has returned (R216): cast-on is complete. -/
def Dev.passClose (d : Dev) : Dev :=
  let due := match d.chain.alignRow with | some (e, _) => !rowAhead e d.row | none => true
  if d.drivesRows && d.chain.opened && d.chain.closing && due then
    let d := if d.chain.full then
        d.setNat Reg.castOnTime (((d.row + 2 ^ 32 - d.chain.startRow) % 2 ^ 32 * 125 + d.nat Reg.walkTime / 1000000) % 2 ^ 32)
      else d
    (({ d with chain := { d.chain with
      opened := false, closing := false, alignRow := none, thisPass := [] } }.set Reg.chainState 4).refreshTopology).refreshHops
  else d

/-! ## After cast-on -/

/-- A presence code (R219, R222, R223, R232): counted the first time in the interval, and beyond a full list each time. -/
def Dev.presence (d : Dev) (fragment : Nat) : Dev :=
  if !d.drivesRows || d.nat Reg.chainState == 5 || field (d.nat Reg.chainFlags) 0 1 != 0 then d
  else
    let known := d.chain.fragments.contains fragment
    let d := if known then d
      else
        let d : Dev := if d.chain.fragments.length < 64 then
            { d with chain := { d.chain with fragments := d.chain.fragments ++ [fragment] } } else d
        (d.bump Reg.lateStitchCount).raise 37
    if d.on Reg.autoIncremental && !d.chainBusy && d.chain.incrementalAt.isNone then
      { d with chain := { d.chain with incrementalAt := some ((d.row + 8) % 2 ^ 32) } }
    else d

def execPresenceCode (fragment : Nat) (s : State) : Res := .next (s.together (s.onDev (·.presence fragment)))

/-- No valid stitch of an address for AbsentRows rows, or none at all. -/
def Dev.silent (d : Dev) (a : Nat) : Bool :=
  match Tab.find a d.chain.lastValid with
  | some r => d.nat Reg.absentRows ≤ (d.row + 2 ^ 32 - r.toNat) % 2 ^ 32
  | none => true

/-- R224: an address of the pass in progress. -/
def Dev.castOnHole (d : Dev) (a : Nat) : Dev :=
  if d.drivesRows && d.chain.opened && d.chain.thisPass.contains a && d.nat (Reg.mirrorState a) == 1 && d.silent a then
    d.recordHole a else d

/-- R225: an address assigned before the pass in progress. -/
def Dev.memberAbsent (d : Dev) (a : Nat) : Dev :=
  if d.drivesRows && 2 ≤ a && a ≤ d.nat Reg.highestAddress && d.nat (Reg.mirrorState a) == 1
      && !d.chain.thisPass.contains a && d.silent a then
    (((d.set (Reg.mirrorState a) 2).bump (Reg.memberAbsentCount a)).refreshChain).raise 39
  else d

/-- The first valid stitch after absence, or of a hole (R224, R225). -/
def Dev.memberReturned (d : Dev) (a : Nat) : Dev :=
  let st := d.nat (Reg.mirrorState a)
  if d.drivesRows && (st == 2 || st == 3) && !d.silent a then
    ((d.set (Reg.mirrorState a) 1).refreshHops.refreshChain).raiseIf (st == 2) 40
  else d

def execMemberReturned (a : Nat) (s : State) : Res := .next (s.together (s.onDev (·.memberReturned a)))

/-- A bind-off starts (R231): step 1. -/
def Dev.startBindOff (d : Dev) (action : Nat) : Dev :=
  { d with chain := { d.chain with
    bindOff := some (none, action), opened := false, calling := false, assigning := none, claim := none, closing := false,
    slot0 := none,
    incrementalAt := none } }.set Reg.chainState 5

def execBindOff (sleep : Bool) (s : State) : Res :=
  .next (s.onDev (fun d => if d.drivesRows && !d.rowsEnded && !d.chainBusy then d.startBindOff (if sleep then 1 else 0) else d))

/-- Either condition of R227 before the pass of a full cast-on at 100 Mbit/s under automatic rate closes: a port of the walk
has entered Lost since the lead-in began, or the errors of a port have grown by more than 8 since the pass opened. -/
def Dev.fallbackDue (d : Dev) : Bool :=
  d.drivesRows && d.nat Reg.linkRate == 2 && d.nat Reg.linkRateInForce == 0
    && (d.nat Reg.chainState == 1 || d.nat Reg.chainState == 2)
    && (d.chain.lostWalk || (d.chain.opened && (List.zip d.portErrors d.chain.errorsAtOpen).any (fun e => e.2 + 8 < e.1)))

/-- RATE_FALLBACK (R227): a bind-off, after which a full cast-on runs at 25 Mbit/s. -/
def Dev.rateFallback (d : Dev) : Dev :=
  if d.fallbackDue then
    ({ d with chain := { d.chain with fallback := true, restart := true } }.setBit Reg.chainFlags 4 true).startBindOff 0
  else d

def execRateFallback (s : State) : Res := .next (s.onDev (·.rateFallback))

/-- The ports fall silent, every port enters Lost, and the cast-on at 25 Mbit/s begins (R227). -/
def Dev.retrain (d : Dev) : Dev := d.portsLost.beginFullCastOn

/-- A write of LinkRate lets 100 Mbit/s be tried again (R227). -/
def Dev.writeLinkRate (d : Dev) (v : Nat) : Written :=
  if !d.monHead then .error commandRefused
  else .ok ((({ d with chain := { d.chain with fallback := false } } : Dev).setNat Reg.linkRate v).setBit Reg.chainFlags 4 false)

/-- RING_BREAK (R228): the code goes out in the next row that has slot 0 and names that row; flag [10] clears with it. -/
def Dev.ringBreak (d : Dev) : Dev :=
  if d.drivesRows && d.chain.ring && !d.chain.breakDue && 2 ≤ d.chain.ringMisses then
    let d : Dev := { d with chain := { d.chain with breakDue := true, broken := true, ringMisses := 0 } }
    ((d.bump Reg.ringBreakCount).refreshTopology).raise 42
  else d

def execRingBreak (s : State) : Res := .next (s.together (s.onDev (·.ringBreak)))

/-- The head at the effect row (R231): every mirror unassigned; with action 1 the rows end, else they go on. -/
def Dev.headUnbound (d : Dev) (action : Nat) : Dev :=
  ({ d with chain := { d.chain with bindOff := none } } : Dev).clearMirrors.set Reg.chainState (if action == 1 then 0 else 4)

/-- Every stitch of a member's set has come: the eight of its first window, and of its second where it owns one (R187). -/
def Dev.setComplete (d : Dev) (e : SetParts) : Bool :=
  (List.range (if field (d.nat (Reg.memberWindows e.member)) 12 18 == 0x7F then 8 else 16)).all
    (fun n => e.parts.any (fun x => x.1 == 3 * n))

/-- ChannelSet of a mirror: the tick row of the set, then 26 values in list order (Table 8.4). -/
def Dev.writeSet (d : Dev) (a row : Nat) (values : List Nat) : Dev :=
  d.setBlob (Reg.channelSet a).key (leBytes 4 row ++ (List.range 26).flatMap (fun c => leBytes 4 (nth values c % 2 ^ 20)))

/-- MIRROR_SET_WRITE (R235, R236): the set of a member is written only once complete; the head's own is the one it last
took. -/
def Dev.mirrorSet (d : Dev) (a : Nat) : Dev :=
  if !d.drivesRows then d
  else if a == 1 then
    let b := if d.link.next1 then d.link.buffer0 else d.link.buffer1
    if b.inTransit then d.writeSet 1 b.row b.values else d
  else match d.chain.sets.find? (fun e => e.member == a) with
    | some e =>
      if d.setComplete e then
        d.writeSet a e.row ((List.range 26).map (fun c => match e.parts.find? (fun x => x.1 == c) with
          | some x => x.2
          | none => 0))
      else d
    | none => d

def execMirrorSetWrite (a : Nat) (s : State) : Res := .next (s.onDev (·.mirrorSet a))

/-- TICK_ALIGN_UPDATE (R221): a D read from a member whose timing bit stays set; a changed largest D is broadcast. -/
def Dev.tickAlignUpdate (d : Dev) (a delay : Nat) : Dev :=
  match Tab.find a d.chain.timingRows with
  | some r =>
    if d.drivesRows && d.nat Reg.chainState == 4 && 64 ≤ (d.row + 2 ^ 32 - r.toNat) % 2 ^ 32 then
      let d := d.setNat (Reg.memberDelay a) delay
      let now := match d.chain.alignRow with | some (_, v) => v | none => d.nat Reg.tickAlign
      if d.alignValue != now then d.announceAlign d.row else d
    else d
  | none => d

def execTickAlignUpdate (a delay : Nat) (s : State) : Res := .next (s.onDev (·.tickAlignUpdate a delay))

end Sys2Proof.Machine
end

