-- ==== Sys2Proof/Machine/Dictionary.lean ====
section
/-! DEFINITION. The object dictionary as data: type, access class and range of every object the manual tables (R238 to
R240). Ranges that depend on another object or that a rule of its own decides stand with the write behaviours. -/

namespace Sys2Proof.Machine

/-- Table 9.1; no object of the manual has type I64 or F32. -/
inductive ObjType where
  | bool | u8 | u16 | u32 | u64 | i16 | i32
  | vstr (max : Nat)
  | domain (size : Nat)
  deriving DecidableEq, Repr

/-- Table 9.2. -/
inductive Access where
  | const | ro | rw | wo | rwc | rws
  deriving DecidableEq, Repr

/-- The range an object's table states. -/
inductive ObjRange where
  /-- the whole type -/
  | any
  | span (lo hi : Int)
  /-- 0, or lo to hi (R85) -/
  | zeroOr (lo hi : Int)
  | among (vs : List Int)
  /-- reserved bits outside the mask are ignored (R12) -/
  | mask (m : Nat)
  /-- as mask, with bits that always read 1 -/
  | maskSet (m forced : Nat)
  /-- as mask, at least one bit set -/
  | maskSome (m : Nat)
  /-- lo to hi in multiples of step -/
  | step (lo hi step : Int)
  /-- AinConfig (Table 4.9) -/
  | ainConfig
  /-- AinPull (Table 4.9) -/
  | ainPull
  /-- identifier base that must still fit with `plus` added (R254) -/
  | canId (plus : Nat)
  deriving DecidableEq, Repr

/-- One row of an object table: indices, subindices, type, access class, range and default. -/
structure ObjRow where
  lo : Nat
  hi : Nat
  subLo : Nat
  subHi : Nat
  ty : ObjType
  acc : Access
  rng : ObjRange
  /-- default of the registers of the row; 0 where the row's instances differ -/
  dflt : Int
  deriving DecidableEq, Repr

/-- Rows 0 of the object tables, in ascending index and subindex. -/
def objectRows0 : List ObjRow :=
  [ ⟨0x1000, 0x1000, 0x01, 0x01, .u32, .const, .any, 1347180098⟩,
    ⟨0x1000, 0x1000, 0x02, 0x02, .u32, .const, .any, 24⟩,
    ⟨0x1000, 0x1000, 0x03, 0x03, .u8, .const, .any, 2⟩,
    ⟨0x1000, 0x1000, 0x04, 0x04, .u8, .const, .any, 0⟩,
    ⟨0x1000, 0x1000, 0x05, 0x05, .u64, .const, .any, 0⟩,
    ⟨0x1000, 0x1000, 0x06, 0x06, .u32, .ro, .any, 0⟩,
    ⟨0x1000, 0x1000, 0x07, 0x07, .u16, .const, .any, 256⟩,
    ⟨0x1000, 0x1000, 0x08, 0x08, .vstr 32, .rw, .any, 0⟩,
    ⟨0x1000, 0x1000, 0x09, 0x09, .u8, .ro, .any, 0⟩,
    ⟨0x1100, 0x1100, 0x01, 0x01, .u8, .wo, .among [2, 3], 0⟩,
    ⟨0x1100, 0x1100, 0x02, 0x02, .u8, .ro, .any, 0⟩,
    ⟨0x1100, 0x1100, 0x03, 0x03, .u8, .ro, .any, 0⟩,
    ⟨0x1100, 0x1100, 0x04, 0x04, .u16, .ro, .any, 0⟩,
    ⟨0x1100, 0x1100, 0x05, 0x05, .u16, .rw, .maskSet 0x1FF 0x40, 511⟩,
    ⟨0x1100, 0x1100, 0x06, 0x06, .u8, .ro, .any, 1⟩,
    ⟨0x1100, 0x1100, 0x07, 0x07, .u8, .rwc, .mask 0x3, 3⟩,
    ⟨0x1100, 0x1100, 0x08, 0x08, .u16, .ro, .any, 0⟩,
    ⟨0x1100, 0x1100, 0x09, 0x09, .u32, .wo, .any, 0⟩,
    ⟨0x1100, 0x1100, 0x0A, 0x0A, .u32, .ro, .any, 0⟩,
    ⟨0x1100, 0x1100, 0x0B, 0x0B, .u16, .rw, .span 100 5000, 1000⟩,
    ⟨0x1200, 0x1200, 0x01, 0x01, .u32, .wo, .any, 0⟩,
    ⟨0x1200, 0x1200, 0x02, 0x02, .u8, .ro, .any, 0⟩,
    ⟨0x1200, 0x1200, 0x03, 0x03, .u32, .wo, .any, 0⟩,
    ⟨0x1200, 0x1200, 0x04, 0x04, .bool, .ro, .any, 0⟩ ]

/-- Rows 1 of the object tables, in ascending index and subindex. -/
def objectRows1 : List ObjRow :=
  [ ⟨0x1200, 0x1200, 0x05, 0x05, .u32, .wo, .any, 0⟩,
    ⟨0x1200, 0x1200, 0x06, 0x06, .u16, .rwc, .span 60 3600, 600⟩,
    ⟨0x1200, 0x1200, 0x07, 0x07, .u32, .ro, .any, 0⟩,
    ⟨0x1200, 0x1200, 0x08, 0x08, .u8, .wo, .among [1], 0⟩,
    ⟨0x1200, 0x1200, 0x09, 0x09, .u8, .ro, .any, 0⟩,
    ⟨0x1200, 0x1200, 0x0A, 0x0A, .u8, .wo, .among [1], 0⟩,
    ⟨0x1200, 0x1200, 0x0B, 0x0B, .u8, .wo, .among [1], 0⟩,
    ⟨0x1301, 0x1302, 0x01, 0x01, .bool, .rwc, .any, 0⟩,
    ⟨0x1301, 0x1302, 0x02, 0x02, .u16, .rwc, .among [125, 250, 500, 800, 1000], 500⟩,
    ⟨0x1301, 0x1302, 0x03, 0x03, .u16, .rwc, .among [0, 1000, 2000, 4000, 5000, 8000], 2000⟩,
    ⟨0x1301, 0x1302, 0x04, 0x04, .u16, .rwc, .span 500 900, 800⟩,
    ⟨0x1301, 0x1302, 0x05, 0x05, .u16, .rwc, .span 500 900, 750⟩,
    ⟨0x1301, 0x1302, 0x06, 0x06, .bool, .rwc, .any, 1⟩,
    ⟨0x1301, 0x1302, 0x07, 0x07, .u8, .ro, .any, 3⟩,
    ⟨0x1301, 0x1302, 0x08, 0x08, .u8, .ro, .any, 0⟩,
    ⟨0x1301, 0x1302, 0x09, 0x09, .u8, .ro, .any, 0⟩,
    ⟨0x1301, 0x1302, 0x0A, 0x0A, .u32, .ro, .any, 0⟩,
    ⟨0x1301, 0x1302, 0x0B, 0x0B, .u32, .ro, .any, 0⟩,
    ⟨0x1400, 0x1400, 0x01, 0x01, .u8, .rwc, .span 1 127, 1⟩,
    ⟨0x1400, 0x1400, 0x02, 0x02, .u32, .rwc, .canId 127, 1600⟩,
    ⟨0x1400, 0x1400, 0x03, 0x03, .u32, .rwc, .canId 127, 1728⟩,
    ⟨0x1400, 0x1400, 0x04, 0x04, .u32, .rwc, .canId 127, 128⟩,
    ⟨0x1400, 0x1400, 0x05, 0x05, .u16, .rw, .span 100 10000, 1000⟩,
    ⟨0x1400, 0x1400, 0x06, 0x06, .u32, .ro, .any, 0⟩ ]

/-- Rows 2 of the object tables, in ascending index and subindex. -/
def objectRows2 : List ObjRow :=
  [ ⟨0x1400, 0x1400, 0x07, 0x07, .u32, .ro, .any, 0⟩,
    ⟨0x1400, 0x1400, 0x08, 0x08, .u32, .ro, .any, 0⟩,
    ⟨0x1400, 0x1400, 0x09, 0x09, .u32, .ro, .any, 0⟩,
    ⟨0x1501, 0x1540, 0x01, 0x01, .u8, .rw, .span 0 2, 0⟩,
    ⟨0x1501, 0x1540, 0x02, 0x02, .u8, .rw, .span 0 2, 0⟩,
    ⟨0x1501, 0x1540, 0x03, 0x03, .u32, .rw, .canId 0, 0⟩,
    ⟨0x1501, 0x1540, 0x04, 0x04, .u16, .rw, .span 1 60000, 100⟩,
    ⟨0x1501, 0x1540, 0x05, 0x05, .u8, .rw, .span 0 6, 0⟩,
    ⟨0x1501, 0x1540, 0x06, 0x06, .u16, .rw, .span 1 1000, 1⟩,
    ⟨0x1501, 0x1540, 0x07, 0x07, .u8, .rw, .span 0 16, 0⟩,
    ⟨0x1501, 0x1540, 0x08, 0x08, .u8, .rw, .span 0 2, 1⟩,
    ⟨0x1501, 0x1540, 0x09, 0x09, .u32, .ro, .any, 0⟩,
    ⟨0x1501, 0x1540, 0x0A, 0x19, .u32, .rw, .mask 0xFFFFFF80, 0⟩,
    ⟨0x1700, 0x1700, 0x01, 0x01, .bool, .rwc, .any, 1⟩,
    ⟨0x1700, 0x1700, 0x02, 0x02, .bool, .rwc, .any, 1⟩,
    ⟨0x1700, 0x1700, 0x03, 0x03, .bool, .rwc, .any, 0⟩,
    ⟨0x1700, 0x1700, 0x04, 0x04, .u32, .ro, .any, 0⟩,
    ⟨0x1700, 0x1700, 0x05, 0x05, .u32, .ro, .any, 0⟩,
    ⟨0x1700, 0x1700, 0x06, 0x06, .u32, .ro, .any, 0⟩,
    ⟨0x1800, 0x1800, 0x01, 0x01, .u8, .rw, .span 0 5, 2⟩,
    ⟨0x1800, 0x1800, 0x02, 0x02, .u16, .rw, .span 10 1000, 50⟩,
    ⟨0x1800, 0x1800, 0x03, 0x03, .u8, .ro, .any, 0⟩,
    ⟨0x1800, 0x1800, 0x04, 0x04, .u32, .ro, .any, 0⟩,
    ⟨0x1800, 0x1800, 0x05, 0x05, .u32, .ro, .any, 0⟩ ]

/-- Rows 3 of the object tables, in ascending index and subindex. -/
def objectRows3 : List ObjRow :=
  [ ⟨0x1A00, 0x1A00, 0x01, 0x01, .u8, .wo, .mask 0x7F, 0⟩,
    ⟨0x1A00, 0x1A00, 0x02, 0x02, .u8, .rw, .mask 0x7F, 1⟩,
    ⟨0x1A00, 0x1A00, 0x03, 0x03, .u8, .ro, .any, 0⟩,
    ⟨0x1A00, 0x1A00, 0x04, 0x04, .u32, .ro, .any, 0⟩,
    ⟨0x1A00, 0x1A00, 0x05, 0x05, .u16, .rw, .span 10 2000, 500⟩,
    ⟨0x1A00, 0x1A00, 0x06, 0x06, .u32, .ro, .any, 0⟩,
    ⟨0x1A00, 0x1A00, 0x07, 0x07, .u16, .ro, .any, 0⟩,
    ⟨0x2000, 0x2000, 0x01, 0x01, .u8, .rws, .span 8 24, 24⟩,
    ⟨0x2000, 0x2000, 0x02, 0x02, .u8, .rw, .span 0 4, 2⟩,
    ⟨0x2000, 0x2000, 0x03, 0x03, .u8, .ro, .any, 2⟩,
    ⟨0x2000, 0x2000, 0x04, 0x04, .u8, .rw, .span 0 2, 0⟩,
    ⟨0x2000, 0x2000, 0x05, 0x05, .u8, .ro, .any, 0⟩,
    ⟨0x2000, 0x2000, 0x06, 0x06, .u32, .ro, .any, 0⟩,
    ⟨0x2000, 0x2000, 0x07, 0x07, .u32, .ro, .any, 0⟩,
    ⟨0x2011, 0x2012, 0x01, 0x01, .i32, .ro, .any, 0⟩,
    ⟨0x2011, 0x2012, 0x02, 0x02, .i32, .ro, .any, 0⟩,
    ⟨0x2011, 0x2012, 0x03, 0x03, .u32, .rwc, .span 10000 10000000, 100000⟩,
    ⟨0x2011, 0x2012, 0x04, 0x04, .bool, .rwc, .any, 0⟩,
    ⟨0x2011, 0x2012, 0x05, 0x05, .bool, .rwc, .any, 1⟩,
    ⟨0x2011, 0x2012, 0x06, 0x06, .u8, .ro, .any, 0⟩,
    ⟨0x2020, 0x2020, 0x01, 0x01, .u8, .rw, .span 0 3, 0⟩,
    ⟨0x2020, 0x2020, 0x02, 0x02, .u8, .rw, .span 0 2, 2⟩,
    ⟨0x2020, 0x2020, 0x03, 0x03, .u8, .rw, .span 0 2, 2⟩,
    ⟨0x2020, 0x2020, 0x04, 0x04, .u8, .ro, .any, 0⟩ ]

/-- Rows 4 of the object tables, in ascending index and subindex. -/
def objectRows4 : List ObjRow :=
  [ ⟨0x2020, 0x2020, 0x05, 0x05, .u16, .rw, .span 1 65535, 8000⟩,
    ⟨0x2020, 0x2020, 0x06, 0x06, .u8, .wo, .among [1], 0⟩,
    ⟨0x2020, 0x2020, 0x07, 0x07, .u8, .wo, .span 1 8, 0⟩,
    ⟨0x2020, 0x2020, 0x08, 0x08, .u32, .ro, .any, 0⟩,
    ⟨0x2020, 0x2020, 0x09, 0x09, .u32, .rw, .span 1000000 4600000, 2500000⟩,
    ⟨0x2020, 0x2020, 0x0A, 0x0A, .u32, .ro, .any, 0⟩,
    ⟨0x2030, 0x2030, 0x01, 0x01, .u8, .wo, .among [1], 0⟩,
    ⟨0x2030, 0x2030, 0x02, 0x02, .u8, .ro, .any, 0⟩,
    ⟨0x2030, 0x2030, 0x03, 0x03, .i16, .ro, .any, 0⟩,
    ⟨0x2030, 0x2030, 0x04, 0x04, .u32, .ro, .any, 1073741824⟩,
    ⟨0x2030, 0x2030, 0x05, 0x05, .i16, .ro, .any, 0⟩,
    ⟨0x2030, 0x2030, 0x06, 0x06, .u32, .ro, .any, 1073741824⟩,
    ⟨0x2040, 0x2040, 0x01, 0x01, .u8, .rw, .span 0 1, 0⟩,
    ⟨0x2040, 0x2040, 0x02, 0x02, .u8, .rw, .mask 0xF, 1⟩,
    ⟨0x2040, 0x2040, 0x03, 0x03, .u16, .rw, .span 0 1212, 606⟩,
    ⟨0x2040, 0x2040, 0x04, 0x04, .u8, .wo, .among [1, 2], 0⟩,
    ⟨0x2040, 0x2040, 0x05, 0x05, .u8, .ro, .any, 0⟩,
    ⟨0x2040, 0x2040, 0x06, 0x06, .u16, .ro, .any, 0⟩,
    ⟨0x2040, 0x2040, 0x07, 0x07, .u32, .ro, .any, 0⟩,
    ⟨0x2040, 0x2040, 0x08, 0x08, .domain 131004, .ro, .any, 0⟩,
    ⟨0x2050, 0x2050, 0x01, 0x01, .bool, .rws, .any, 1⟩,
    ⟨0x2050, 0x2050, 0x02, 0x02, .u16, .rws, .span 5 100, 15⟩,
    ⟨0x2050, 0x2050, 0x03, 0x03, .u8, .rws, .span 1 4, 1⟩,
    ⟨0x2050, 0x2050, 0x04, 0x04, .u32, .ro, .any, 0⟩ ]

/-- Rows 5 of the object tables, in ascending index and subindex. -/
def objectRows5 : List ObjRow :=
  [ ⟨0x2050, 0x2050, 0x05, 0x05, .u32, .ro, .any, 0⟩,
    ⟨0x2050, 0x2050, 0x06, 0x06, .u32, .ro, .any, 0⟩,
    ⟨0x2050, 0x2050, 0x07, 0x07, .u32, .ro, .any, 0⟩,
    ⟨0x2050, 0x2050, 0x08, 0x08, .u16, .rws, .span 50 5000, 500⟩,
    ⟨0x2050, 0x2050, 0x09, 0x09, .i32, .ro, .any, 0⟩,
    ⟨0x2050, 0x2050, 0x0A, 0x0A, .u8, .ro, .any, 0⟩,
    ⟨0x2060, 0x2060, 0x01, 0x01, .u8, .rws, .span 0 255, 225⟩,
    ⟨0x2060, 0x2060, 0x02, 0x02, .u8, .rws, .span 0 250, 150⟩,
    ⟨0x2060, 0x2060, 0x03, 0x03, .u8, .rws, .span 0 63, 3⟩,
    ⟨0x2060, 0x2060, 0x04, 0x04, .u32, .ro, .any, 0⟩,
    ⟨0x2060, 0x2060, 0x05, 0x05, .u32, .ro, .any, 0⟩,
    ⟨0x2060, 0x2060, 0x06, 0x06, .u32, .ro, .any, 0⟩,
    ⟨0x2060, 0x2060, 0x07, 0x07, .u32, .ro, .any, 0⟩,
    ⟨0x2060, 0x2060, 0x08, 0x08, .u8, .wo, .any, 0⟩,
    ⟨0x2060, 0x2060, 0x09, 0x09, .u32, .ro, .any, 0⟩,
    ⟨0x2070, 0x2070, 0x01, 0x01, .u16, .rws, .span 0 3600, 60⟩,
    ⟨0x2070, 0x2070, 0x02, 0x02, .u16, .rws, .span 20 300, 100⟩,
    ⟨0x2070, 0x2070, 0x03, 0x03, .u8, .wo, .among [1], 0⟩,
    ⟨0x2070, 0x2070, 0x04, 0x04, .u32, .ro, .any, 0⟩,
    ⟨0x2070, 0x2070, 0x05, 0x05, .u32, .ro, .any, 0⟩,
    ⟨0x2070, 0x2070, 0x06, 0x06, .u16, .rwc, .span 0 1000, 100⟩,
    ⟨0x2070, 0x2070, 0x07, 0x07, .u32, .ro, .any, 0⟩,
    ⟨0x2080, 0x2080, 0x01, 0x01, .bool, .rw, .any, 0⟩,
    ⟨0x2080, 0x2080, 0x02, 0x02, .u8, .rw, .span 0 6, 3⟩ ]

/-- Rows 6 of the object tables, in ascending index and subindex. -/
def objectRows6 : List ObjRow :=
  [ ⟨0x2080, 0x2080, 0x03, 0x03, .u16, .rw, .span 0 0xFFF, 3482⟩,
    ⟨0x2080, 0x2080, 0x04, 0x04, .u16, .rw, .span 0 0xFFF, 2048⟩,
    ⟨0x2080, 0x2080, 0x05, 0x05, .u16, .rw, .any, 941⟩,
    ⟨0x2080, 0x2080, 0x06, 0x06, .u16, .rw, .any, 3628⟩,
    ⟨0x2080, 0x2080, 0x07, 0x07, .u8, .ro, .any, 0⟩,
    ⟨0x2090, 0x2090, 0x01, 0x01, .i16, .rw, .any, -600⟩,
    ⟨0x2090, 0x2090, 0x02, 0x02, .i16, .rw, .any, 1800⟩,
    ⟨0x2090, 0x2090, 0x03, 0x03, .u8, .rw, .span 1 255, 3⟩,
    ⟨0x2090, 0x2090, 0x04, 0x04, .i16, .ro, .any, -32768⟩,
    ⟨0x2090, 0x2090, 0x05, 0x05, .u8, .ro, .any, 0⟩,
    ⟨0x2090, 0x2090, 0x06, 0x06, .i16, .ro, .any, -32768⟩,
    ⟨0x2090, 0x2090, 0x07, 0x07, .u8, .ro, .any, 0⟩,
    ⟨0x2090, 0x2090, 0x08, 0x08, .u8, .rw, .any, 0⟩,
    ⟨0x20A0, 0x20A0, 0x01, 0x01, .u16, .rw, .span 1 600, 10⟩,
    ⟨0x20A0, 0x20A0, 0x02, 0x02, .i16, .ro, .any, 250⟩,
    ⟨0x20A0, 0x20A0, 0x03, 0x03, .u16, .ro, .any, 7⟩,
    ⟨0x20A0, 0x20A0, 0x04, 0x04, .u32, .ro, .any, 0⟩,
    ⟨0x20A1, 0x20A3, 0x01, 0x01, .domain 216, .const, .any, 0⟩,
    ⟨0x20B1, 0x20B6, 0x01, 0x01, .domain 216, .rwc, .any, 0⟩,
    ⟨0x20B1, 0x20B6, 0x02, 0x02, .bool, .rwc, .any, 0⟩,
    ⟨0x2E00, 0x2E00, 0x01, 0x01, .u8, .rw, .span 0 2, 0⟩,
    ⟨0x2E00, 0x2E00, 0x02, 0x02, .u8, .ro, .any, 0⟩,
    ⟨0x2E00, 0x2E00, 0x03, 0x03, .u8, .ro, .any, 255⟩,
    ⟨0x2E00, 0x2E00, 0x04, 0x04, .u32, .ro, .any, 520319⟩ ]

/-- Rows 7 of the object tables, in ascending index and subindex. -/
def objectRows7 : List ObjRow :=
  [ ⟨0x2E00, 0x2E00, 0x05, 0x05, .u32, .ro, .any, 0⟩,
    ⟨0x2E00, 0x2E00, 0x06, 0x06, .u32, .ro, .any, 1000000⟩,
    ⟨0x2E00, 0x2E00, 0x07, 0x07, .u16, .ro, .any, 0⟩,
    ⟨0x2E00, 0x2E00, 0x08, 0x08, .u8, .ro, .any, 0⟩,
    ⟨0x2E00, 0x2E00, 0x09, 0x09, .u16, .ro, .any, 0⟩,
    ⟨0x2E00, 0x2E00, 0x0A, 0x0A, .u32, .ro, .any, 0⟩,
    ⟨0x2E00, 0x2E00, 0x0B, 0x0B, .u8, .rw, .span 1 60, 1⟩,
    ⟨0x2E00, 0x2E00, 0x0C, 0x0C, .u32, .ro, .any, 0⟩,
    ⟨0x2E00, 0x2E00, 0x0D, 0x0D, .u32, .ro, .any, 0⟩,
    ⟨0x2E01, 0x2E03, 0x01, 0x01, .u8, .ro, .any, 0⟩,
    ⟨0x2E01, 0x2E03, 0x02, 0x02, .u32, .ro, .any, 0⟩,
    ⟨0x2E01, 0x2E03, 0x03, 0x03, .u32, .ro, .any, 0⟩,
    ⟨0x2E01, 0x2E03, 0x04, 0x04, .u32, .ro, .any, 0⟩,
    ⟨0x2E01, 0x2E03, 0x05, 0x05, .u32, .ro, .any, 0⟩,
    ⟨0x2E01, 0x2E03, 0x06, 0x06, .u32, .ro, .any, 0⟩,
    ⟨0x2E01, 0x2E03, 0x07, 0x07, .u32, .ro, .any, 0⟩,
    ⟨0x2E01, 0x2E03, 0x08, 0x08, .u32, .ro, .any, 0⟩,
    ⟨0x2E01, 0x2E03, 0x09, 0x09, .u32, .ro, .any, 0⟩,
    ⟨0x2E01, 0x2E03, 0x0A, 0x0A, .u32, .ro, .any, 0⟩,
    ⟨0x2E01, 0x2E03, 0x0B, 0x0B, .u32, .ro, .any, 0⟩,
    ⟨0x2E01, 0x2E03, 0x0C, 0x0C, .u32, .ro, .any, 0⟩,
    ⟨0x2E01, 0x2E03, 0x0D, 0x0D, .u32, .ro, .any, 0⟩,
    ⟨0x2E01, 0x2E03, 0x0E, 0x0E, .u32, .ro, .any, 0⟩,
    ⟨0x2E01, 0x2E03, 0x0F, 0x0F, .u32, .ro, .any, 0⟩ ]

/-- Rows 8 of the object tables, in ascending index and subindex. -/
def objectRows8 : List ObjRow :=
  [ ⟨0x2E01, 0x2E03, 0x10, 0x10, .u8, .wo, .among [1], 0⟩,
    ⟨0x2F00, 0x2F00, 0x01, 0x01, .u8, .ro, .any, 0⟩,
    ⟨0x2F00, 0x2F00, 0x02, 0x02, .u8, .ro, .any, 0⟩,
    ⟨0x2F00, 0x2F00, 0x03, 0x03, .u16, .rw, .zeroOr 100 60000, 5000⟩,
    ⟨0x2F00, 0x2F00, 0x04, 0x04, .u8, .ro, .any, 0⟩,
    ⟨0x2F00, 0x2F00, 0x05, 0x05, .i16, .ro, .any, 250⟩,
    ⟨0x2F00, 0x2F00, 0x06, 0x06, .u8, .ro, .any, 2⟩,
    ⟨0x2F00, 0x2F00, 0x07, 0x07, .u8, .wo, .among [1], 0⟩,
    ⟨0x3001, 0x3018, 0x01, 0x01, .i32, .ro, .any, 0⟩,
    ⟨0x3001, 0x3018, 0x02, 0x02, .i32, .ro, .any, 0⟩,
    ⟨0x3001, 0x3018, 0x03, 0x03, .u8, .ro, .any, 0⟩,
    ⟨0x3001, 0x3018, 0x04, 0x04, .i32, .ro, .any, 0⟩,
    ⟨0x3001, 0x3018, 0x05, 0x05, .i32, .ro, .any, 0⟩,
    ⟨0x3001, 0x3018, 0x06, 0x06, .u16, .ro, .any, 0⟩,
    ⟨0x3001, 0x3018, 0x07, 0x07, .u8, .ro, .any, 0⟩,
    ⟨0x3101, 0x3108, 0x01, 0x01, .u16, .ro, .any, 0⟩,
    ⟨0x3101, 0x3108, 0x02, 0x02, .i32, .ro, .any, 0⟩,
    ⟨0x3101, 0x3108, 0x03, 0x03, .i16, .ro, .any, -32768⟩,
    ⟨0x3101, 0x3108, 0x04, 0x04, .u8, .ro, .any, 2⟩,
    ⟨0x3101, 0x3108, 0x05, 0x05, .u16, .rw, .ainConfig, 1793⟩,
    ⟨0x3101, 0x3108, 0x06, 0x06, .u8, .rw, .ainPull, 0⟩,
    ⟨0x3101, 0x3108, 0x07, 0x07, .u32, .rw, .span 1000 1000000, 1000⟩,
    ⟨0x3101, 0x3108, 0x08, 0x08, .u32, .rw, .span 100 1000000, 10000⟩,
    ⟨0x3101, 0x3108, 0x09, 0x09, .u16, .rw, .span 1000 10000, 3435⟩ ]

/-- Rows 9 of the object tables, in ascending index and subindex. -/
def objectRows9 : List ObjRow :=
  [ ⟨0x3101, 0x3108, 0x0A, 0x0A, .u32, .rw, .span 100 1000000, 10000⟩,
    ⟨0x3101, 0x3108, 0x0B, 0x0B, .u16, .ro, .any, 0⟩,
    ⟨0x3400, 0x3400, 0x01, 0x01, .u32, .rw, .mask 0xFFFFFF, 0⟩,
    ⟨0x3400, 0x3400, 0x02, 0x02, .u32, .ro, .any, 0⟩,
    ⟨0x3400, 0x3400, 0x03, 0x03, .u16, .rw, .span 0 3600, 60⟩,
    ⟨0x3400, 0x3400, 0x04, 0x04, .u8, .rw, .span 0 2, 0⟩,
    ⟨0x3400, 0x3400, 0x05, 0x05, .u8, .ro, .any, 0⟩,
    ⟨0x3400, 0x3400, 0x06, 0x06, .u16, .rw, .span 2000 4500, 3000⟩,
    ⟨0x3400, 0x3400, 0x07, 0x07, .u16, .rw, .span 100 1200, 1200⟩,
    ⟨0x3400, 0x3400, 0x08, 0x08, .u16, .ro, .any, 0⟩,
    ⟨0x3400, 0x3400, 0x09, 0x09, .u8, .ro, .any, 16⟩,
    ⟨0x3400, 0x3400, 0x0A, 0x0A, .i16, .rw, .span 600 1250, 1100⟩,
    ⟨0x3400, 0x3400, 0x0B, 0x0B, .u32, .ro, .any, 0⟩,
    ⟨0x3400, 0x3400, 0x0C, 0x0C, .bool, .ro, .any, 0⟩,
    ⟨0x3400, 0x3400, 0x0D, 0x0D, .u32, .ro, .any, 0⟩,
    ⟨0x3410, 0x3410, 0x01, 0x01, .u8, .wo, .among [1], 0⟩,
    ⟨0x3410, 0x3410, 0x02, 0x02, .u8, .ro, .any, 0⟩,
    ⟨0x3410, 0x3410, 0x03, 0x03, .u8, .ro, .any, 0⟩,
    ⟨0x3411, 0x3411, 0x01, 0x19, .u32, .ro, .any, 0⟩,
    ⟨0x3412, 0x3412, 0x01, 0x19, .u32, .ro, .any, 0⟩,
    ⟨0x3413, 0x3413, 0x01, 0x18, .u32, .ro, .any, 0⟩,
    ⟨0x3440, 0x3440, 0x01, 0x01, .u8, .rw, .span 0 2, 0⟩,
    ⟨0x3440, 0x3440, 0x02, 0x02, .u8, .wo, .among [1], 0⟩,
    ⟨0x3440, 0x3440, 0x03, 0x03, .u8, .rw, .span 0 2, 0⟩ ]

/-- Rows 10 of the object tables, in ascending index and subindex. -/
def objectRows10 : List ObjRow :=
  [ ⟨0x3440, 0x3440, 0x04, 0x04, .u8, .rw, .span 0 1, 0⟩,
    ⟨0x3440, 0x3440, 0x05, 0x05, .u8, .rw, .span 1 64, 16⟩,
    ⟨0x3440, 0x3440, 0x06, 0x06, .u32, .rw, .mask 0xFFFFFF, 16777215⟩,
    ⟨0x3440, 0x3440, 0x07, 0x07, .u8, .ro, .any, 0⟩,
    ⟨0x3440, 0x3440, 0x08, 0x08, .u32, .ro, .any, 0⟩,
    ⟨0x3441, 0x3441, 0x01, 0x08, .u16, .rw, .span 0 8000, 0⟩,
    ⟨0x3442, 0x3442, 0x01, 0x08, .u16, .rw, .any, 64⟩,
    ⟨0x3501, 0x3518, 0x01, 0x08, .i32, .ro, .any, -2147483648⟩,
    ⟨0x3501, 0x3518, 0x09, 0x10, .i32, .ro, .any, -2147483648⟩,
    ⟨0x3501, 0x3518, 0x11, 0x11, .u16, .ro, .any, 0⟩,
    ⟨0x3501, 0x3518, 0x12, 0x12, .u32, .ro, .any, 0⟩,
    ⟨0x3600, 0x3600, 0x01, 0x01, .u64, .ro, .any, 0⟩,
    ⟨0x3600, 0x3600, 0x02, 0x02, .u64, .ro, .any, 0⟩,
    ⟨0x3600, 0x3600, 0x03, 0x03, .u64, .ro, .any, 0⟩,
    ⟨0x3600, 0x3600, 0x04, 0x04, .u64, .ro, .any, 0⟩,
    ⟨0x3600, 0x3600, 0x05, 0x05, .u32, .ro, .any, 32⟩,
    ⟨0x3600, 0x3600, 0x06, 0x06, .u8, .rwc, .span 0 2, 0⟩,
    ⟨0x3600, 0x3600, 0x07, 0x07, .u32, .rwc, .mask 0x1F, 0⟩,
    ⟨0x3600, 0x3600, 0x08, 0x08, .domain 128, .wo, .any, 0⟩,
    ⟨0x3610, 0x3610, 0x01, 0x18, .u32, .ro, .any, 0⟩,
    ⟨0x3611, 0x3611, 0x01, 0x01, .u32, .ro, .any, 0⟩,
    ⟨0x3620, 0x3620, 0x01, 0x01, .u16, .rw, .span 10 3600, 60⟩,
    ⟨0x4000, 0x4000, 0x01, 0x01, .u8, .ro, .any, 0⟩,
    ⟨0x4000, 0x4000, 0x02, 0x02, .u8, .ro, .any, 0⟩ ]

/-- Rows 11 of the object tables, in ascending index and subindex. -/
def objectRows11 : List ObjRow :=
  [ ⟨0x4000, 0x4000, 0x03, 0x03, .u8, .ro, .any, 0⟩,
    ⟨0x4000, 0x4000, 0x04, 0x04, .u8, .ro, .any, 63⟩,
    ⟨0x4000, 0x4000, 0x05, 0x05, .u8, .ro, .any, 0⟩,
    ⟨0x4000, 0x4000, 0x06, 0x06, .u8, .ro, .any, 0⟩,
    ⟨0x4000, 0x4000, 0x07, 0x07, .u8, .wo, .mask 0x3F, 0⟩,
    ⟨0x4000, 0x4000, 0x08, 0x08, .bool, .rw, .any, 1⟩,
    ⟨0x4000, 0x4000, 0x09, 0x09, .u16, .rw, .span 5000 25000, 20000⟩,
    ⟨0x4000, 0x4000, 0x0A, 0x0A, .u16, .rw, .span 1000 23000, 12000⟩,
    ⟨0x4000, 0x4000, 0x0B, 0x0B, .u16, .rw, .span 50 10000, 200⟩,
    ⟨0x4000, 0x4000, 0x0C, 0x0C, .u16, .rw, .span 500 20000, 2000⟩,
    ⟨0x4000, 0x4000, 0x0D, 0x0D, .u16, .rw, .span 500 20000, 12000⟩,
    ⟨0x4000, 0x4000, 0x0E, 0x0E, .u16, .rw, .span 150 1200, 250⟩,
    ⟨0x4000, 0x4000, 0x0F, 0x0F, .u16, .rw, .span 150 1200, 600⟩,
    ⟨0x4000, 0x4000, 0x10, 0x10, .u8, .rw, .span 4 40, 12⟩,
    ⟨0x4000, 0x4000, 0x11, 0x11, .u32, .rwc, .span 250 5000, 1000⟩,
    ⟨0x4000, 0x4000, 0x12, 0x12, .u16, .rwc, .span 1000 25000, 25000⟩,
    ⟨0x4000, 0x4000, 0x13, 0x13, .u16, .rwc, .span 5000 40000, 40000⟩,
    ⟨0x4000, 0x4000, 0x14, 0x14, .u32, .rwc, .span 1000 150000, 150000⟩,
    ⟨0x4000, 0x4000, 0x15, 0x15, .u32, .rwc, .span 10000 3600000, 3600000⟩,
    ⟨0x4000, 0x4000, 0x16, 0x16, .u32, .ro, .any, 0⟩,
    ⟨0x4000, 0x4000, 0x17, 0x17, .u32, .ro, .any, 0⟩,
    ⟨0x4000, 0x4000, 0x18, 0x18, .u8, .rwc, .span 10 100, 35⟩,
    ⟨0x4000, 0x4000, 0x19, 0x19, .u8, .rwc, .span 4 255, 20⟩,
    ⟨0x4000, 0x4000, 0x1A, 0x1A, .u16, .rwc, .span 500 10000, 2000⟩ ]

/-- Rows 12 of the object tables, in ascending index and subindex. -/
def objectRows12 : List ObjRow :=
  [ ⟨0x4000, 0x4000, 0x1B, 0x1B, .u16, .rw, .span 1 65535, 2000⟩,
    ⟨0x4000, 0x4000, 0x1C, 0x1C, .u16, .rw, .span 0 65535, 5000⟩,
    ⟨0x4000, 0x4000, 0x1D, 0x1D, .u16, .rwc, .span 20 200, 80⟩,
    ⟨0x4000, 0x4000, 0x1E, 0x1E, .u16, .rw, .span 100 60000, 1000⟩,
    ⟨0x4000, 0x4000, 0x1F, 0x1F, .i16, .rwc, .span 600 1250, 1100⟩,
    ⟨0x4000, 0x4000, 0x20, 0x20, .u16, .rwc, .span 5 100, 20⟩,
    ⟨0x4000, 0x4000, 0x21, 0x21, .i16, .rwc, .span 0 800, 450⟩,
    ⟨0x4000, 0x4000, 0x22, 0x22, .u16, .rwc, .span 5 100, 10⟩,
    ⟨0x4000, 0x4000, 0x23, 0x23, .u8, .rwc, .span 0 16, 8⟩,
    ⟨0x4000, 0x4000, 0x24, 0x24, .u8, .ro, .any, 0⟩,
    ⟨0x4000, 0x4000, 0x25, 0x25, .i32, .ro, .any, 0⟩,
    ⟨0x4000, 0x4000, 0x26, 0x26, .i32, .ro, .any, 0⟩,
    ⟨0x4000, 0x4000, 0x27, 0x27, .i32, .ro, .any, 0⟩,
    ⟨0x4000, 0x4000, 0x28, 0x28, .i32, .ro, .any, 0⟩,
    ⟨0x4000, 0x4000, 0x29, 0x29, .u8, .ro, .any, 0⟩,
    ⟨0x4000, 0x4000, 0x2A, 0x2A, .u8, .wo, .among [1], 0⟩,
    ⟨0x4000, 0x4000, 0x2B, 0x2B, .u32, .ro, .any, 0⟩,
    ⟨0x4000, 0x4000, 0x2C, 0x2C, .u32, .ro, .any, 0⟩,
    ⟨0x4000, 0x4000, 0x2D, 0x2D, .u8, .rwc, .maskSome 0x3F, 63⟩,
    ⟨0x4000, 0x4000, 0x30, 0x30, .u16, .rwc, .step 400 2200 10, 1000⟩,
    ⟨0x4000, 0x4000, 0x31, 0x31, .bool, .rw, .any, 0⟩,
    ⟨0x4000, 0x4000, 0x32, 0x32, .bool, .rw, .any, 0⟩,
    ⟨0x4000, 0x4000, 0x33, 0x33, .u32, .ro, .any, 0⟩,
    ⟨0x4000, 0x4000, 0x34, 0x34, .bool, .rwc, .any, 0⟩ ]

/-- Rows 13 of the object tables, in ascending index and subindex. -/
def objectRows13 : List ObjRow :=
  [ ⟨0x4000, 0x4000, 0x35, 0x35, .u8, .ro, .any, 0⟩,
    ⟨0x4000, 0x4000, 0x36, 0x36, .u32, .ro, .any, 0⟩,
    ⟨0x4101, 0x4106, 0x01, 0x01, .i32, .ro, .any, 0⟩,
    ⟨0x4101, 0x4106, 0x02, 0x02, .i32, .ro, .any, 0⟩,
    ⟨0x4101, 0x4106, 0x03, 0x03, .u32, .ro, .any, 0⟩,
    ⟨0x4101, 0x4106, 0x04, 0x04, .u8, .ro, .any, 0⟩,
    ⟨0x4101, 0x4106, 0x05, 0x05, .u8, .ro, .any, 0⟩,
    ⟨0x4101, 0x4106, 0x06, 0x06, .u16, .ro, .any, 2000⟩,
    ⟨0x4101, 0x4106, 0x07, 0x07, .u8, .ro, .any, 0⟩,
    ⟨0x4101, 0x4106, 0x08, 0x08, .u8, .ro, .any, 0⟩,
    ⟨0x4101, 0x4106, 0x09, 0x09, .u32, .ro, .any, 0⟩,
    ⟨0x4101, 0x4106, 0x0A, 0x0A, .u32, .ro, .any, 0⟩,
    ⟨0x4400, 0x4400, 0x01, 0x01, .u8, .ro, .any, 0⟩,
    ⟨0x4400, 0x4400, 0x02, 0x02, .u8, .ro, .any, 0⟩,
    ⟨0x4400, 0x4400, 0x03, 0x03, .u8, .rw, .span 0 1, 0⟩,
    ⟨0x4400, 0x4400, 0x04, 0x04, .u8, .ro, .any, 0⟩,
    ⟨0x4400, 0x4400, 0x05, 0x05, .u32, .rwc, .zeroOr 500 150000, 0⟩,
    ⟨0x4400, 0x4400, 0x06, 0x06, .u16, .rw, .span 15000 55000, 18000⟩,
    ⟨0x4400, 0x4400, 0x07, 0x07, .u32, .ro, .any, 0⟩,
    ⟨0x4400, 0x4400, 0x08, 0x08, .u8, .rw, .mask 0x3, 3⟩,
    ⟨0x4400, 0x4400, 0x09, 0x09, .u16, .rw, .span 100 5000, 500⟩,
    ⟨0x4400, 0x4400, 0x0A, 0x0A, .u16, .rw, .span 50 2000, 250⟩,
    ⟨0x4400, 0x4400, 0x0B, 0x0B, .u16, .rw, .span 2 1000, 10⟩,
    ⟨0x4400, 0x4400, 0x0C, 0x0C, .u8, .rw, .span 2 20, 5⟩ ]

/-- Rows 14 of the object tables, in ascending index and subindex. -/
def objectRows14 : List ObjRow :=
  [ ⟨0x4400, 0x4400, 0x0D, 0x0D, .u32, .ro, .any, 0⟩,
    ⟨0x4400, 0x4400, 0x0E, 0x0E, .u32, .rwc, .span 20000 110000, 30000⟩,
    ⟨0x4400, 0x4400, 0x0F, 0x0F, .u16, .rw, .span 100 5000, 500⟩,
    ⟨0x4400, 0x4400, 0x10, 0x10, .u32, .ro, .any, 0⟩,
    ⟨0x4400, 0x4400, 0x11, 0x11, .u32, .ro, .any, 0⟩,
    ⟨0x4400, 0x4400, 0x13, 0x13, .u32, .rwc, .span 10000 240000, 240000⟩,
    ⟨0x4400, 0x4400, 0x14, 0x14, .i32, .ro, .any, 0⟩,
    ⟨0x4400, 0x4400, 0x15, 0x15, .i32, .ro, .any, 0⟩,
    ⟨0x4400, 0x4400, 0x16, 0x16, .u8, .ro, .any, 0⟩,
    ⟨0x4400, 0x4400, 0x17, 0x17, .u16, .rws, .span 2800 3800, 3300⟩,
    ⟨0x4410, 0x4410, 0x01, 0x01, .bool, .rw, .any, 1⟩,
    ⟨0x4410, 0x4410, 0x02, 0x02, .u8, .ro, .any, 0⟩,
    ⟨0x4410, 0x4410, 0x03, 0x03, .u16, .rws, .span 3500 4450, 4200⟩,
    ⟨0x4410, 0x4410, 0x04, 0x04, .u32, .rws, .span 20000 110000, 100800⟩,
    ⟨0x4410, 0x4410, 0x05, 0x05, .u32, .rws, .span 100 30000, 10000⟩,
    ⟨0x4410, 0x4410, 0x06, 0x06, .u32, .rwc, .span 1000 500000, 20000⟩,
    ⟨0x4410, 0x4410, 0x07, 0x07, .u16, .rws, .span 1500 2800, 2000⟩,
    ⟨0x4410, 0x4410, 0x08, 0x08, .u16, .rws, .span 10 500, 50⟩,
    ⟨0x4410, 0x4410, 0x09, 0x09, .u16, .rws, .span 2500 3400, 3000⟩,
    ⟨0x4410, 0x4410, 0x0A, 0x0A, .u16, .rws, .span 50 5000, 1000⟩,
    ⟨0x4410, 0x4410, 0x0B, 0x0B, .u16, .rws, .span 1 600, 60⟩,
    ⟨0x4410, 0x4410, 0x0C, 0x0C, .u16, .rws, .span 1 600, 120⟩,
    ⟨0x4410, 0x4410, 0x0D, 0x0D, .u16, .rws, .span 10 1440, 600⟩,
    ⟨0x4410, 0x4410, 0x0E, 0x0E, .u16, .rw, .span 10 600, 120⟩ ]

/-- Rows 15 of the object tables, in ascending index and subindex. -/
def objectRows15 : List ObjRow :=
  [ ⟨0x4410, 0x4410, 0x0F, 0x0F, .u16, .rw, .span 60 3600, 600⟩,
    ⟨0x4410, 0x4410, 0x10, 0x10, .u16, .rw, .span 20 500, 100⟩,
    ⟨0x4410, 0x4410, 0x11, 0x11, .i16, .rws, .span (-200) 200, 0⟩,
    ⟨0x4410, 0x4410, 0x12, 0x12, .i16, .rws, .span 200 600, 450⟩,
    ⟨0x4410, 0x4410, 0x13, 0x13, .i32, .ro, .any, 0⟩,
    ⟨0x4410, 0x4410, 0x14, 0x14, .u16, .ro, .any, 0⟩,
    ⟨0x4410, 0x4410, 0x15, 0x15, .u16, .ro, .any, 0⟩,
    ⟨0x4410, 0x4410, 0x16, 0x16, .u8, .ro, .any, 0⟩,
    ⟨0x4410, 0x4410, 0x17, 0x17, .u8, .ro, .any, 0⟩,
    ⟨0x4410, 0x4410, 0x18, 0x18, .u32, .ro, .any, 0⟩,
    ⟨0x4410, 0x4410, 0x19, 0x19, .u8, .ro, .any, 0⟩,
    ⟨0x4410, 0x4410, 0x1A, 0x1A, .u16, .rw, .span 1 1000, 20⟩,
    ⟨0x4500, 0x4500, 0x01, 0x01, .bool, .rw, .any, 1⟩,
    ⟨0x4500, 0x4500, 0x02, 0x02, .u16, .rw, .span 40 600, 300⟩,
    ⟨0x4500, 0x4500, 0x03, 0x03, .u8, .ro, .any, 0⟩,
    ⟨0x4500, 0x4500, 0x04, 0x04, .u8, .ro, .any, 0⟩,
    ⟨0x4500, 0x4500, 0x05, 0x05, .u16, .ro, .any, 0⟩,
    ⟨0x4500, 0x4500, 0x06, 0x06, .i16, .ro, .any, -32768⟩,
    ⟨0x4500, 0x4500, 0x07, 0x07, .u32, .rw, .span 1000 100000, 10000⟩,
    ⟨0x4500, 0x4500, 0x08, 0x08, .u16, .rw, .span 1000 10000, 3435⟩,
    ⟨0x4500, 0x4500, 0x09, 0x09, .u16, .rw, .span 30 600, 240⟩,
    ⟨0x4500, 0x4500, 0x0A, 0x0A, .u16, .ro, .any, 0⟩,
    ⟨0x4500, 0x4500, 0x0B, 0x0B, .u8, .ro, .any, 0⟩,
    ⟨0x4500, 0x4500, 0x0C, 0x0C, .bool, .rw, .any, 1⟩ ]

/-- Rows 16 of the object tables, in ascending index and subindex. -/
def objectRows16 : List ObjRow :=
  [ ⟨0x4500, 0x4500, 0x0D, 0x0D, .u8, .ro, .any, 0⟩,
    ⟨0x4500, 0x4500, 0x0E, 0x0E, .u8, .ro, .any, 0⟩,
    ⟨0x4600, 0x4600, 0x01, 0x01, .bool, .rwc, .any, 1⟩,
    ⟨0x4600, 0x4600, 0x02, 0x02, .u8, .rw, .span 0 1, 0⟩,
    ⟨0x4600, 0x4600, 0x03, 0x03, .u8, .ro, .any, 0⟩,
    ⟨0x4600, 0x4600, 0x04, 0x04, .u8, .ro, .any, 0⟩,
    ⟨0x4600, 0x4600, 0x05, 0x05, .u8, .ro, .any, 0⟩,
    ⟨0x4600, 0x4600, 0x06, 0x06, .u16, .ro, .any, 0⟩,
    ⟨0x4600, 0x4600, 0x07, 0x07, .u8, .ro, .any, 0⟩,
    ⟨0x4600, 0x4600, 0x08, 0x08, .u32, .ro, .any, 5000⟩,
    ⟨0x4600, 0x4600, 0x09, 0x09, .u32, .ro, .any, 0⟩,
    ⟨0x4600, 0x4600, 0x0A, 0x0A, .u8, .ro, .any, 0⟩,
    ⟨0x4600, 0x4600, 0x0B, 0x0B, .u8, .ro, .any, 0⟩,
    ⟨0x4600, 0x4600, 0x0C, 0x0C, .i32, .ro, .any, 0⟩,
    ⟨0x4600, 0x4600, 0x0D, 0x0D, .u8, .ro, .any, 0⟩,
    ⟨0x4600, 0x4600, 0x0E, 0x0E, .bool, .ro, .any, 0⟩,
    ⟨0x4600, 0x4600, 0x0F, 0x0F, .u32, .ro, .any, 0⟩,
    ⟨0x4600, 0x4600, 0x10, 0x10, .u16, .rw, .span 20 200, 40⟩,
    ⟨0x4600, 0x4600, 0x11, 0x11, .u32, .rw, .span 5000 48000, 48000⟩,
    ⟨0x4600, 0x4600, 0x12, 0x12, .u32, .rw, .span 2500 240000, 240000⟩,
    ⟨0x4600, 0x4600, 0x13, 0x13, .u8, .rw, .maskSet 0x7 0x1, 7⟩,
    ⟨0x4600, 0x4600, 0x14, 0x14, .bool, .rw, .any, 1⟩,
    ⟨0x4600, 0x4600, 0x15, 0x15, .u8, .rwc, .maskSet 0x7F 0x1, 127⟩,
    ⟨0x4600, 0x4600, 0x16, 0x16, .u16, .rwc, .span 500 5000, 5000⟩ ]

/-- Rows 17 of the object tables, in ascending index and subindex. -/
def objectRows17 : List ObjRow :=
  [ ⟨0x4600, 0x4600, 0x17, 0x17, .u8, .rw, .span 0 2, 2⟩,
    ⟨0x4600, 0x4600, 0x18, 0x18, .bool, .rw, .any, 0⟩,
    ⟨0x4600, 0x4600, 0x19, 0x19, .u8, .ro, .any, 0⟩,
    ⟨0x4600, 0x4600, 0x1A, 0x1A, .u16, .ro, .any, 0⟩,
    ⟨0x4600, 0x4600, 0x1B, 0x1B, .domain 56, .ro, .any, 0⟩,
    ⟨0x4600, 0x4600, 0x1C, 0x1C, .u16, .ro, .any, 0⟩,
    ⟨0x4600, 0x4600, 0x1D, 0x1D, .u8, .ro, .any, 0⟩,
    ⟨0x4600, 0x4600, 0x1E, 0x1E, .u32, .ro, .any, 0⟩,
    ⟨0x4600, 0x4600, 0x1F, 0x1F, .u8, .ro, .any, 0⟩,
    ⟨0x5000, 0x5000, 0x01, 0x01, .u8, .ro, .any, 0⟩,
    ⟨0x5000, 0x5000, 0x02, 0x02, .u8, .wo, .among [1, 2], 0⟩,
    ⟨0x5000, 0x5000, 0x03, 0x03, .bool, .rws, .any, 0⟩,
    ⟨0x5000, 0x5000, 0x04, 0x04, .u8, .rws, .span 0 1, 0⟩,
    ⟨0x5000, 0x5000, 0x05, 0x05, .u8, .rws, .span 0 1, 0⟩,
    ⟨0x5000, 0x5000, 0x06, 0x06, .u16, .rws, .span 1 500, 20⟩,
    ⟨0x5000, 0x5000, 0x07, 0x07, .u16, .rws, .span 100 3900, 3500⟩,
    ⟨0x5000, 0x5000, 0x08, 0x08, .u16, .rws, .span 50 300, 200⟩,
    ⟨0x5000, 0x5000, 0x09, 0x09, .u16, .rws, .span 20 1000, 100⟩,
    ⟨0x5000, 0x5000, 0x0A, 0x0A, .u8, .rws, .span 20 100, 50⟩,
    ⟨0x5000, 0x5000, 0x0B, 0x0B, .u32, .ro, .any, 0⟩,
    ⟨0x5000, 0x5000, 0x0C, 0x0C, .u32, .ro, .any, 0⟩,
    ⟨0x5000, 0x5000, 0x0D, 0x0D, .u32, .ro, .any, 0⟩,
    ⟨0x5000, 0x5000, 0x0E, 0x0E, .u16, .rws, .span 10 600, 60⟩,
    ⟨0x5000, 0x5000, 0x0F, 0x0F, .u8, .rws, .span 1 8, 8⟩ ]

/-- Rows 18 of the object tables, in ascending index and subindex. -/
def objectRows18 : List ObjRow :=
  [ ⟨0x5000, 0x5000, 0x10, 0x10, .u16, .ro, .any, 60⟩,
    ⟨0x5000, 0x5000, 0x11, 0x11, .u32, .rws, .mask 0xFFFFFFF, 0⟩,
    ⟨0x5000, 0x5000, 0x12, 0x12, .u32, .rws, .span 1000 500000, 40000⟩,
    ⟨0x5000, 0x5000, 0x13, 0x13, .u32, .rws, .span 1000 1000000, 100000⟩,
    ⟨0x5000, 0x5000, 0x14, 0x14, .u16, .rws, .span 10 10000, 500⟩,
    ⟨0x5000, 0x5000, 0x15, 0x15, .u32, .rws, .span 10000 1000000, 300000⟩,
    ⟨0x5000, 0x5000, 0x16, 0x16, .i16, .rws, .span 400 900, 650⟩,
    ⟨0x5000, 0x5000, 0x17, 0x17, .i16, .rws, .span 800 1400, 1250⟩,
    ⟨0x5000, 0x5000, 0x18, 0x18, .u8, .rws, .mask 0xF, 0⟩,
    ⟨0x5000, 0x5000, 0x19, 0x19, .u16, .rws, .span 5 500, 50⟩,
    ⟨0x5000, 0x5000, 0x1A, 0x1A, .u8, .ro, .any, 0⟩,
    ⟨0x5000, 0x5000, 0x1B, 0x1B, .u32, .ro, .any, 0⟩,
    ⟨0x5000, 0x5000, 0x1C, 0x1C, .u32, .ro, .any, 0⟩,
    ⟨0x5000, 0x5000, 0x1D, 0x1D, .domain 8, .wo, .any, 0⟩,
    ⟨0x5000, 0x5000, 0x1E, 0x1E, .u8, .ro, .any, 0⟩,
    ⟨0x5000, 0x5000, 0x1F, 0x1F, .u8, .rws, .span 10 60, 60⟩,
    ⟨0x5000, 0x5000, 0x20, 0x20, .u16, .ro, .any, 0⟩,
    ⟨0x5000, 0x5000, 0x21, 0x21, .u8, .ro, .any, 0⟩,
    ⟨0x5000, 0x5000, 0x22, 0x22, .u32, .ro, .any, 0⟩,
    ⟨0x5000, 0x5000, 0x23, 0x23, .u32, .ro, .any, 0⟩,
    ⟨0x5000, 0x5000, 0x24, 0x24, .u32, .ro, .any, 0⟩,
    ⟨0x5000, 0x5000, 0x25, 0x25, .u32, .ro, .any, 100000⟩,
    ⟨0x5000, 0x5000, 0x26, 0x26, .u32, .ro, .any, 0⟩,
    ⟨0x5800, 0x5800, 0x01, 0x01, .u8, .ro, .any, 0⟩ ]

/-- Rows 19 of the object tables, in ascending index and subindex. -/
def objectRows19 : List ObjRow :=
  [ ⟨0x5800, 0x5800, 0x02, 0x02, .u32, .ro, .any, 0⟩,
    ⟨0x5800, 0x5800, 0x03, 0x03, .u32, .ro, .any, 0⟩,
    ⟨0x5800, 0x5800, 0x04, 0x04, .u8, .ro, .any, 0⟩,
    ⟨0x5800, 0x5800, 0x05, 0x05, .u16, .ro, .any, 0⟩,
    ⟨0x5800, 0x5800, 0x06, 0x06, .u16, .ro, .any, 0⟩,
    ⟨0x5800, 0x5800, 0x07, 0x07, .u32, .ro, .any, 0⟩,
    ⟨0x5810, 0x5810, 0x01, 0x01, .u8, .ro, .any, 0⟩,
    ⟨0x5810, 0x5810, 0x02, 0x02, .u16, .rwc, .among [2048, 4096], 2048⟩,
    ⟨0x5810, 0x5810, 0x03, 0x03, .u16, .rwc, .step 16 8192 8, 1024⟩,
    ⟨0x5810, 0x5810, 0x04, 0x04, .u8, .wo, .among [1, 2], 0⟩,
    ⟨0x5810, 0x5810, 0x05, 0x05, .u32, .ro, .any, 0⟩,
    ⟨0x5810, 0x5810, 0x06, 0x06, .u32, .ro, .any, 0⟩,
    ⟨0x5810, 0x5810, 0x07, 0x07, .u32, .rw, .any, 0⟩,
    ⟨0x5810, 0x5810, 0x08, 0x08, .domain 4096, .ro, .any, 0⟩,
    ⟨0x5810, 0x5810, 0x09, 0x09, .domain 4096, .ro, .any, 0⟩,
    ⟨0x5810, 0x5810, 0x0A, 0x0A, .u16, .ro, .any, 0⟩,
    ⟨0x5810, 0x5810, 0x0B, 0x0B, .u32, .ro, .any, 0⟩,
    ⟨0x5810, 0x5810, 0x0C, 0x0C, .u16, .ro, .any, 0⟩,
    ⟨0x5810, 0x5810, 0x0D, 0x0D, .u32, .ro, .any, 0⟩,
    ⟨0x5810, 0x5810, 0x0E, 0x0E, .u32, .ro, .any, 0⟩,
    ⟨0x5810, 0x5810, 0x0F, 0x0F, .domain 5, .wo, .any, 0⟩,
    ⟨0x5820, 0x5820, 0x01, 0x01, .u64, .rw, .span 0 6462908006399, 0⟩,
    ⟨0x5820, 0x5820, 0x02, 0x02, .u8, .ro, .any, 1⟩,
    ⟨0x5820, 0x5820, 0x03, 0x03, .u64, .rw, .any, 0⟩ ]

/-- Rows 20 of the object tables, in ascending index and subindex. -/
def objectRows20 : List ObjRow :=
  [ ⟨0x5820, 0x5820, 0x04, 0x04, .i16, .rwc, .span (-5000) 5000, 0⟩,
    ⟨0x5820, 0x5820, 0x05, 0x05, .i16, .rwc, .span 0 500, 250⟩,
    ⟨0x5820, 0x5820, 0x06, 0x06, .i16, .rwc, .span (-100) 0, -34⟩,
    ⟨0x5820, 0x5820, 0x07, 0x07, .i32, .ro, .any, 0⟩,
    ⟨0x5820, 0x5820, 0x08, 0x08, .i16, .ro, .any, 250⟩,
    ⟨0x5830, 0x5830, 0x01, 0x01, .i16, .ro, .any, 250⟩,
    ⟨0x5830, 0x5830, 0x02, 0x02, .u8, .ro, .any, 2⟩,
    ⟨0x5830, 0x5830, 0x03, 0x03, .u32, .ro, .any, 0⟩,
    ⟨0x5830, 0x5830, 0x04, 0x04, .u8, .wo, .among [1], 0⟩,
    ⟨0x6000, 0x6000, 0x01, 0x01, .u8, .wo, .among [1, 2, 3], 0⟩,
    ⟨0x6000, 0x6000, 0x02, 0x02, .u8, .ro, .any, 0⟩,
    ⟨0x6000, 0x6000, 0x03, 0x03, .u8, .ro, .any, 0⟩,
    ⟨0x6000, 0x6000, 0x04, 0x04, .u16, .ro, .any, 1⟩,
    ⟨0x6000, 0x6000, 0x05, 0x05, .u16, .ro, .any, 1⟩,
    ⟨0x6000, 0x6000, 0x06, 0x06, .u16, .ro, .any, 0⟩,
    ⟨0x6000, 0x6000, 0x07, 0x07, .u16, .ro, .any, 0⟩,
    ⟨0x6000, 0x6000, 0x08, 0x08, .u32, .ro, .any, 0⟩,
    ⟨0x6000, 0x6000, 0x09, 0x09, .u32, .ro, .any, 0⟩,
    ⟨0x6000, 0x6000, 0x0A, 0x0A, .u32, .ro, .any, 0⟩,
    ⟨0x6000, 0x6000, 0x0B, 0x0B, .u16, .ro, .any, 0⟩,
    ⟨0x6000, 0x6000, 0x0C, 0x0C, .u8, .ro, .any, 125⟩,
    ⟨0x6000, 0x6000, 0x0D, 0x0D, .bool, .rw, .any, 1⟩,
    ⟨0x6000, 0x6000, 0x0E, 0x0E, .u8, .rw, .span 2 64, 8⟩,
    ⟨0x6000, 0x6000, 0x0F, 0x0F, .u16, .ro, .any, 0⟩ ]

/-- Rows 21 of the object tables, in ascending index and subindex. -/
def objectRows21 : List ObjRow :=
  [ ⟨0x6000, 0x6000, 0x10, 0x10, .u32, .ro, .any, 0⟩,
    ⟨0x6000, 0x6000, 0x11, 0x11, .u32, .ro, .any, 0⟩,
    ⟨0x6001, 0x6FFE, 0x01, 0x01, .u8, .ro, .any, 0⟩,
    ⟨0x6001, 0x6FFE, 0x02, 0x02, .u64, .ro, .any, 0⟩,
    ⟨0x6001, 0x6FFE, 0x03, 0x03, .u8, .ro, .any, 255⟩,
    ⟨0x6001, 0x6FFE, 0x04, 0x04, .u16, .ro, .any, 0⟩,
    ⟨0x6001, 0x6FFE, 0x05, 0x05, .u16, .ro, .any, 0⟩,
    ⟨0x6001, 0x6FFE, 0x06, 0x06, .u32, .ro, .any, 0⟩,
    ⟨0x6001, 0x6FFE, 0x07, 0x07, .u32, .ro, .any, 520319⟩,
    ⟨0x6001, 0x6FFE, 0x08, 0x08, .u8, .ro, .any, 0⟩,
    ⟨0x6001, 0x6FFE, 0x09, 0x09, .u8, .ro, .any, 0⟩,
    ⟨0x6001, 0x6FFE, 0x0A, 0x0A, .u32, .ro, .any, 0⟩,
    ⟨0x6001, 0x6FFE, 0x0B, 0x0B, .u32, .ro, .any, 0⟩,
    ⟨0x6001, 0x6FFE, 0x0C, 0x0C, .domain 108, .ro, .any, 0⟩,
    ⟨0x6001, 0x6FFE, 0x0D, 0x0D, .domain 27, .ro, .any, 0⟩,
    ⟨0x6001, 0x6FFE, 0x0E, 0x0E, .u8, .ro, .any, 0⟩,
    ⟨0x6001, 0x6FFE, 0x0F, 0x0F, .u32, .ro, .any, 0⟩,
    ⟨0x6001, 0x6FFE, 0x10, 0x10, .u16, .ro, .any, 0⟩,
    ⟨0x7000, 0x707F, 0x01, 0x01, .bool, .rw, .any, 0⟩,
    ⟨0x7000, 0x707F, 0x02, 0x02, .bool, .rw, .any, 0⟩,
    ⟨0x7000, 0x707F, 0x03, 0x03, .u8, .rw, .span 0 3, 0⟩,
    ⟨0x7000, 0x707F, 0x04, 0x04, .u8, .rw, .mask 0xF, 0⟩,
    ⟨0x7000, 0x707F, 0x05, 0x05, .u32, .ro, .any, 0⟩,
    ⟨0x7000, 0x707F, 0x06, 0x06, .u32, .ro, .any, 0⟩ ]

/-- Rows 22 of the object tables, in ascending index and subindex. -/
def objectRows22 : List ObjRow :=
  [ ⟨0x8000, 0x8000, 0x01, 0x01, .u8, .ro, .any, 0⟩,
    ⟨0x8000, 0x8000, 0x02, 0x02, .u32, .ro, .any, 0⟩,
    ⟨0x8000, 0x8000, 0x03, 0x03, .u32, .ro, .any, 0⟩,
    ⟨0x8000, 0x8000, 0x04, 0x07, .u32, .ro, .any, 0⟩,
    ⟨0x8000, 0x8000, 0x08, 0x08, .u8, .rw, .span 0 3, 0⟩,
    ⟨0x8000, 0x8000, 0x09, 0x09, .u32, .ro, .any, 0⟩,
    ⟨0x8000, 0x8000, 0x0A, 0x0A, .u32, .ro, .any, 255⟩,
    ⟨0x8000, 0x8000, 0x0B, 0x0B, .u32, .ro, .any, 0⟩,
    ⟨0x8010, 0x801F, 0x01, 0x01, .domain 4096, .rw, .any, 0⟩,
    ⟨0x8010, 0x801F, 0x02, 0x02, .u16, .rw, .span 0 1024, 0⟩,
    ⟨0x8010, 0x801F, 0x03, 0x03, .domain 32, .ro, .any, 0⟩,
    ⟨0x8010, 0x801F, 0x04, 0x04, .u32, .ro, .any, 0⟩,
    ⟨0x8010, 0x801F, 0x05, 0x05, .u8, .const, .any, 0⟩,
    ⟨0x8020, 0x802F, 0x01, 0x01, .u8, .wo, .among [1, 2, 3, 4], 0⟩,
    ⟨0x8020, 0x802F, 0x02, 0x02, .u8, .ro, .any, 0⟩,
    ⟨0x8020, 0x802F, 0x03, 0x03, .u32, .rw, .step 0 4294967264 32, 0⟩,
    ⟨0x8020, 0x802F, 0x04, 0x04, .u8, .rw, .span 0 3, 0⟩,
    ⟨0x8020, 0x802F, 0x05, 0x05, .u32, .ro, .any, 0⟩,
    ⟨0x8020, 0x802F, 0x06, 0x06, .u32, .ro, .any, 0⟩,
    ⟨0x8020, 0x802F, 0x07, 0x07, .domain 32, .ro, .any, 0⟩,
    ⟨0x8020, 0x802F, 0x08, 0x08, .u32, .ro, .any, 0⟩,
    ⟨0x8020, 0x802F, 0x09, 0x09, .u32, .ro, .any, 0⟩,
    ⟨0x9000, 0x9000, 0x01, 0x01, .u8, .rw, .span 0 1, 1⟩,
    ⟨0x9000, 0x9000, 0x02, 0x02, .u16, .rw, .span 100 10000, 250⟩ ]

/-- Rows 23 of the object tables, in ascending index and subindex. -/
def objectRows23 : List ObjRow :=
  [ ⟨0x9000, 0x9000, 0x03, 0x03, .u8, .ro, .any, 0⟩,
    ⟨0x9000, 0x9000, 0x04, 0x04, .u32, .ro, .any, 0⟩,
    ⟨0x9000, 0x9000, 0x05, 0x05, .u16, .ro, .any, 0⟩,
    ⟨0x9000, 0x9000, 0x06, 0x06, .u16, .ro, .any, 0⟩,
    ⟨0x9000, 0x9000, 0x07, 0x07, .u8, .ro, .any, 0⟩,
    ⟨0x9000, 0x9000, 0x08, 0x08, .u32, .ro, .any, 0⟩,
    ⟨0x9000, 0x9000, 0x09, 0x09, .u8, .ro, .any, 0⟩,
    ⟨0x9000, 0x9000, 0x0A, 0x0A, .u8, .ro, .any, 0⟩,
    ⟨0x9040, 0x9040, 0x01, 0x01, .u8, .rw, .span 0 1, 1⟩,
    ⟨0x9040, 0x9040, 0x02, 0x02, .u8, .ro, .any, 0⟩,
    ⟨0x9040, 0x9040, 0x03, 0x03, .u32, .ro, .any, 0⟩,
    ⟨0x9040, 0x9040, 0x04, 0x04, .u16, .ro, .any, 0⟩,
    ⟨0x9040, 0x9040, 0x05, 0x05, .u32, .ro, .any, 0⟩,
    ⟨0x9040, 0x9040, 0x06, 0x06, .u8, .ro, .any, 0⟩ ]

/-- Every object row of the manual, ascending. -/
def objectRows : List ObjRow :=
  objectRows0 ++ objectRows1 ++ objectRows2 ++ objectRows3 ++ objectRows4 ++ objectRows5 ++ objectRows6 ++ objectRows7 ++ objectRows8 ++ objectRows9 ++ objectRows10 ++ objectRows11 ++ objectRows12 ++ objectRows13 ++ objectRows14 ++ objectRows15 ++ objectRows16 ++ objectRows17 ++ objectRows18 ++ objectRows19 ++ objectRows20 ++ objectRows21 ++ objectRows22 ++ objectRows23


/-- The row that tables an object. -/
def findRow (index sub : Nat) : Option ObjRow :=
  objectRows.find? (fun r => decide (r.lo ≤ index ∧ index ≤ r.hi ∧ r.subLo ≤ sub ∧ sub ≤ r.subHi))

/-- The default of an object of fixed size, by its key (the tables' Default column). -/
def defaultOf (key : Nat) : Int :=
  let i := key / 256
  let sub := key % 256
  if i == 0x3441 && sub != 0 then (Reg.impToneFreq sub).dflt
  else if 0x1301 ≤ i && i ≤ 0x1302 && sub == 1 then (Reg.canEnable (i - 0x1301)).dflt
  else if 0x1501 ≤ i && i ≤ 0x1540 && sub == 3 then (Reg.pubIdentifier (i - 0x1500)).dflt
  else if 0x8010 ≤ i && i ≤ 0x801F && sub == 5 then (Reg.tableOwner (i - 0x8010)).dflt
  else if 0x7000 ≤ i && i ≤ 0x707F && sub == 2 then eventEnableDefault (i - 0x7000)
  else if 0x7000 ≤ i && i ≤ 0x707F && sub == 3 then eventPriorityDefault (i - 0x7000)
  else if 0x7000 ≤ i && i ≤ 0x707F && sub == 4 then eventRoutingDefault (i - 0x7000)
  else match findRow i sub with
    | some r => r.dflt
    | none => 0

/-- The register of a key. -/
def regAt (key : Nat) : Reg := ⟨key, defaultOf key⟩

end Sys2Proof.Machine
end

