-- ==== Sys2Proof/Machine/Storage.lean ====
section
/-! DEFINITION. FRAM commits, images and the store (R243, R392 to R399, R441), the history log (R400 to R406), the calendar
(R407 to R411), the die temperatures (R412, R413) and the self-test swatches (R414 to R418). -/

namespace Sys2Proof.Machine

/-! ## Kept objects and images (R243) -/

/-- The objects that R243 leaves out of the configuration. -/
def keptException (index sub : Nat) : Bool :=
  (index == 0x3400 && sub == 1) || (index == 0x3600 && sub == 7) || index == 0x1200
    || (index == 0x5820 && (sub == 1 || sub == 3)) || (0x7000 ≤ index && index ≤ 0x707F && sub == 1)
    || (index == 0x5810 && sub == 7) || (0x8000 ≤ index && index ≤ 0x80FF)

/-- An object of the kept configuration. -/
def isKept (key : Nat) : Bool :=
  match findRow (key / 256) (key % 256) with
  | some r => (r.acc == .rw || r.acc == .rwc || r.acc == .rws) && !keptException (key / 256) (key % 256)
  | none => false

/-- The part of the controller record that keeps an object (Table 15.1). -/
def recordPart (key : Nat) : Nat :=
  let i := key / 256
  if 0x1501 ≤ i && i ≤ 0x1516 then 1
  else if 0x1517 ≤ i && i ≤ 0x152C then 2
  else if 0x152D ≤ i && i ≤ 0x1540 then 3
  else if 0x7000 ≤ i && i ≤ 0x707F then 4
  else 0

/-- Objects of part `n` of the controller record. -/
def inRecord (n key : Nat) : Bool := isKept key && !isMonKey key && recordPart key == n

/-- Objects of a device's monitor-die image (R80). -/
def inMonImage (key : Nat) : Bool := isKept key && isMonKey key

/-- The image that the device's objects form. -/
def Dev.imageOf (d : Dev) (p : Nat → Bool) : Image :=
  { regs := d.regs.filter (fun e => p e.1), strings := d.blobs.filter (fun e => p e.1) }

/-- The objects take an image; those it does not list take their defaults. -/
def Dev.takeImage (d : Dev) (p : Nat → Bool) (m : Image) : Dev :=
  { d with
    regs := Tab.merge m.regs (d.regs.dropIf p),
    blobs := m.strings.foldl (fun l e => putBlob e.1 e.2 l) (d.blobs.filter (fun e => !p e.1)) }

def Image.defaults : Image := ⟨[], []⟩

/-! ## Dual images (R396, R397, R441) -/

/-- Sequence number and image of a slot that may be in force: CRC good, generation 0 or committed. -/
def ImageSlot.valid (committed : Nat) : ImageSlot → Option (Nat × Image)
  | .holds seq gen m => if gen == 0 || gen ≤ committed then some (seq, m) else none
  | _ => none

/-- Slot B is in force. -/
def DualImage.inForceB (g : Nat) (x : DualImage) : Bool :=
  match x.a.valid g, x.b.valid g with
  | some (sa, _), some (sb, _) => sa < sb
  | none, some _ => true
  | _, none => false

/-- The image in force (R396). -/
def DualImage.inForce (g : Nat) (x : DualImage) : Option Image :=
  if x.inForceB g then (x.b.valid g).map (·.2) else (x.a.valid g).map (·.2)

/-- Sequence number and generation of a slot's header row, unless it is blank. -/
def ImageSlot.header : ImageSlot → Option (Nat × Nat)
  | .blank => none
  | .holds seq gen _ => some (seq, gen)
  | .torn _ _ under => under.header

def ImageSlot.seq (s : ImageSlot) : Nat := (s.header.map (·.1)).getD 0

/-- A slot without the remains of a write that reached no further than row `k`. -/
def ImageSlot.bare (k : Nat) : ImageSlot → ImageSlot
  | .torn rows m under => if rows ≤ k then under.bare k else .torn rows m under
  | s => s

/-- A slot whose first `k` payload rows a write has reached (R395). -/
def ImageSlot.tear (k : Nat) (m : Image) (s : ImageSlot) : ImageSlot := .torn k m (s.bare k)

/-- The slot that is not in force changes (R396). -/
def DualImage.change (g : Nat) (f : ImageSlot → ImageSlot) (x : DualImage) : DualImage :=
  if x.inForceB g then { x with a := f x.a } else
    match x.a.valid g with
    | some _ => { x with b := f x.b }
    | none => { x with a := f x.a }

/-- A write of a dual image (R396). -/
def DualImage.write (g gen : Nat) (m : Image) (x : DualImage) : DualImage :=
  x.change g (fun _ => .holds (max x.a.seq x.b.seq + 1) gen m)

/-- Never stored: the header rows of both slots are blank (R441). -/
def DualImage.unstored (x : DualImage) : Bool := x.a.header.isNone && x.b.header.isNone

/-- No slot in force although a slot is not blank (R398, R441). -/
def DualImage.lost (g : Nat) (x : DualImage) : Bool := (x.inForce g).isNone && !x.unstored

/-! ## Commits (R393 to R395) -/

/-- The cause that refuses a commit, 0 if none (R393, R394). -/
def Dev.commitCause (d : Dev) (cresMv : Nat) (ecc : Bool) : Nat :=
  if ecc then 4
  else if !d.pwr.vlog || d.pwr.vlogLow then 1
  else if cresMv < 4500 then 2
  else if d.nat Reg.cresCapacitance < 47 then 3
  else 0

/-- A refused commit (R394). -/
def Dev.refuseCommit (d : Dev) (cause : Nat) : Dev := ((d.bump Reg.commitsRefused).setNat Reg.lastRefusal cause).raise 112

/-- How a commit has ended: refused at step 2, stopped with so many of its data rows new, or complete. -/
inductive CommitEnd where
  | refused
  | stopped (rows : Nat)
  | done
  deriving DecidableEq, Repr

/-- A commit of `count` data rows from row `first` of the pages named (R393 to R395); `write k` makes the first `k` of them new.
A complete one leaves its pages' signatures right and the journal row clear, also one that an earlier commit left set. One that
a fault stops leaves its journal row set, and of a page that it has changed the signature that stood. -/
def Dev.commit (d : Dev) (run : CommitRun) (pages : List Nat) (first count : Nat) (write : Nat → Dev → Dev) : Dev × CommitEnd :=
  let c := d.commitCause run.cresMv run.ecc
  if c != 0 then (d.refuseCommit c, .refused)
  else
    let seq := (d.stor.commitSeq + 1) % 2 ^ 32
    match run.stop with
    | none =>
      let d := write count d
      (({ d with stor := { d.stor with
        commitSeq := seq, journal := none, badSignatures := d.stor.badSignatures.dropIf pages.contains } } : Dev).bump
          Reg.commitsDone, .done)
    | some row =>
      let (new, d) := d.freeBool
      let k := min count (row + if new then 1 else 0)
      let stale := (pages.take k).foldl (fun t p => Tab.put p (d.stor.signature p) t) d.stor.badSignatures
      let d := write k d
      ({ d with stor := { d.stor with
        commitSeq := seq, journal := some ⟨pages.headD 0, first, count, seq⟩, badSignatures := stale } }, .stopped k)

/-- How a commit goes that the command at hand makes: as the command says; a general write says nothing of CRES and of a double
error in the row buffer's source, which are free then (DESIGN CHOICE, assumption 41). -/
def Dev.runAtHand (d : Dev) : CommitRun × Dev :=
  match d.stor.hostRun with
  | some run => (run, d)
  | none =>
    let (cres, d) := d.freeWord
    let (ecc, d) := d.freeBool
    (⟨cres.toNat % 65536, ecc, none⟩, d)

/-- The device's own serial number. -/
def ownSerial : Nat := Config.deviceSerial.toNat

/-- Position of a serial number in a list keyed by serial. -/
def serialIndex (serial : Nat) (l : List (Nat × DualImage)) : Option Nat := l.findIdx? (fun e => e.1 == serial)

/-- The content of an image page (Table 15.1). -/
def Dev.pageImage (d : Dev) (page : Nat) : Image :=
  if page == 1 then d.imageOf (inRecord 0)
  else if page == 2 then d.imageOf inMonImage
  else if 60 ≤ page then d.imageOf (inRecord (page - 59))
  else match d.stor.members[page - 3]? with
    | some (serial, _) => ((d.stor.working.find? (fun e => e.1 == serial)).map (·.2)).getD .defaults
    | none => .defaults

/-- The dual image of an image page. -/
def Storage.pageDual (s : Storage) (page : Nat) : DualImage :=
  if page == 1 then s.record.getD 0 .blank
  else if page == 2 then s.headImage
  else if 60 ≤ page then s.record.getD (page - 59) .blank
  else ((s.members[page - 3]?).map (·.2)).getD .blank

def Storage.setPageDual (s : Storage) (page : Nat) (x : DualImage) : Storage :=
  if page == 1 then { s with record := setNth s.record 0 x }
  else if page == 2 then { s with headImage := x }
  else if 60 ≤ page then { s with record := setNth s.record (page - 59) x }
  else match s.members[page - 3]? with
    | some (serial, _) => { s with members := setNth s.members (page - 3) (serial, x) }
    | none => s

/-- The place of a serial number among the pages or records that FRAM has for `most` of them: its own, the next one, or where all
are taken the first whose serial number the head holds no image for (DESIGN CHOICE, assumption 173). -/
def Storage.placeFor (s : Storage) (most : Nat) (free : Nat → Bool) (serial : Nat) (l : List (Nat × DualImage)) :
    List (Nat × DualImage) × Nat :=
  match serialIndex serial l with
  | some i => (l, i)
  | none =>
    if l.length < most then (l ++ [(serial, .blank)], l.length)
    else
      let i := (l.findIdx? (fun e => free e.1 && !s.working.any (fun w => w.1 == e.1))).getD 0
      (setNth l i (serial, dualAt l i), i)

/-- The counter record of a serial number, made blank where there is none. -/
def Storage.withRecord (s : Storage) (serial : Nat) (f : DualImage → DualImage) : Storage :=
  let (l, i) := s.placeFor 49 (fun e => e != ownSerial) serial s.counterRecords
  { s with counterRecords := setNth l i (serial, f (dualAt l i)) }

/-- The page a job writes (Table 15.1). -/
def Storage.jobPage (s : Storage) : Job → Nat
  | .image p => p
  | .generation => 0
  | .counters serial _ => 51 + (s.placeFor 49 (fun e => e != ownSerial) serial s.counterRecords).2 / 14
  | .code _ => 55
  | .voidList _ => 57
  | .skeinIndex _ _ => 58
  | .badBlockTable _ _ => 59

/-- Rows of a job's slot: 2 KiB, one row, 144 bytes, 64 bytes (Table 15.1, R397). -/
def jobRows : Job → Nat
  | .image _ => 128
  | .generation => 1
  | .counters _ _ => 9
  | .code _ => 4
  | .voidList clears => if clears then 2 else 1
  | .skeinIndex _ count => count
  | .badBlockTable _ count => count

/-- Page 55 as an image. -/
def page55Image (code confirmed state : Nat) : Image :=
  { regs := Tab.assign (Tab.assign (Tab.assign [] ⟨0, 0⟩ code) ⟨1, 0⟩ confirmed) ⟨2, 0⟩ state, strings := [] }

/-- A write of `k` of `rows` rows into the slot of a dual image that is not in force. -/
def DualImage.writeRows (g gen : Nat) (m : Image) (rows k : Nat) (x : DualImage) : DualImage :=
  if rows ≤ k then x.write g gen m else if k == 0 then x else x.change g (ImageSlot.tear k m)

/-- The skein index that the pages in NAND give, for skeins `lo` to `hi - 1`: the first sequence number of each (R401). -/
def Storage.skeinsHeld (s : Storage) (lo hi : Nat) : List (Nat × Nat) :=
  ((List.range (hi - lo)).map (· + lo)).filterMap (fun k => (s.pages.find? (fun g => g.block / 8 == k)).map (fun g => (k, g.seq)))

/-- Rows `first` to `first + k - 1` of the skein index, four skeins each, become new. -/
def Storage.writeSkeins (s : Storage) (first k : Nat) : Storage :=
  let lo := 4 * first
  let hi := 4 * (first + k)
  { s with framSkeins := s.framSkeins.filter (fun e => e.1 < lo || hi ≤ e.1) ++ s.skeinsHeld lo hi }

/-- Rows `first` to `first + k - 1` of the bad-block table, 128 blocks each, become new. -/
def Storage.writeBad (s : Storage) (first k : Nat) : Storage :=
  let lo := 128 * first
  let hi := 128 * (first + k)
  let here := fun (b : Nat) => lo ≤ b && b < hi
  { s with framBad := s.framBad.filter (fun b => !here b) ++ s.badBlocks.filter here }

/-- The first `k` rows of a void list become new: the list, and then the intent's row. -/
def Storage.writeVoids (s : Storage) (k : Nat) : Storage :=
  if k == 0 then s
  else { s with stateWritten := true, framVoids := s.voids, intent := if 2 ≤ k then none else s.intent }

/-- FRAM as the first `k` data rows of a job leave it. A new commissioning code takes effect with its last row, the store
generation with its row (R397). -/
def Dev.writeJob (d : Dev) (j : Job) (k : Nat) : Dev :=
  let g := d.stor.generation
  let n := jobRows j
  match j with
  | .image p => { d with stor := d.stor.setPageDual p ((d.stor.pageDual p).writeRows g (g + 1) (d.pageImage p) n k) }
  | .generation =>
    if k == 0 then d
    else ({ d with stor := { d.stor with generation := (g + 1) % 2 ^ 32 } } : Dev).setNat Reg.storeGeneration ((g + 1) % 2 ^ 32)
  | .counters serial bytes =>
    { d with stor := d.stor.withRecord serial (fun x => x.writeRows g 0 ⟨[], [(0, bytes)]⟩ n k) }
  | .code c =>
    let m := page55Image c (d.nat Reg.checkValueConfirmed) (d.nat Reg.confirmState)
    let d : Dev := { d with stor := { d.stor with page55 := d.stor.page55.writeRows g 0 m n k } }
    if n ≤ k then { d with svc := { d.svc with code := c } } else d
  | .voidList _ => { d with stor := d.stor.writeVoids k }
  | .skeinIndex first _ => { d with stor := d.stor.writeSkeins first k }
  | .badBlockTable first _ => { d with stor := d.stor.writeBad first k }

/-- The slot that the next write of a dual image goes into: B. -/
def DualImage.nextB (g : Nat) (x : DualImage) : Bool := !x.inForceB g && (x.a.valid g).isSome

/-- The first data row of a job's commit within its page. -/
def Storage.jobFirst (s : Storage) (j : Job) : Nat :=
  let g := s.generation
  match j with
  | .image p => if (s.pageDual p).nextB g then 128 else 0
  | .generation => Config.systemRow (if g % 2 == 0 then 0 else 6)
  | .counters serial _ =>
    let (l, i) := s.placeFor 49 (fun e => e != ownSerial) serial s.counterRecords
    18 * (i % 14) + (if (dualAt l i).nextB g then 9 else 0)
  | .code _ => if s.page55.nextB g then 4 else 0
  | .voidList _ => Config.systemRow 5
  | .skeinIndex first _ => first
  | .badBlockTable first _ => first

/-- Pages of the images that a store may write, ascending: not those of member images that the head does not hold (R398). -/
def Dev.imagePages (d : Dev) : List Nat :=
  [1, 2] ++ ((List.range d.stor.members.length).filter (fun i =>
    d.stor.working.any (fun w => w.1 == (d.stor.members.getD i (0, .blank)).1))).map (· + 3) ++ [60, 61, 62, 63]

/-- The images that differ from what FRAM holds in force, those never stored among them (R397, R441). -/
def Dev.changedPages (d : Dev) : List Nat :=
  d.imagePages.filter (fun p => (d.stor.pageDual p).inForce d.stor.generation != some (d.pageImage p))

def storeJob : Job → Bool
  | .image _ => true
  | .generation => true
  | _ => false

/-- A commit of the log's own books: the void list, the skein index, the bad-block table. -/
def logJob : Job → Bool
  | .voidList _ => true
  | .skeinIndex _ _ => true
  | .badBlockTable _ _ => true
  | _ => false

/-- Commits are requested (R393). -/
def Dev.askCommits (d : Dev) (js : List Job) : Dev := { d with stor := { d.stor with jobs := d.stor.jobs ++ js } }

/-- The store ends without its generation (R243, R397). -/
def Dev.dropStore (d : Dev) : Dev :=
  if d.stor.jobs.any storeJob then
    ({ d with stor := { d.stor with jobs := d.stor.jobs.filter (fun j => !storeJob j) } } : Dev).set Reg.configStoreState 3
  else d

/-- A store begins (R397); one that runs goes on. -/
def Dev.startStore (d : Dev) : Dev :=
  if d.nat Reg.configStoreState == 2 then d
  else
    ({ d with stor := { d.stor with jobs := d.stor.jobs ++ d.changedPages.map Job.image ++ [.generation] } } : Dev).set
      Reg.configStoreState 2

/-- A kept object has been written (R243): changes are pending. -/
def Dev.notePending (d : Dev) : Dev := if d.nat Reg.configStoreState == 2 then d else d.set Reg.configStoreState 1

/-- The generation has ended the store: FramStatus bit [5] clears (R441). -/
def Dev.storeEnds (d : Dev) : Dev :=
  (d.setBit Reg.framStatus 5 false).set Reg.configStoreState (if d.changedPages.isEmpty then 0 else 1)

/-- What follows the end of the oldest job's commit: a refused or stopped store leaves every image as it was, a refused counter
record waits for its next due time; a refused code, and a row of the log's books that is not written, for the next commit (R394,
R397). -/
def Dev.afterJob (d : Dev) (j : Job) (rest : List Job) (e : CommitEnd) : Dev :=
  let popped : Dev := { d with stor := { d.stor with jobs := rest } }
  match j, e with
  | .generation, .done => popped.storeEnds
  | .generation, .stopped k => if k == 0 then d.dropStore else popped.storeEnds
  | .code _, .refused => d
  | _, .done => popped
  | j, _ => if storeJob j then d.dropStore else if logJob j then d else popped

/-- The oldest commit requested runs (R393 to R395). -/
def Dev.framCommit (d : Dev) (run : CommitRun) : Dev :=
  match d.stor.jobs with
  | [] => d
  | j :: rest =>
    if !d.cpuLive then d
    else
      let (d, e) := d.commit run [d.stor.jobPage j] (d.stor.jobFirst j) (jobRows j) (fun k d => d.writeJob j k)
      d.afterJob j rest e

/-- A commit requested before one that a host write waits for: CRES as for that one, a double error by a free value (assumption
41). -/
def Dev.framCommitBefore (d : Dev) (cresMv : Nat) : Dev :=
  let (ecc, d) := d.freeBool
  d.framCommit ⟨cresMv, ecc, none⟩

/-- Commits requested before one that a host write waits for run first (R393). -/
def Dev.runJobs (d : Dev) (cresMv : Nat) : Dev := d.stor.jobs.foldl (fun d _ => d.framCommitBefore cresMv) d

/-- A commit of page 55 (R387). -/
def Dev.commitPage55 (d : Dev) (run : CommitRun) (m : Dev → Image) : Dev × CommitEnd :=
  d.commit run [55] (if d.stor.page55.nextB d.stor.generation then 4 else 0) 4 (fun k d => { d with stor := { d.stor with
    page55 := d.stor.page55.writeRows d.stor.generation 0 (m d) 4 k } })

/-- A measurement of CRES (R399): 1 µC / ΔV in whole µF, rounded down so that 47 means 47 µF or more (DESIGN CHOICE, assumption
174); a ΔV of 0 has no stated result. -/
def Dev.cresMeasure (d : Dev) (voltageMv dropUv : Nat) : Dev :=
  if !d.cpuLive then d
  else
    let (c, d) := if dropUv == 0 then
        let (w, d) := d.freeWord
        (w.toNat % 65536, d)
      else (min 65535 (1000000 / dropUv), d)
    let d := (d.setNat Reg.cresVoltage (min 65535 voltageMv)).setNat Reg.cresCapacitance c
    (d.setBit Reg.framStatus 4 (c < 47)).raiseIf (c < 47) 114

def execCresMeasure (voltageMv dropUv : Nat) (s : State) : Res := .next (s.together (s.onDev (·.cresMeasure voltageMv dropUv)))

/-- The reads that fetch the counters of each member with an image (R170). -/
def Dev.readMemberCounters (d : Dev) : Dev :=
  d.usedAddresses.foldl (fun d a =>
    if d.stor.working.any (fun w => w.1 == d.nat (Reg.memberSerial a)) && a != 1 then
      let d := { d with stor := { d.stor with counterReads := d.stor.counterReads.filter (fun e => e.1 != a) } }
      d.queueOwn a (readMessage a 0x3600 1)
        ([2, 3, 4].map (fun n => readMessage a 0x3600 n) ++ (upTo 24).map (fun k => readMessage a 0x3610 k))
    else d) d

/-- Counters are saved (R170): the head's own record, and the reads that fetch each member's. -/
def Dev.counterSave (d : Dev) : Dev :=
  if d.pwr.role == .head && d.cpuLive then
    (if d.monLive then { d with stor := { d.stor with jobs := d.stor.jobs ++ [.counters ownSerial d.counterRecord] } }
      else d).readMemberCounters
  else d

def execCounterSave (s : State) : Res := .next (s.onDev (·.counterSave))

/-! ## History log (R400 to R406) -/

/-- Opcodes of the SPI-NAND device (R400). -/
def NandOp.opcode : NandOp → Nat
  | .reset => 0xFF
  | .readId => 0x9F
  | .getFeature => 0x0F
  | .setFeature => 0x1F
  | .writeEnable => 0x06
  | .pageRead => 0x13
  | .readCache => 0x03
  | .programLoad => 0x02
  | .programExecute => 0x10
  | .blockErase => 0xD8

/-- The engine operates the device. PRESUMED (assumption 130): the order of the commands in an operation is that of the class of
device. -/
def Dev.nandDo (d : Dev) (ops : List NandOp) : Dev := { d with stor := { d.stor with nandSent := ops } }

def programOps : List NandOp := [.writeEnable, .programLoad, .programExecute, .getFeature]
def eraseOps : List NandOp := [.writeEnable, .blockErase, .getFeature]
def readOps : List NandOp := [.pageRead, .getFeature, .readCache]

/-- Entries of a page (R402). -/
def Dev.pageCapacity (d : Dev) : Nat := d.nat Reg.logPageSize / 16 - 1
def Dev.pagesPerBlock (d : Dev) : Nat := 131072 / d.nat Reg.logPageSize

def Dev.goodBlock (d : Dev) (b : Nat) : Bool := !d.stor.badBlocks.contains b

/-- Skeins that hold a good block (R401, R405). -/
def Dev.usableSkeins (d : Dev) : List Nat :=
  (List.range (d.nat Reg.logBlockCount / 8)).filter (fun s => (List.range 8).any (fun i => d.goodBlock (8 * s + i)))

/-- LogState (Table 15.6). -/
def Dev.logStateNow (d : Dev) : Nat :=
  if !d.stor.nand || !d.pwr.vio then 0
  else if !d.stor.formatted then 1
  else if d.usableSkeins.length < 2 then 3
  else 2

/-- LogState follows; source 116 as it becomes 3 (Table 15.4). -/
def Dev.refreshLog (d : Dev) : Dev :=
  let n := d.logStateNow
  let was := d.nat Reg.logState
  (d.setNat Reg.logState n).raiseIf (n == 3 && was != 3) 116

/-- LogOldestSequence, LogNewestSequence and LogEntriesOpen. -/
def Dev.refreshLogObjects (d : Dev) : Dev :=
  ((d.setNat Reg.logOldestSequence (((d.stor.pages.head?).map (·.seq)).getD 0)).setNat Reg.logNewestSequence
    (((d.stor.pages.getLast?).map (·.seq)).getD 0)).setNat Reg.logEntriesOpen d.stor.openPage.length

/-- The good block that follows `b` in the ring. -/
def Dev.blockAfter (d : Dev) (b : Nat) : Nat :=
  let n := d.nat Reg.logBlockCount
  (((List.range n).map (fun i => (b + 1 + i) % n)).find? (fun c => d.goodBlock c)).getD b

/-- The next block is taken up at its page 0; LogWraps counts a pass of the ring (R401). -/
def Dev.enterBlock (d : Dev) (b : Nat) : Dev :=
  let wrap := b ≤ d.stor.nextBlock
  let d := { d with stor := { d.stor with nextBlock := b, nextPage := 0 } }
  if wrap then d.bump Reg.logWraps else d

/-- The page after the one just handled. -/
def Dev.advancePage (d : Dev) : Dev :=
  if d.stor.nextPage + 1 < d.pagesPerBlock then { d with stor := { d.stor with nextPage := d.stor.nextPage + 1 } }
  else d.enterBlock (d.blockAfter d.stor.nextBlock)

/-- A block is retired (R405): its bit is due for page 59. -/
def Dev.retireBlock (d : Dev) (b : Nat) : Dev :=
  if d.goodBlock b && b < d.nat Reg.logBlockCount then
    let d := { d with stor := { d.stor with badBlocks := insertBy (fun x y => x ≤ y) b d.stor.badBlocks } }
    let d := ((d.setNat Reg.logBadBlocks d.stor.badBlocks.length).raise 115).askCommits [.badBlockTable (b / 128) 1]
    let d := match d.stor.erasedSkein with
      | some s => if d.usableSkeins.contains s then d else { d with stor := { d.stor with erasedSkein := none } }
      | none => d
    let d := d.refreshLog
    if d.stor.nextBlock == b then d.enterBlock (d.blockAfter b) else d
  else d

def execBlockRetire (b : Nat) (s : State) : Res :=
  .next (s.together (s.onDev (fun d => if d.cpuLive then d.retireBlock b else d)))

/-- A page is declared void (R404), its address due for page 57; `clears`: the intent that named it is to be cleared. -/
def Dev.voidPage (d : Dev) (block page : Nat) (clears : Bool) : Dev :=
  (({ d with stor := { d.stor with
    voids := d.stor.voids ++ [(block, page)],
    pages := d.stor.pages.filter (fun g => !(g.block == block && g.page == page)) } } : Dev).bump Reg.logVoidPages).askCommits
      [.voidList clears]

/-- The row of page 56 that the next entry goes into: past the last entry, or in a full page over the oldest (R405). -/
def Dev.entryRow (d : Dev) : Nat :=
  let n := d.pageCapacity
  (d.stor.openStart + (if n ≤ d.stor.openPage.length then 0 else d.stor.openPage.length)) % n

/-- An entry's row of page 56, and then the entry count, are new (R403, R405). -/
def Dev.putEntry (d : Dev) (e : List Nat) (k : Nat) : Dev :=
  let n := d.pageCapacity
  let full := n ≤ d.stor.openPage.length
  let row := d.entryRow
  let rows := setNth (d.stor.entryRows ++ List.replicate (row + 1 - d.stor.entryRows.length) (List.replicate 16 0)) row e
  let d : Dev := if k == 0 then d else { d with stor := { d.stor with entryRows := rows } }
  if k < 2 then d
  else { d with stor := { d.stor with
    stateWritten := true,
    openPage := (if full then d.stor.openPage.drop 1 else d.stor.openPage) ++ [e],
    openStart := if full then (d.stor.openStart + 1) % n else d.stor.openStart } }

/-- A commit of a queued entry is attempted: the commits requested before have run (R393), and the open page has room or need not
wait for its programming (R404, R405). -/
def Dev.entryStarts (d : Dev) : Bool :=
  d.cpuLive && d.stor.jobs.isEmpty && !d.stor.logQueue.isEmpty
    && !(d.pageCapacity ≤ d.stor.openPage.length && d.nat Reg.logState == 2)

/-- A queued entry is committed to the open page, or dropped after a double error (R403). Its commit waits for those requested
before (R393). A full page waits for its programming while the log runs; otherwise its oldest entry makes way (R405). One
commit writes rows of pages 56 and 57, against R393's one page; the journal row names page 56 (DEDUCED, assumption 175). -/
def Dev.logEntry (d : Dev) (ecc : Bool) (run : CommitRun) : Dev :=
  match d.stor.logQueue with
  | [] => d
  | e :: rest =>
    let popped := fun (d : Dev) => ({ d with stor := { d.stor with logQueue := rest } } : Dev)
    if !d.cpuLive || !d.stor.jobs.isEmpty then d
    else if ecc then (popped d).logDrop
    else if !d.entryStarts then d
    else match d.commit run [56, 57] d.entryRow 2 (fun k d => d.putEntry e k) with
      | (d, .done) => (popped d).refreshLogObjects
      | (d, .stopped k) => if 2 ≤ k then (popped d).refreshLogObjects else d
      | (d, .refused) => d

/-- The page that is next lies in the skein being filled or in the one erased ahead (R401). -/
def Dev.pageReady (d : Dev) : Bool :=
  let s := d.stor.nextBlock / 8
  d.stor.erasedSkein == some s || ((d.stor.pages.getLast?).map (fun g => g.block / 8)) == some s

/-- The open page is due for programming: full, or closed by command or by sleep entry (R404). -/
def Dev.programDue (d : Dev) : Bool :=
  !d.stor.openPage.isEmpty && (d.pageCapacity ≤ d.stor.openPage.length || d.stor.closeDue)

/-- The commit that closes the program intent (R404 step 3): after a page reported good it empties the open page too; after a
failed one the page is void and its block retired (R405). The first page of a skein is due for page 58 (R401). -/
def Dev.closeIntent (d : Dev) (b p : Nat) (r : ProgramResult) : Dev :=
  let d : Dev := { d with stor := { d.stor with ended := none } }
  if r == .failed then ((d.voidPage b p false).retireBlock b).refreshLogObjects
  else
    let page : LogPage := ⟨b, p, d.stor.nextSeq, d.stor.openPage, true⟩
    let entered := d.stor.erasedSkein == some (b / 8)
    let d := if entered then d.askCommits [.skeinIndex (b / 32) 1] else d
    let d := { d with stor := { d.stor with
      pages := d.stor.pages ++ [page], openPage := [], openStart := 0, closeDue := false,
      nextSeq := (d.stor.nextSeq + 1) % 2 ^ 32, erasedSkein := if entered then none else d.stor.erasedSkein } }
    d.advancePage.refreshLogObjects

/-- Programming goes on or begins: the log runs, the commits requested before have run, and an intent is to be closed or a page
is due and ready. -/
def Dev.programStarts (d : Dev) : Bool :=
  d.cpuLive && d.nat Reg.logState == 2 && d.stor.jobs.isEmpty && (d.stor.ended.isSome || (d.programDue && d.pageReady))

/-- Step 3 of R404 for an intent whose program operation has ended. -/
def Dev.programEnds (d : Dev) (r : ProgramResult) (run : CommitRun) : Dev :=
  match d.stor.intent with
  | none => d
  | some (b, p, _) =>
    let clear := fun (k : Nat) (d : Dev) =>
      if k == 0 then d else ({ d with stor := { d.stor with stateWritten := true, intent := none } } : Dev)
    match d.commit run [57] (Config.systemRow 2) 1 clear with
    | (d, .refused) => { d with stor := { d.stor with ended := some r } }
    | (d, .stopped 0) => { d with stor := { d.stor with ended := some r } }
    | (d, _) => d.closeIntent b p r

/-- The open page is programmed into NAND (R404, R405): the intent's commit, the operation, and the commit that closes the
intent; one that was refused is made again. Both wait for commits requested before (R393). -/
def Dev.programPage (d : Dev) (r : ProgramResult) (first second : CommitRun) : Dev :=
  let b := d.stor.nextBlock
  let p := d.stor.nextPage
  if d.stor.openPage.isEmpty && d.cpuLive then { d with stor := { d.stor with closeDue := false } }
  else if !d.programStarts then d
  else match d.stor.ended with
    | some r => d.programEnds r second
    | none =>
      let open_ := fun (k : Nat) (d : Dev) =>
        if k == 0 then d
        else ({ d with stor := { d.stor with stateWritten := true, intent := some (b, p, d.stor.nextSeq) } } : Dev)
      match d.commit first [57] (Config.systemRow 2) 1 open_ with
      | (d, .done) =>
        let d := d.nandDo programOps
        if r == .cut then d else d.programEnds r second
      | (d, _) => d

/-- LogCommand 1: the device is formatted (R401). Its blocks are all erased in this one command; blocks retired before stay
retired, and a block whose erase fails is retired (R405). The rows of pages 57 to 59 are due for their commits (R393). -/
def Dev.formatLog (d : Dev) : Dev :=
  if d.nat Reg.logState == 0 then d
  else
    let bad := d.stor.factoryBad.foldl (fun l b => if l.contains b then l else insertBy (fun x y => x ≤ y) b l) d.stor.badBlocks
    let d := { d with stor := { d.stor with
      badBlocks := bad, pages := [], voids := [], ended := none, nextSeq := 0, formatted := true, nextPage := 0 } }
    let d := d.askCommits [.voidList true, .skeinIndex 0 ((d.nat Reg.logBlockCount + 31) / 32),
      .badBlockTable 0 ((d.nat Reg.logBlockCount + 127) / 128)]
    let d := (d.setNat Reg.logBadBlocks bad.length).nandDo eraseOps
    let first := d.usableSkeins.head?
    let d := { d with stor := { d.stor with
      erasedSkein := first,
      nextBlock := (((List.range 8).map (fun i => 8 * first.getD 0 + i)).find? (fun b => d.goodBlock b)).getD 0 } }
    (d.stor.worn.foldl Dev.retireBlock d.refreshLog).refreshLogObjects

/-- The next skein is erased ahead of the one being filled, with the blocks that report failure (R401, R405). -/
def Dev.eraseSkein (d : Dev) (failed : List Nat) : Dev :=
  if !d.cpuLive || d.nat Reg.logState != 2 || d.stor.erasedSkein.isSome then d
  else
    let here := d.stor.nextBlock / 8
    let filling := ((d.stor.pages.getLast?).map (fun g => g.block / 8)) == some here
    let us := d.usableSkeins
    let voids := d.stor.voids
    let target := if filling then ((us.filter (fun s => here < s)) ++ us).headD here else here
    let d := { d with stor := { d.stor with
      pages := d.stor.pages.filter (fun g => g.block / 8 != target),
      voids := d.stor.voids.filter (fun v => v.1 / 8 != target),
      erasedSkein := some target } }
    let d := d.askCommits [.skeinIndex (target / 4) 1]
    let d := if d.stor.voids == voids then d else d.askCommits [.voidList false]
    ((failed.filter (fun b => b / 8 == target)).foldl Dev.retireBlock (d.nandDo eraseOps)).refreshLogObjects

def execSkeinErase (failed : List Nat) (s : State) : Res := .next (s.together (s.onDev (·.eraseSkein failed)))

/-- A page in the layout of R402, in 4,096 bytes. -/
def pageBytes (size capacity seq : Nat) (entries : List (List Nat)) : List Nat :=
  let slots := entries.flatten ++ List.replicate (16 * (capacity - entries.length)) 0xFF
  let head := leBytes 4 seq ++ leBytes 2 entries.length ++ [0, 0]
  head ++ leBytes 4 (crc32 (head ++ slots)) ++ [0, 0, 0, 0] ++ slots ++ List.replicate (4096 - size) 0xFF

/-- LogOpenPage (R406). -/
def Dev.openPageBytes (d : Dev) : List Nat :=
  pageBytes (d.nat Reg.logPageSize) d.pageCapacity d.stor.nextSeq d.stor.openPage

/-- LogReadSequence (R406). -/
def Dev.writeReadSequence (d : Dev) (v : Nat) : Written :=
  if v < d.nat Reg.logOldestSequence || d.nat Reg.logNewestSequence < v then .error outOfRange
  else .ok (d.setNat Reg.logReadSequence v)

/-- LogPageData (R406): the page selected; an erased page or one whose CRC fails answers command-refused. -/
def Dev.readLogPage (d : Dev) : Except Nat (List Nat) × Dev :=
  match d.stor.pages.find? (fun g => g.seq == d.nat Reg.logReadSequence) with
  | some g =>
    let d := d.nandDo readOps
    if g.crcOk then (.ok (pageBytes (d.nat Reg.logPageSize) d.pageCapacity g.seq g.entries), d)
    else (.error commandRefused, (d.voidPage g.block g.page false).refreshLogObjects)
  | none => (.error commandRefused, d)

/-- LogWrite: five bytes make an entry of kind 0x03 (Table 15.2). -/
def Dev.writeLog (d : Dev) (b : List Nat) : Dev := d.log 0x03 (nth b 0) (ofLe ((b.drop 1).take 4))

/-- LogCommand (R401, R404); `commissioned`: the requesting channel holds the commissioning state. -/
def Dev.writeLogCommand (d : Dev) (commissioned : Bool) (v : Nat) : Written :=
  if v == 1 then (if commissioned then .ok d.formatLog else .error commandRefused)
  else .ok { d with stor := { d.stor with closeDue := true } }

/-! ## FRAM scan (R398, R441) -/

/-- Objects of part `n` of the controller record that the scan takes from FRAM. The KA island's keep their values (R52, R420)
unless it has itself been reset since it took them (DESIGN CHOICE, assumption 43). -/
def Dev.scanned (d : Dev) (n key : Nat) : Bool := inRecord n key && (d.stor.kaFresh || !isKaKey key)

/-- Step 2 of Table 3.6: repair, selection of the slots in force, losses, and the log's state. A lost image keeps its page, and
is reported again until it is stored anew (R441). A page whose intent stands is void, and its entries are programmed again
(R404). -/
def Dev.scanFram (d : Dev) (logDevice : Option NandDevice) : Dev :=
  let g := d.stor.generation
  let repaired := d.stor.journal.isSome
  let bad := match d.stor.journal with
    | some j => d.stor.badSignatures.dropIf (fun k => k == j.page)
    | none => d.stor.badSignatures
  let recordLost := d.stor.record.any (fun x => x.lost g)
  let headLost := d.stor.headImage.lost g
  let memberLost := d.stor.members.any (fun e => e.2.lost g)
  let never := d.stor.record.any DualImage.unstored || d.stor.headImage.unstored
  let d := { d with stor := { d.stor with
    journal := none, badSignatures := bad,
    voids := d.stor.framVoids, badBlocks := d.stor.framBad,
    working := d.stor.members.filterMap (fun (e : Nat × DualImage) => (e.2.inForce g).map (fun m => (e.1, m))),
    nand := logDevice.isSome, factoryBad := (logDevice.map NandDevice.factoryBad).getD [],
    worn := (logDevice.map NandDevice.worn).getD [] } }
  let d := (List.range 5).foldl (fun d n =>
    let m := ((d.stor.record.getD n .blank).inForce g).getD .defaults
    d.takeImage (d.scanned n) ⟨m.regs.filter (fun e => d.scanned n e.1), m.strings⟩) d
  let d := { d with stor := { d.stor with kaFresh := false } }
  let p55 : Tab := ((d.stor.page55.inForce g).getD .defaults).regs
  let d := { d with svc := { d.svc with code := (p55.val ⟨0, 0⟩).toNat } }
  let d := (d.set Reg.checkValueConfirmed (p55.val ⟨1, 0⟩)).set Reg.confirmState (p55.val ⟨2, 0⟩)
  let d := d.setNat Reg.storeGeneration g
  let d := d.orBits Reg.framStatus ((if repaired then 1 else 0) + (if recordLost then 2 else 0) + (if headLost then 4 else 0)
    + (if memberLost then 8 else 0))
  let d := d.setBit Reg.framStatus 5 never
  let d := match d.stor.intent with
    | some (b, p, _) => ({ d with stor := { d.stor with closeDue := true } } : Dev).voidPage b p true |>.advancePage
    | none => d
  let d := ((d.setNat Reg.logBadBlocks d.stor.badBlocks.length).refreshLog).refreshLogObjects
  let d := if logDevice.isSome then d.nandDo [.reset, .readId] else d
  d.raiseIf (repaired || recordLost || headLost || memberLost) 113

/-! ## Calendar (R407 to R411) -/

/-- 2199-12-31 23:59:59 and 1,023/1,024 (R407). -/
def calendarMax : Nat := 6462908006399

/-- Source 118, at once or when the CPU runs (R408, R411). -/
def Dev.raiseCalendar (d : Dev) : Dev :=
  if d.cpuLive then d.raise 118 else { d with stor := { d.stor with raiseCalendar := true } }

/-- The CPU runs: the sources of the KA island that wait are raised together. -/
def Dev.raiseWaiting (d : Dev) : Dev :=
  let es := (if d.stor.raiseCalendar then [118] else []) ++ d.path.kaWaiting
  if d.cpuLive && !es.isEmpty then
    ({ d with
      stor := { d.stor with raiseCalendar := false }, path := { d.path with kaWaiting := [] } } : Dev).raiseMany es
  else d

/-- A wake source while the device sleeps or enters sleep is recorded; an enabled one abandons the entry or starts the warm
wake (R73, R74). An entry into ship mode knows exit conditions only (R328). -/
def Dev.noteWake (d : Dev) (bit : Nat) : Dev :=
  if (d.pwr.logic == .sleepEntry && !d.pwr.shipEntry) || d.pwr.logic == .sleep then
    let d := d.setBit Reg.wakeSource bit true
    let enabled := bit == 6 || d.bit Reg.wakeEnable bit
    if enabled && d.pwr.logic == .sleepEntry then
      ({ d with pwr := { d.pwr with logic := .active, closing := false } } : Dev).set Reg.powerMode 1
    else if enabled then { d with pwr := { d.pwr with wakeDue := true } }
    else d
  else d

/-- The count reaches a value: its end and the alarm (R407, R408). -/
def Dev.calendarReached (d : Dev) (t : Nat) : Dev :=
  let ended := t == calendarMax && !d.bit Reg.calendarStatus 1
  let d := (d.setNat Reg.calendarTime t).setBit Reg.calendarStatus 1 (t == calendarMax)
  let alarm := d.nat Reg.calendarAlarm
  let matched := alarm != 0 && t == alarm
  let d := if matched then ((d.setBit Reg.calendarStatus 2 true).setBit Reg.wakeSource 7 true).noteWake 7 else d
  if ended || matched then d.raiseCalendar else d

/-- One tick of the calendar, which the crystal gives (R407, R408). The count rests at its end. -/
def Dev.calendarTick (d : Dev) : Dev :=
  if !d.kaActive then d
  else
    let d := (d.setPwr (fun p => { p with crystal := true })).refreshSupply
    let old := d.nat Reg.calendarTime
    match d.stor.calendarWrite with
    | some v =>
      let d : Dev := { d with stor := { d.stor with calendarWrite := none } }
      let d := (d.setBit Reg.calendarStatus 0 false).calendarReached v
      d.log 0x04 0 (old / 1024 % 2 ^ 32)
    | none => if old < calendarMax then d.calendarReached (old + 1) else d

def execCalendarTick (s : State) : Res := .next (s.together (s.onDev (·.calendarTick)))

/-- CalendarTime (R408). -/
def Dev.writeCalendarTime (d : Dev) (v : Nat) : Written :=
  if calendarMax < v then .error outOfRange else .ok { d with stor := { d.stor with calendarWrite := some v } }

/-- A compensation step (R410) starts a conversion of the controller-die sensor. -/
def Dev.compensationStep (d : Dev) : Dev :=
  if !d.kaActive then d
  else { d with stor := { d.stor with compensationDue := true, ctrlTempBusy := true } }

def execCompensationStep (s : State) : Res := .next (s.onDev (·.compensationStep))

/-- e and n of R410 for the temperature in force. -/
def Dev.compensate (d : Dev) : Dev :=
  let t := d.reg Reg.ctrlDieTemperature
  let diff := t - d.reg Reg.crystalTurnover
  let e := d.reg Reg.crystalOffset * 1000 + d.reg Reg.crystalCurvature * (diff * diff)
  let n := roundDiv ((e.natAbs : Int) * 1966080) (10 ^ 11)
  let d := (d.set Reg.compensationInForce (roundDiv e 1000)).set Reg.compensationTemp t
  { d with stor := { d.stor with compensationDue := false, ticksToCorrect := if e < 0 then -n else n } }

/-- Crystal cycles of tick `i` of the 61,440 of a compensation window (R410): 32, or 31 or 33 on the ticks to correct, spread
evenly. Which tick of each even part is the corrected one is a DESIGN CHOICE (assumption 131). -/
def Dev.tickCycles (d : Dev) (i : Nat) : Nat :=
  let n := d.stor.ticksToCorrect.natAbs
  if i * n / 61440 == (i + 1) * n / 61440 then 32 else if d.stor.ticksToCorrect < 0 then 31 else 33

/-! ## Die temperature (R412, R413) -/

/-- A conversion is requested; one that runs serves the request (R412). -/
def Dev.requestTemp (d : Dev) (controller : Bool) : Dev :=
  if controller then { d with stor := { d.stor with ctrlTempBusy := true } }
  else { d with stor := { d.stor with monTempBusy := true } }

/-- Status, count and source of a reading outside −60.0 to +180.0 °C (R413). -/
def Dev.brokenReading (d : Dev) (controller : Bool) : Dev :=
  let status := if controller then Reg.ctrlDieTempStatus else Reg.monDieTempStatus
  let was := d.bit status 0
  let d := d.setBit status 0 true
  let d : Dev := if controller then { d.bump Reg.ctrlDieTempBroken with stor := { d.stor with ctrlTempValid := 0 } }
    else { d with stor := { d.stor with monTempValid := 0 } }
  d.raiseIf (!was) 119

/-- A valid reading; the mark clears after three in a row (R413). -/
def Dev.goodReading (d : Dev) (controller : Bool) (t : Int) : Dev :=
  let status := if controller then Reg.ctrlDieTempStatus else Reg.monDieTempStatus
  let n := (if controller then d.stor.ctrlTempValid else d.stor.monTempValid) + 1
  let d := (d.set (if controller then Reg.ctrlDieTemperature else Reg.monDieTemperature) t).setBit status 1 false
  let d : Dev := if controller then { d with stor := { d.stor with ctrlTempValid := min 3 n } }
    else { d with stor := { d.stor with monTempValid := min 3 n } }
  if 3 ≤ n then d.setBit status 0 false else d

/-- A conversion ends (R412, R413): the reading is taken, and the users take the last good value. -/
def Dev.dieTempDone (d : Dev) (controller : Bool) (t : Int) : Dev :=
  let busy := if controller then d.stor.ctrlTempBusy else d.stor.monTempBusy && d.monLive
  if !busy then d
  else
    let d : Dev := if controller then { d with stor := { d.stor with ctrlTempBusy := false } }
      else { d with stor := { d.stor with monTempBusy := false } }
    let d := if t < -600 || 1800 < t then d.brokenReading controller else d.goodReading controller t
    if controller then (if d.stor.compensationDue then d.compensate else d)
    else d.gaugeTempTaken

/-! ## Self-test swatches (R414 to R417) -/

/-- A failed controller swatch (R417). -/
def Dev.swatchFailed (d : Dev) (pos : Nat) : Dev :=
  let d := d.bump Reg.swatchFailures
  if pos < 1024 then ((d.setBit Reg.selfTestStatus 0 true).setNat Reg.sramFailBlock pos).raise 120
  else if pos < 1088 then ((d.setBit Reg.selfTestStatus 1 true).setNat Reg.romFailBlock (pos - 1024)).raise 121
  else ((d.setBit Reg.selfTestStatus 2 true).setNat Reg.framFailPage (pos - 1087)).raise 122

/-- The signature of the last read of a march over content of signature `first` (R415): the same, unless the memory under test has
failed, which is the command's operand (assumption 44). -/
def lastSignature (first : Nat) (failed : Bool) : Nat := if failed then first ^^^ 1 else first

/-- A page's content does not give the signature that the table of page 0 holds (R416). -/
def Storage.pageDiffers (s : Storage) (p : Nat) : Bool :=
  match Tab.find p s.badSignatures with
  | some v => v.toNat != s.pageSignature p
  | none => false

/-- The swatch that is next fails (R415, R416): an SRAM block by its two read signatures, the ROM with its last swatch, where any of
its words was not read as the ROM holds it, an FRAM page by its read or by its entry in the signature table. -/
def State.swatchFails (s : State) (failed : Bool) : Bool :=
  let pos := s.dev.nat Reg.swatchPosition
  if pos < 1024 then lastSignature (s.blockSignature pos) failed != s.blockSignature pos
  else if pos < 1088 then pos == 1087 && (failed || s.dev.stor.romFailed)
  else failed || s.dev.stor.pageDiffers (pos - 1087)

/-- A swatch of the controller engine (R414); `failed`: it read other words than the memory should hold, `fails`: its comparison is
not met. -/
def Dev.controllerSwatch (d : Dev) (failed fails : Bool) : Dev :=
  if !d.cpuLive || !d.on Reg.swatchControl then d
  else
    let pos := d.nat Reg.swatchPosition
    let rom := 1024 ≤ pos && pos < 1087 && (failed || d.stor.romFailed)
    let d := if fails then d.swatchFailed pos else d
    let d : Dev := { d with stor := { d.stor with romFailed := rom } }
    if 1150 ≤ pos then ((d.set Reg.swatchPosition 0).bump Reg.swatchCycles).raise 126
    else d.setNat Reg.swatchPosition (pos + 1)

/-- A failed monitor swatch (R417); sources 123 and 124 belong to the head's own monitor die. -/
def Dev.monSwatchFailed (d : Dev) (pos : Nat) : Dev :=
  let d := d.bump Reg.monSwatchFailures
  if pos < 256 then ((d.setBit Reg.monSelfTestStatus 0 true).setNat Reg.monFailBlock pos).raise 123
  else ((d.setBit Reg.monSelfTestStatus 1 true).setNat Reg.monTrimFailPage (pos - 256)).raise 124

/-- A swatch of the monitor engine; sample-buffer swatches are skipped while BufferState is 3 (R415). -/
def Dev.monitorSwatch (d : Dev) (failed : Bool) : Dev :=
  if !d.monLive || !d.on Reg.monSwatchControl then d
  else
    let skip := d.nat Reg.bufferState == 3 && d.stor.monSwatch < 256
    let pos := if skip then 256 else d.stor.monSwatch
    let skipped := d.stor.monSkipped || skip
    let d := if failed then d.monSwatchFailed pos else d
    if 257 ≤ pos then
      ({ d with stor := { d.stor with monSwatch := 0, monSkipped := false } } : Dev).setBit Reg.monSelfTestStatus 2 skipped
        |>.bump Reg.monSwatchCycles
    else { d with stor := { d.stor with monSwatch := pos + 1, monSkipped := skipped } }

def execSwatch (monitor failed : Bool) (s : State) : Res :=
  .next (s.together (s.onDev (fun d => if monitor then d.monitorSwatch failed else d.controllerSwatch failed (s.swatchFails failed))))

/-- SwatchControl and MonSwatchControl (R417): a stop raises source 125. -/
def Dev.writeSwatchControl (d : Dev) (monitor : Bool) (v : Nat) : Dev :=
  let r := if monitor then Reg.monSwatchControl else Reg.swatchControl
  let was := d.on r
  (d.setNat r v).raiseIf (was && v == 0) 125

end Sys2Proof.Machine
end

