-- ==== Sys2Proof/Machine/Converter.lean ====
section
/-! DEFINITION. The six-phase converter and the housekeeping bucks (R287 to R310). -/

namespace Sys2Proof.Machine

/-! ## Phases -/

def Dev.phase (d : Dev) (p : Nat) : Phase := (d.conv.phases[p - 1]?).getD .reset
def Dev.setPhase (d : Dev) (p : Nat) (v : Phase) : Dev :=
  { d with conv := { d.conv with phases := setNth d.conv.phases (p - 1) v } }

/-- ConverterState (Table 11.3). -/
def Dev.convState (d : Dev) : Nat := d.nat Reg.converterState
/-- Start, Running or Stopping. -/
def Dev.convOn (d : Dev) : Bool := d.convState == 1 || d.convState == 2 || d.convState == 3

def Dev.isActive (d : Dev) (p : Nat) : Bool := d.bit Reg.phaseActive (p - 1)
def Dev.isUsable (d : Dev) (p : Nat) : Bool := d.bit Reg.phaseUsable (p - 1)
def allPhases : List Nat := [1, 2, 3, 4, 5, 6]
def Dev.activePhases (d : Dev) : List Nat := allPhases.filter (fun p => d.isActive p)
def Dev.usableCount (d : Dev) : Nat := (allPhases.filter (fun p => d.isUsable p)).length

/-- PhaseState of a phase (Table 11.7). -/
def Dev.phaseStateOf (d : Dev) (p : Nat) : Nat :=
  if !d.bit Reg.phasePopulated (p - 1) then 0
  else if d.bit Reg.phaseExcluded (p - 1) then 6
  else if d.conv.shedding == some p then 4
  else if d.isActive p then (if (d.phase p).mirrored then 5 else 2)
  else if d.convOn then 3
  else 1

/-- PhaseUsable, PhaseState and the status bits follow. -/
def Dev.refreshPhases (d : Dev) : Dev :=
  let d := d.setNat Reg.phaseUsable (clearBits (d.nat Reg.phasePopulated) (d.nat Reg.phaseExcluded))
  let d := allPhases.foldl (fun d p => d.setNat (Reg.phaseState p) (d.phaseStateOf p)) d
  (d.setBit Reg.converterStatus 1 d.conv.shedding.isSome).setBit Reg.converterStatus 2
    (allPhases.any (fun p => d.isActive p && (d.phase p).mirrored))

/-- The limits of R295, each rounded down (assumption 120); in Reverse the power limit is the smaller of PowerLimit and
ReversePowerLimit (R321). -/
def Dev.refreshLimits (d : Dev) : Dev :=
  let u := d.usableCount
  let p := (allPhases.filter (fun p => d.bit Reg.phasePopulated (p - 1))).length
  let k := d.nat Reg.throttleStep
  let scale := fun v => if p == 0 then 0 else v * u * (16 - k) / (p * 16)
  (d.setNat Reg.currentLimitInForce (scale (d.nat Reg.converterCurrentLimit))).setNat Reg.powerLimitInForce
    (scale (if d.nat Reg.pathState == 4 then min (d.nat Reg.powerLimit) (d.nat Reg.reversePowerLimit)
      else d.nat Reg.powerLimit))

/-- A limit written outside Start, Running and Stopping shows at once: no update runs there; in those states the next update of R294
takes it (R311). -/
def Dev.limitsWritten (d : Dev) : Dev := if d.convOn then d else d.refreshLimits

/-- A phase with its gates off. -/
def Phase.idle (x : Phase) : Phase :=
  { x with
    portion := 0, requested := false, forced := false, mirrored := false, fixed := none, due := false, refreshed := false,
    lowBefore := false }

/-- The gates of a phase are off and no turn-on waits. -/
def Phase.isIdle (x : Phase) : Bool := x.portion == 0 && !x.requested

/-- All gates off: no phase switches. -/
def Dev.gatesOff (d : Dev) : Dev :=
  let d := { d with conv := { d.conv with
    phases := d.conv.phases.map Phase.idle,
    granted := [], first := 0, below := none, shedding := none, integral := 0, share := 0, limitUs := 0,
    startReady := false, stopUs := 0, stopFrom := 0 } }
  ((d.set Reg.phaseActive 0).set Reg.demandCurrent 0).setBit Reg.converterStatus 0 false

/-- The move to Off (Table 11.3): the causes clear, the direction commanded takes effect, and a source that a Fault had barred may
be selected again (R316). -/
def Dev.convOff (d : Dev) : Dev :=
  let d := ({ d with path := { d.path with blocked := 0 } } : Dev).gatesOff
  (((d.set Reg.converterState 0).set Reg.converterFaultCause 0).setBool Reg.directionInForce d.conv.reverse).refreshPhases

/-- A stop by the safety block (Table 11.3). -/
def Dev.convSafetyStop (d : Dev) : Dev := ({ d with conv := { d.conv with run := false } } : Dev).convOff

/-- A fault cause (R303). -/
def Dev.convFault (d : Dev) (cause : Nat) : Dev :=
  if d.convOn && cause < 4 then
    let d := d.gatesOff
    let d := { d with conv := { d.conv with persist := withBit d.conv.persist cause true } }
    let d := ((d.set Reg.converterState 4).setBit Reg.converterFaultCause cause true).refreshPhases
    d.raiseMany (64 :: (if cause == 1 then [70] else if cause == 0 || cause == 3 then [71] else []))
  else d

/-! ## Priority list (R293) -/

/-- The phases of PH1 → PH6 → PH1 that follow phase `p`, itself last. -/
def ringAfter (p : Nat) : List Nat := (allPhases.filter (fun q => p < q)) ++ allPhases.filter (fun q => q ≤ p)

/-- The priority list: the active phases in ring order from the one that stands first. -/
def Dev.priorityList (d : Dev) : List Nat :=
  (((allPhases.filter (fun q => d.conv.first ≤ q)) ++ allPhases.filter (fun q => q < d.conv.first))).filter
    (fun p => d.isActive p)

/-- Every active phase has been granted once. -/
def Dev.roundOver (d : Dev) : Bool := d.activePhases.all (fun p => d.conv.granted.contains p)

/-- The phase that stands first once the list has been rotated by one position; before the first round the list is not rotated
(assumption 46). -/
def Dev.rotatedFirst (d : Dev) : Nat :=
  match d.priorityList with
  | [] => d.conv.first
  | [p] => p
  | p :: q :: _ => if d.conv.first == 0 then p else q

/-- A round begins: the list is rotated by one, counted on the list as it stands, so also where the phase that stood first has left
the active set. -/
def Dev.newRound (d : Dev) : Dev :=
  if d.roundOver || d.conv.granted.isEmpty then
    { d with conv := { d.conv with first := d.rotatedFirst, granted := [] } }
  else d

/-- A phase asks for its turn-on. -/
def Dev.requestTurnOn (d : Dev) (p : Nat) : Dev := d.setPhase p { d.phase p with portion := 0, requested := true }

/-- The bootstrap undervoltage threshold in mV: 6.5 to 7.5 V by part (Table 16.11). -/
def bootstrapUv : Nat := 6500 + min 1000 Config.bootstrapStep.toNat

/-- A turn-on is granted (R293): 20 ns after the last grant, the waiting requests in the order of the list. A phase whose bootstrap
voltage is low is held off: its request stands, and waits (Table 16.11). -/
def Dev.turnOnGrant (d : Dev) (p sinceNs : Nat) : Dev :=
  if !d.convOn || !(d.phase p).requested || !d.isActive p || sinceNs < 20 || d.nat Reg.throttleStep == 16 then d
  else
    let r := d.newRound
    if (r.phase p).bstLow || (r.priorityList.filter (fun q => (r.phase q).requested && !(r.phase q).bstLow)).head? != some p then d
    else
      let d := r.setPhase p { r.phase p with portion := 1, requested := false }
      let d := { d with conv := { d.conv with granted := d.conv.granted ++ [p] } }
      d.setNat (Reg.phaseRegion p) d.conv.region

def execTurnOnGrant (p sinceNs : Nat) (s : State) : Res := .next (s.onDev (·.turnOnGrant p sinceNs))

/-! ## Portions and cycles (R290 to R292, R299, R300) -/

/-- Reference portions of a phase: means over the last completed cycles of the other active phases, or its own last 16 when
it runs alone, of the cycles neither forced nor mirrored (R299, assumption 121). -/
def Dev.references (d : Dev) (p : Nat) : Option (Nat × Nat) :=
  let others := d.activePhases.filter (fun q => q != p)
  let cycles := if others.isEmpty then (d.phase p).history else others.filterMap (fun q => (d.phase q).history.head?)
  if cycles.isEmpty then none
  else some ((meanInt (cycles.map (fun c => (c.1 : Int)))).toNat, (meanInt (cycles.map (fun c => (c.2 : Int)))).toNat)

/-- The shed phase leaves its gates off once its portion is over (R297), and no length stays imposed on it; whether its cycle is
forced stays until a cycle that it has completed is worked off. -/
def Dev.endIfShed (d : Dev) (p : Nat) : Dev :=
  let x := d.phase p
  if d.conv.shedding == some p then d.setPhase p { x.idle with due := x.due, forced := x.due && x.forced } else d

/-- The shortest cycle that the falling portion is held to: 833.3 ns, on the CNV clock (R291, DEDUCED, assumption 122). -/
def minCycle : Nat := 334

/-- 6.667 µs from the cycle's start, past which no portion runs that R299 has not ended (R291, DEDUCED, assumption 122). -/
def maxCycle : Nat := 2667

/-- A threshold is blanked for the first 100 ns of each portion (R290). -/
def blanking : Nat := 40

/-- Length at which a rising portion that has not crossed its threshold is forced: twice its reference, or the end of the longest
cycle (R291, R299). -/
def Dev.riseBound (d : Dev) (p : Nat) : Nat :=
  match d.references p with
  | some r => min (2 * r.1) maxCycle
  | none => maxCycle

/-- What 6.667 µs from the cycle's start leave the falling portion; where the rising one has used them up they end nothing more
(R291, DEDUCED, assumption 121). -/
def Phase.fallRest (x : Phase) : Option Nat := if x.riseNow < maxCycle then some (maxCycle - x.riseNow) else none

/-- The bound of a falling portion of no imposed length after a rising one of `riseNow`. -/
def Dev.fallBound (d : Dev) (p : Nat) : Nat :=
  let rest := maxCycle - (d.phase p).riseNow
  match d.references p with
  | some r => min (2 * r.2) rest
  | none => rest

/-- An imposed length that R291 does not cut: the portion ends there. -/
def Phase.reaches (x : Phase) (n : Nat) : Bool :=
  if x.portion == 1 then decide (n ≤ maxCycle) else match x.fallRest with | some r => decide (n ≤ r) | none => true

/-- A rising portion of `length` CNV cycles ends there with the sensed current `ma` (R290, R295, R299): at PhasePeakLimit at once;
at its imposed length where it has one; else at the upper threshold I_set + W/2, once that is no longer blanked. -/
def Dev.risingEnds (d : Dev) (p length : Nat) (ma : Int) : Bool :=
  let bound := min maxCycle ((d.phase p).fixed.getD (d.riseBound p))
  decide (length ≤ bound) && (decide ((d.nat Reg.phasePeakLimit : Int) ≤ ma)
    || match (d.phase p).fixed with
      | some n => length == n && (d.phase p).reaches n
      | none => decide (blanking ≤ length) && decide (2 * d.conv.share + d.nat (Reg.phaseWindow p) ≤ 2 * ma))

/-- The rising portion ends; the falling one begins (R290). -/
def Dev.risingEnd (d : Dev) (p length : Nat) (ma : Int) : Dev :=
  let x := d.phase p
  if x.portion == 1 && d.risingEnds p length ma then
    let fixed := if x.mirrored then (d.references p).map (·.2) else none
    (d.setPhase p { x with portion := 2, riseNow := length, fixed := fixed, refreshed := false }).endIfShed p
  else d

def execRisingPortionEnd (p length : Nat) (ma : Int) (s : State) : Res := .next (s.onDev (·.risingEnd p length ma))

/-- After a cycle the phase asks for its next turn-on, unless it is being shed. -/
def Dev.afterCycle (d : Dev) (p : Nat) : Dev :=
  if d.conv.shedding == some p then d.endIfShed p else d.requestTurnOn p

/-- A falling portion of `length` CNV cycles ends there (R290, R299): at its imposed length, or at the lower threshold I_set − W/2,
once that is no longer blanked. In a cycle whose rising portion was forced without a reference no bound is left to it
(DEDUCED, assumption 121). -/
def Dev.fallingEnds (d : Dev) (p length : Nat) (ma : Int) : Bool :=
  match (d.phase p).fixed with
  | some n => length == n && (d.phase p).reaches n
  | none => decide (blanking ≤ length) && ((d.phase p).forced || decide (length ≤ d.fallBound p))
      && decide (2 * ma ≤ 2 * d.conv.share - d.nat (Reg.phaseWindow p))

/-- A cycle ends after a falling portion of `length`, with the length imposed on the next rising portion: one shorter than 833.3 ns
is held to it and counted (R291). -/
def Dev.closeCycle (d : Dev) (p length : Nat) (fixed : Option Nat) : Dev :=
  let x := d.phase p
  let d := d.setPhase p { x with
    fallNow := max length (minCycle - x.riseNow), fixed := fixed, due := true, lowBefore := d.nat (Reg.phaseRegion p) != 2 }
  (if x.riseNow + length < minCycle then d.bump (Reg.phaseClampedCycles p) else d).afterCycle p

/-- The falling portion ends and asks for the next turn-on (R290). -/
def Dev.fallingEnd (d : Dev) (p length : Nat) (ma : Int) : Dev :=
  let x := d.phase p
  if x.portion == 2 && d.fallingEnds p length ma then
    d.closeCycle p length (if x.mirrored then (d.references p).map (·.1) else none)
  else d

def execFallingPortionEnd (p length : Nat) (ma : Int) (s : State) : Res := .next (s.onDev (·.fallingEnd p length ma))

/-- The portion in progress has a bound that forces its end: one of no imposed length in a cycle not forced before (R299), or one
whose imposed length runs past 6.667 µs from the cycle's start (R291). -/
def Phase.canBeForced (x : Phase) : Bool :=
  match x.fixed with
  | some n => !x.reaches n
  | none => !x.forced

/-- A portion that reaches its bound is forced (R291, R299): the portion that follows lasts twice its reference. Source 67 opens an
episode. -/
def Dev.portionForced (d : Dev) (p : Nat) (rising : Bool) : Dev :=
  let x := d.phase p
  if !d.convOn || x.portion != (if rising then 1 else 2) || !x.canBeForced then d
  else
    let refs := d.references p
    let t := if rising then
        (d.setPhase p { x with
          portion := 2, forced := true, fixed := refs.map (fun r => 2 * r.2),
          riseNow := if x.fixed.isSome then maxCycle else d.riseBound p, refreshed := false }).endIfShed p
      else
        (d.setPhase p { x with forced := true }).closeCycle p
          (if x.fixed.isSome then maxCycle - x.riseNow else d.fallBound p) (refs.map (fun r => 2 * r.1))
    t.raiseIf (!x.mirrored && !x.forced) 67

def execPortionForced (p : Nat) (rising : Bool) (s : State) : Res := .next (s.together (s.onDev (·.portionForced p rising)))

/-- Bootstrap refresh of a high side held on (R292): only at the start of a falling portion, so with no part of it run. It leaves the
portion as it is; the gates show it (`Dev.phaseGate`). -/
def Dev.bootstrap (d : Dev) (p since : Nat) : Dev :=
  if (d.phase p).portion == 2 && since == 0 && d.nat (Reg.phaseRegion p) != 1 then
    d.setPhase p { d.phase p with refreshed := true }
  else d

def execBootstrapRefresh (p since : Nat) (s : State) : Res := .next (s.onDev (·.bootstrap p since))

/-- The window of R291 after a cycle of `cycle` CNV cycles, 400 of which make 1 µs. -/
def Dev.adaptWindow (d : Dev) (p cycle : Nat) : Dev :=
  let w := d.nat (Reg.phaseWindow p)
  let step := (roundDiv w 16).toNat
  let w := if d.nat Reg.freqHigh * cycle < 400000 then w + step
    else if 400000 < d.nat Reg.freqLow * cycle then w - step else w
  d.setNat (Reg.phaseWindow p) (max (d.nat Reg.windowMin) (min w (d.nat Reg.windowMax)))

/-- The phase is excluded (R301). -/
def Dev.excludePhase (d : Dev) (p : Nat) : Dev :=
  let d := d.setPhase p (d.phase p).idle
  let d := (d.setBit Reg.phaseExcluded (p - 1) true).setBit Reg.phaseActive (p - 1) false
  let d := { d with conv := { d.conv with
    shedding := if d.conv.shedding == some p then none else d.conv.shedding, below := none } }
  let d := (d.refreshPhases.bump Reg.exclusionCount).raise 65
  if d.usableCount == 0 then d.convFault 2 else d

/-- PhaseDeviation: |mean − I_set| / I_set in percent; where I_set is not above 0 no value is stated. -/
def Dev.showDeviation (d : Dev) (p : Nat) (mean : Int) : Dev :=
  let i := d.conv.share
  if 0 < i then d.setNat (Reg.phaseDeviation p) (min 255 (roundDiv ((mean - i).natAbs * 100) i.toNat).toNat)
  else
    let (w, d) := d.freeWord
    d.setNat (Reg.phaseDeviation p) (w.toNat % 256)

/-- The deviation test of a cycle (R300). -/
def Dev.testDeviation (d : Dev) (p : Nat) (mean : Int) : Dev :=
  let i := d.conv.share
  let d := d.showDeviation p mean
  let within := 0 < i && ((mean - i).natAbs : Int) * 100 ≤ d.nat Reg.failDeviation * i
  let x := d.phase p
  let d := if within && x.mirrored then d.setPhase p { x with mirrored := false, fixed := none } else d
  if i < d.nat Reg.phaseCheckMin then d
  else if within then d.set (Reg.phaseDeviationCount p) 0
  else
    let n := d.nat (Reg.phaseDeviationCount p) + 1
    let d := d.setNat (Reg.phaseDeviationCount p) (min 255 n)
    if d.nat Reg.failCycles ≤ n then d.excludePhase p else d

/-- A completed cycle is worked off: window, forced count, references, mirrored control and deviation test (R291, R299, R300); the
row's telemetry takes the cycle (R306). The first mirrored cycle's rising portion has the length that a forced falling portion
imposed, else t_r,ref. -/
def Dev.cycleEnd (d : Dev) (p : Nat) (mean : Int) : Dev :=
  if !d.convOn || !(d.isActive p || d.conv.shedding == some p) || !(d.phase p).due then d
  else
    let y := d.phase p
    let cycle := y.riseNow + y.fallNow
    let x := { y with due := false, rowCycles := y.rowCycles + 1, rowLength := y.rowLength + cycle }
    let d := (d.setPhase p x).adaptWindow p cycle
    let d := if x.forced || x.mirrored then d.bump (Reg.phaseForcedCycles p)
      else d.setPhase p { x with history := ((x.riseNow, x.fallNow) :: x.history).take 16 }
    let d := if d.conv.shedding == some p then d.setPhase p { d.phase p with forced := false } else d.testDeviation p mean
    let y := d.phase p
    let d := if x.forced && d.isActive p then
        d.setPhase p { y with
          forced := false, mirrored := true,
          fixed := match y.fixed with | some n => some n | none => (d.references p).map (·.1) }
      else d
    d.refreshPhases

/-! ## Outer loop (R294 to R298) -/

/-- The region of R289 for the voltages at an update. -/
def Dev.judgeRegion (d : Dev) (vs vr : Nat) : Nat :=
  let r := d.conv.region
  if r == 0 && 110 * vr ≤ 100 * vs then 0
  else if r == 2 && 100 * vs ≤ 91 * vr then 2
  else if 115 * vr ≤ 100 * vs then 0
  else if 100 * vs ≤ 87 * vr then 2
  else 1

/-- A phase is returned (R298): it asks for its turn-on at once and stands at its ring position. -/
def Dev.addPhase (d : Dev) (p : Nat) : Dev :=
  let x := d.phase p
  let d := (d.setBit Reg.phaseActive (p - 1) true).setPhase p
    { x.idle with requested := true, due := x.due, forced := x.due && x.forced }
  { d with conv := { d.conv with lastAdded := p, below := none } }

/-- The cancelled shed (R298). -/
def Dev.cancelShed (d : Dev) : Dev :=
  match d.conv.shedding with
  | some p => ((({ d with conv := { d.conv with shedding := none } } : Dev).addPhase p).bump Reg.shedCancelCount).raise 66
  | none => d

/-- The next shed, usable phase in ring order after the one added last (R298). -/
def Dev.nextShed (d : Dev) : Option Nat :=
  (ringAfter d.conv.lastAdded).find? (fun p => d.isUsable p && !d.isActive p && d.conv.shedding != some p)

/-- Phases are returned until N reaches N_req (R298). -/
def Dev.addTo (d : Dev) : Nat → Nat → Dev
  | 0, _ => d
  | fuel + 1, need =>
    if need ≤ d.activePhases.length then d
    else if d.conv.shedding.isSome then d.cancelShed.addTo fuel need
    else match d.nextShed with
      | some p => (d.addPhase p).addTo fuel need
      | none => d

/-- The shed decision of R297, unless phases were added at this update (Table 11.2). -/
def Dev.judgeShed (d : Dev) (dem : Int) : Dev :=
  let n := d.activePhases.length
  if d.conv.shedding.isSome then d
  else if d.on Reg.shedEnable && 2 ≤ n && dem < ((n - 1) * d.nat Reg.shedLevel : Nat) then
    let held := match d.conv.below with | some u => u + 1 | none => 0
    if d.nat Reg.shedDelay ≤ held then
      match d.priorityList.getLast? with
      | some p =>
        let d := { d with conv := { d.conv with shedding := some p, below := none } }
        let d := d.setBit Reg.phaseActive (p - 1) false
        if (d.phase p).portion == 0 then d.setPhase p { d.phase p with requested := false } else d
      | none => d
    else { d with conv := { d.conv with below := some held } }
  else { d with conv := { d.conv with below := none } }

/-- The voltage loop's demand in nA (R294). -/
def Dev.voltageDemand (d : Dev) (e : Int) (integral : Int) : Int :=
  d.nat Reg.vLoopKp * e * 1000 + d.nat Reg.vLoopKi * integral

/-- The integrator of a voltage loop that did not set I_dem is held at the value that would have given it (R294). -/
def Dev.heldIntegral (d : Dev) (e dem integral : Int) : Int :=
  let ki := d.nat Reg.vLoopKi
  if ki == 0 then integral else roundDiv (dem * 1000000 - d.nat Reg.vLoopKp * e * 1000) ki

/-- The demand after the limits of R295: before the phase limit, and in force. -/
def Dev.limitDemand (d : Dev) (vs : Nat) (dem : Int) : Int × Int :=
  let cur : Int := d.nat Reg.currentLimitInForce
  let a := min dem cur
  let a := if vs == 0 then a else min a ((d.nat Reg.powerLimitInForce * 1000 / vs : Nat) : Int)
  let b := min a ((d.usableCount * d.nat Reg.phaseCurrentLimit : Nat) : Int)
  (max a (-(cur / 4)), max b (-(cur / 4)))

/-- The further clamp of degraded mode (R378). -/
def Dev.degradedClamp (d : Dev) (dem : Int) : Int :=
  if d.safe.degraded then
    let l : Int := (d.nat Reg.degradedFraction * d.nat Reg.currentLimitInForce / 16 : Nat)
    clampInt (-l) l dem
  else dem

/-- The limit flag (R295); source 68 on its rising. -/
def Dev.limitFlag (d : Dev) (on : Bool) : Dev :=
  let was := d.bit Reg.converterStatus 0
  (d.setBit Reg.converterStatus 0 on).raiseIf (on && !was) 68

/-- I_dem takes a value and is shared (R294). -/
def Dev.shareDemand (d : Dev) (dem : Int) : Dev :=
  let n := d.activePhases.length
  let d := d.set Reg.demandCurrent dem
  { d with conv := { d.conv with share := if n == 0 then 0 else roundDiv dem n } }

/-- The ramp of 10 V/ms, in Start and for a transition as source (R348), and the conditions that end Start (Table 11.3). -/
def Dev.startProgress (d : Dev) (node : Int) (limited : Bool) : Dev :=
  let t : Int := d.conv.targetMv
  let r := d.conv.rampMv
  let limitUs := if limited then d.conv.limitUs + 1 else 0
  { d with conv := { d.conv with
    rampMv := if r < d.conv.targetMv then min (r + 10) d.conv.targetMv else max (r - 10) d.conv.targetMv,
    limitUs := limitUs,
    startReady := ((node - t).natAbs : Int) * 50 ≤ t || 1000 ≤ limitUs } }

/-- The limit loops that the power path enables: the regulated-node current loop where a limit is set for it, and in Source the
source-side current loop and the source-side voltage floor, unless a transition holds the floor at 0 (R294, R314, R325, R347). -/
def Dev.loopEnabled (d : Dev) (k : Nat) : Bool :=
  if k == 0 then d.path.outLimit.isSome
  else if k == 1 then d.nat Reg.pathState == 2
  else k == 2 && d.nat Reg.pathState == 2 && !d.path.floorOff

/-- The demands of the loops that are enabled. -/
def Dev.loopDemands (d : Dev) (demands : List Int) : List Int :=
  ((upTo 3).filterMap (fun k => if d.loopEnabled (k - 1) then demands[k - 1]? else none))

/-- Phases whose gates a throttle step of 16 had turned off switch again at the first update with a lower step (Table 11.3). -/
def Dev.resumePhases (d : Dev) : Dev :=
  if d.nat Reg.throttleStep == 16 then d
  else (d.activePhases.filter (fun p => (d.phase p).isIdle)).foldl Dev.requestTurnOn d

/-- The demand of Stopping after `u` updates (Table 11.3); 0 at a throttle step of 16. -/
def Dev.stopRamp (d : Dev) (u : Nat) : Int :=
  if d.nat Reg.throttleStep == 16 then 0 else d.conv.stopFrom * (100 - u : Nat) / 100

/-- One update of the outer loop (R294 to R298, Table 11.2, R378). `demands` are those of the three limit loops: regulated-node
current, source-side current, source-side voltage floor. The manual gives their law no numbers, so they come from outside
(assumption 123). -/
def Dev.outerUpdate (d : Dev) (vs vr : Nat) (demands : List Int) : Dev :=
  if !d.convOn || !d.cnvRuns then d
  else
    let d : Dev := { d with conv := { d.conv with region := d.judgeRegion vs vr, nodeMv := vr } }
    let d := d.refreshLimits.resumePhases
    if d.convState == 3 then
      let u := min 100 (d.conv.stopUs + 1)
      let d := { d with conv := { d.conv with stopUs := u } }
      let dem := d.stopRamp u
      let b := d.degradedClamp (d.limitDemand vs dem).2
      (d.shareDemand b).limitFlag (b != dem)
    else
      let ramps := d.convState == 1 || d.on Reg.directionInForce
      let e : Int := (if ramps then d.conv.rampMv else d.conv.targetMv : Nat) - (vr : Int)
      let integral := d.conv.integral + e
      let dv := roundDiv (d.voltageDemand e integral) 1000000
      let dem := (d.loopDemands demands).foldl min dv
      let (a, b) := d.limitDemand vs dem
      let b := d.degradedClamp b
      let limited := dem < dv || b != dem
      let d := { d with conv := { d.conv with integral := if limited then d.heldIntegral e b integral else integral } }
      let need := min d.usableCount (if a ≤ 0 then 0 else (a.toNat + d.nat Reg.addLevel - 1) / d.nat Reg.addLevel)
      let d := if d.activePhases.length < need then d.addTo 7 need
        else d.judgeShed b
      let d := (d.shareDemand b).limitFlag limited
      let d := if ramps then d.startProgress vr limited else d
      d.refreshPhases

def execOuterLoopUpdate (vs vr : Nat) (demands : List Int) (s : State) : Res :=
  .next (s.together (s.onDev (·.outerUpdate vs vr demands)))

/-- The shed completes; a new ShedDelay count may start (R297). -/
def Dev.shedDone (d : Dev) : Dev :=
  match d.conv.shedding with
  | some p =>
    let d := d.setPhase p (d.phase p).idle
    ({ d with conv := { d.conv with shedding := none, below := none } } : Dev).refreshPhases
  | none => d

def execShedComplete (s : State) : Res := .next (s.onDev (·.shedDone))

/-! ## States (R303) -/

/-- The power path gives the run command with its direction and target (R287). A direction commanded outside Off waits for
the next Off. -/
def Dev.commandRun (d : Dev) (target : Nat) (reverse : Bool) : Dev :=
  { d with conv := { d.conv with run := true, reverse := reverse, targetMv := target } }

/-- The power path removes the run command. -/
def Dev.commandStop (d : Dev) : Dev := { d with conv := { d.conv with run := false, reverse := false } }

/-- Start from Off under the run command: VDRV at or above 9.0 V and a usable phase (Table 11.3). Every usable phase is
active at the start (assumption 46), and the region is buck-boost until the first update judges it (assumption 124). At a throttle
step of 16 every gate stays off until an update with a lower step (Table 11.3). -/
def Dev.convRun (d : Dev) (vdrv node : Nat) : Dev :=
  if !d.cnvRuns || !d.conv.run || d.convState != 0 then d
  else
    let d := d.setBool Reg.directionInForce d.conv.reverse
    if 9000 ≤ vdrv && 0 < d.usableCount then
      let d := { d with conv := { d.conv with
        rampMv := node, nodeMv := node, integral := 0, limitUs := 0, startReady := false, first := 0, granted := [],
        region := 1 } }
      let d := (d.set Reg.converterState 1).setNat Reg.phaseActive (d.nat Reg.phaseUsable)
      d.resumePhases.refreshLimits.refreshPhases
    else d

def execConverterRun (vdrv node : Nat) (s : State) : Res := .next (s.onDev (·.convRun vdrv node))

def Dev.convStartDone (d : Dev) : Dev :=
  if d.convState == 1 && d.conv.startReady then d.set Reg.converterState 2 else d

def execConverterStartDone (s : State) : Res := .next (s.onDev (·.convStartDone))

/-- The run command has been removed: Stopping, with the active set frozen (Table 11.3, Table 11.2). -/
def Dev.convStop (d : Dev) : Dev :=
  if !d.conv.run && (d.convState == 1 || d.convState == 2) then
    ({ d with conv := { d.conv with stopFrom := d.reg Reg.demandCurrent, stopUs := 0 } } : Dev).set Reg.converterState 3
  else d

def execConverterStop (s : State) : Res := .next (s.onDev (·.convStop))

def execConverterStopped (s : State) : Res := .next (s.onDev (fun d => if d.convState == 3 then d.convOff else d))

/-- The fault causes that the converter can still see (R303). -/
def Dev.persisting (d : Dev) : Nat := withBit d.conv.persist 2 (d.usableCount == 0)

/-- ConverterFaultClear (Table 11.3). Written outside Fault it changes nothing. -/
def Dev.writeFaultClear (d : Dev) : Written :=
  if d.convState != 4 then .ok d
  else if d.persisting != 0 then .error commandRefused
  else .ok d.convOff

/-- PhaseExcludedClear (R301). -/
def Dev.writeExcludedClear (d : Dev) (v : Nat) : Written :=
  if d.convState != 0 then .error commandRefused
  else .ok (((d.andNot Reg.phaseExcluded v).refreshPhases).refreshLimits)

/-- PhasePopulated (Table 11.6). -/
def Dev.writePopulated (d : Dev) (v : Nat) : Written :=
  if d.convState != 0 then .error commandRefused
  else .ok (((d.setNat Reg.phasePopulated v).refreshPhases).refreshLimits)

/-! ## Throttling (R304, R305) -/

/-- A conversion is requested every ThrottleInterval (R304). -/
def Dev.throttleInterval (d : Dev) : Dev :=
  if d.convState == 1 || d.convState == 2 then d.requestTemp true else d

def execThrottleInterval (s : State) : Res := .next (s.onDev (·.throttleInterval))

/-- k of R304 for one temperature. -/
def throttleOf (t start : Int) (step : Nat) : Nat :=
  if t < start then 0 else min 16 (1 + ((t - start) / (step : Int)).toNat)

/-- k_new of R304 with both temperatures `plus` tenths higher. -/
def Dev.throttleNew (d : Dev) (plus : Int) : Nat :=
  let cell := d.reg Reg.ainTempMax
  max (throttleOf (d.reg Reg.ctrlDieTemperature + plus) (d.reg Reg.dieThrottleStart) (d.nat Reg.dieThrottleStep))
    (if cell == -32768 then d.nat Reg.throttleNoTemp
     else throttleOf (cell + plus) (d.reg Reg.cellThrottleStart) (d.nat Reg.cellThrottleStep))

/-- ThrottleStep takes k_new (R305). -/
def Dev.throttleCompute (d : Dev) : Dev :=
  let now := d.nat Reg.throttleStep
  let new := d.throttleNew 0
  if !d.cpuLive then d
  else if now < new then
    let d := (d.setNat Reg.throttleStep new).raiseIf (now == 0) 69
    if new == 16 then
      (({ d with conv := { d.conv with phases := d.conv.phases.map Phase.idle } } : Dev).shareDemand 0).refreshPhases
    else d
  else if d.throttleNew 30 < now then d.setNat Reg.throttleStep (now - 1)
  else d

def execThrottleCompute (s : State) : Res := .next (s.together (s.onDev (·.throttleCompute)))

/-! ## Telemetry (R306) -/

/-- PhaseFrequency of the row that closes, in Hz to the nearest (R306, assumption 120). -/
def Phase.frequency (x : Phase) : Nat :=
  if x.rowLength == 0 then 0 else (roundDiv ((x.rowCycles * 400000000 : Nat) : Int) x.rowLength).toNat

/-- The inductor current while the regulated-side leg delivers: in buck all of it, else that of the falling portion. -/
def PhaseSense.delivered (x : PhaseSense) : Int :=
  if x.portion != 0 && (x.region == 0 || x.portion == 2) then x.ma else 0

/-- The inductor current while the source-side leg conducts: in boost all of it, else that of the rising portion. -/
def PhaseSense.drawn (x : PhaseSense) : Int :=
  if x.portion != 0 && (x.region == 2 || x.portion == 1) then x.ma else 0

/-- The reading of largest magnitude, with its sign; of two that are equally large the first (assumption 120). -/
def peakOf (l : List Int) : Int := l.foldl (fun m v => if m.natAbs < v.natAbs then v else m) 0

/-- The readings of phase p. -/
def readingsOf (sensed : List (List PhaseSense)) (p : Nat) : List PhaseSense := (sensed[p - 1]?).getD []

/-- A sum over the phases of a row mean. -/
def rowSum (sensed : List (List PhaseSense)) (f : PhaseSense → Int) : Int :=
  (allPhases.map (fun p => meanInt ((readingsOf sensed p).map f))).foldl (· + ·) 0

/-- The bootstrap voltages that a row's readings of a phase show (Table 16.11): below the threshold its gates go off and its turn-on
waits, until a row without such a reading. -/
def Dev.checkBootstrap (d : Dev) (p : Nat) (l : List PhaseSense) : Dev :=
  let x := d.phase p
  let low := l.any (fun y => decide (y.bstMv < bootstrapUv))
  if l.isEmpty then d
  else if low && !x.isIdle then d.setPhase p { x.idle with requested := true, bstLow := true }
  else d.setPhase p { x with bstLow := low }

/-- The row's telemetry closes (R306): from the readings of the phase senses over the row, evenly spaced. The same readings of VDRV
and the node show which fault causes persist (R303), those of the bootstrap voltages which phases are held off (R433). -/
def Dev.telemetry (d : Dev) (vdrv vs : Nat) (node : Int) (sensed : List (List PhaseSense)) : Dev :=
  if !d.cnvRuns then d
  else
    let d := ((d.set Reg.outputVoltage node).set Reg.outputCurrent (rowSum sensed PhaseSense.delivered)).set Reg.inputPower
      (roundDiv (vs * rowSum sensed PhaseSense.drawn) 1000)
    let d := allPhases.foldl (fun d p =>
      let l := readingsOf sensed p
      let d := ((d.set (Reg.phaseMeanCurrent p) (meanInt (l.map (·.ma)))).set (Reg.phasePeakCurrent p)
        (peakOf (l.map (·.ma)))).setNat (Reg.phaseFrequency p) (d.phase p).frequency
      (d.setPhase p { d.phase p with rowCycles := 0, rowLength := 0 }).checkBootstrap p l) d
    let beyond := (d.conv.targetMv : Int) * (1000 + d.nat Reg.outputOvMargin) < node * 1000
    let limit : Int := if d.on Reg.directionInForce then 53000 else 115000
    let m := withBit (withBit (withBit d.conv.persist 0 beyond) 1 (vdrv < 8500)) 3 (limit < node)
    { d with conv := { d.conv with nodeMv := node, persist := withBit m 2 false } }

def execConverterTelemetry (vdrv vs : Nat) (node : Int) (sensed : List (List PhaseSense)) (s : State) : Res :=
  .next (s.onDev (·.telemetry vdrv vs node sensed))

/-! ## Housekeeping bucks (R308, R309) -/

/-- HB2 is on (R308): in Active, which an entry leaves with its last step (R73), with Hb2Enable, and in sleep with Hb2Sleep as
well. -/
def Dev.hb2On (d : Dev) : Bool :=
  !d.conv.hb2Off && d.on Reg.hb2Enable
    && (d.cnvRuns || (d.pwr.role == .head && d.pwr.logic == .sleep && d.on Reg.hb2Sleep))

/-- HB2's limit has acted for 1 ms: off for 10 ms, counted, and source 73, in sleep too (R308). -/
def Dev.hb2Fault (d : Dev) : Dev :=
  if d.hb2On then ((({ d with conv := { d.conv with hb2Off := true } } : Dev).bump Reg.hbFaultCount).raiseNow [73]) else d

/-- Own frequency of the housekeeping bucks in Hz (R309). -/
def Dev.ownHz (d : Dev) : Nat := d.nat Reg.hbFrequency * 1000

/-- A frequency `us` microseconds into the linear slew of 2 ms (R309). -/
def slewHz (start goal : Int) (us : Nat) : Nat := (start + (goal - start) * (min us 2000 : Nat) / 2000).toNat

/-- Frequency of the housekeeping bucks in Hz, `us` microseconds into a slew: their own clock, SYNC_IN once locked, on the way
between the two while they slew (R309). -/
def Dev.buckHz (d : Dev) (us : Nat) : Nat :=
  match d.nat Reg.hbSyncState with
  | 0 => d.ownHz
  | 1 => slewHz d.conv.slewFrom d.conv.syncHz us
  | 2 => slewHz d.conv.slewFrom d.ownHz us
  | _ => d.conv.syncHz

/-- HB2 turns on half a period after HB1 (R309), in ps. -/
def Dev.hb2Delay (d : Dev) (us : Nat) : Nat := (roundDiv (1000000000000 : Int) (2 * d.buckHz us)).toNat

/-- SYNC_IN can be acquired from these periods (R309): 16 of them, each within 0.4 to 2.2 MHz and within ±2 % of their mean. -/
def syncFits (periods : List Nat) : Bool :=
  let sum : Nat := periods.foldl (· + ·) 0
  periods.length == 16 && periods.all (fun t =>
    decide (400000 * t ≤ 1000000000000) && decide (1000000000000 ≤ 2200000 * t)
      && decide (50 * ((16 * t : Nat) - (sum : Int)).natAbs ≤ sum))

/-- The mean frequency of 16 periods in ps, to the nearest Hz (assumption 120). -/
def syncMean (periods : List Nat) : Nat :=
  (roundDiv (16000000000000 : Int) (periods.foldl (· + ·) 0)).toNat

/-- SYNC_IN is acquired, on the own clock or `us` microseconds into the slew back to it: the bucks slew from the frequency reached
(R309). -/
def Dev.syncAcquired (d : Dev) (periods : List Nat) (us : Nat) : Dev :=
  let st := d.nat Reg.hbSyncState
  if d.cpuLive && d.on Reg.hbSyncEnable && (st == 0 || st == 2) && syncFits periods then
    (({ d with conv := { d.conv with slewFrom := d.buckHz us, syncHz := syncMean periods } } : Dev).set Reg.hbSyncState 1).raise 74
  else d

def execSyncAcquired (periods : List Nat) (us : Nat) (s : State) : Res :=
  .next (s.together (s.onDev (·.syncAcquired periods us)))

/-- The bucks leave SYNC_IN: they hold the frequency `hz` reached and slew from it to their own clock. -/
def Dev.syncLeave (d : Dev) (hz : Nat) : Dev :=
  (({ d with conv := { d.conv with slewFrom := hz } } : Dev).set Reg.hbSyncState 2).set Reg.hbSyncFrequency 0

/-- SYNC_IN no longer holds the acquired frequency (R309): no edge for 2 periods of it (`none`), or a period that departs from it by
more than 10 %. -/
def Dev.syncBroken (d : Dev) (period : Option Nat) : Bool :=
  match period with
  | none => true
  | some t => decide ((1000000000000 : Int) < 10 * (((t * d.conv.syncHz : Nat) : Int) - 1000000000000).natAbs)

/-- SYNC_IN is lost, locked or `us` microseconds into the slew to it (R309). -/
def Dev.syncLost (d : Dev) (period : Option Nat) (us : Nat) : Dev :=
  let st := d.nat Reg.hbSyncState
  if d.cpuLive && (st == 1 || st == 3) && d.syncBroken period then (d.syncLeave (d.buckHz us)).raise 75 else d

def execSyncLost (period : Option Nat) (us : Nat) (s : State) : Res := .next (s.together (s.onDev (·.syncLost period us)))

/-- The 2 ms slew ends (R309): locked, or on the own clock. -/
def Dev.slewEnd (d : Dev) : Dev :=
  let st := d.nat Reg.hbSyncState
  if !d.cpuLive then d
  else if st == 1 then (d.set Reg.hbSyncState 3).setNat Reg.hbSyncFrequency d.conv.syncHz
  else if st == 2 then d.set Reg.hbSyncState 0
  else d

def execHbSyncSlewEnd (s : State) : Res := .next (s.onDev (·.slewEnd))

/-- HbSyncEnable (R309): written 0, the bucks return to their own clock. How far a slew to SYNC_IN had come at the write no command
says: the frequency it leaves from is a free value between its ends (assumption 157). -/
def Dev.writeSyncEnable (d : Dev) (v : Nat) : Dev :=
  let d := d.setNat Reg.hbSyncEnable v
  let st := d.nat Reg.hbSyncState
  if v != 0 then d
  else if st == 3 then d.syncLeave d.conv.syncHz
  else if st == 1 then
    let (w, d) := d.freeWord
    d.syncLeave (d.buckHz (w.toNat % 2001))
  else d

end Sys2Proof.Machine
end

