-- ==== Sys2Proof/Machine/PowerPath.lean ====
section
/-! DEFINITION. The power path, traction charging and the keep-alive island (R312 to R334). -/

namespace Sys2Proof.Machine

/-! ## Path states (R312 to R316, R319 to R322) -/

def Dev.pathState (d : Dev) : Nat := d.nat Reg.pathState

/-- The safe disconnect is closed. -/
def Dev.disconnectClosed (d : Dev) : Bool := d.safe.held

/-- Lowest cell in mV as last evaluated (R323). -/
def Dev.minCell (d : Dev) : Nat := d.nat Reg.chargeMinCell

/-- The path could enter Reverse (R321). -/
def Dev.reverseAllowed (d : Dev) : Bool :=
  d.pathState == 1 && d.nat Reg.selectedSource == 0 && d.disconnectClosed && d.nat Reg.reverseMinCell + 100 ≤ d.minCell

/-! FRS standby (R353) follows the path, so it is judged beside it. -/

def Dev.pdState (d : Dev) : Nat := d.nat Reg.pdPortState

/-- An explicit contract is in force; a transition away from one leaves it in force until the new one is established. -/
def Dev.explicit (d : Dev) : Bool :=
  let st := d.nat Reg.contractState
  st == 1 || st == 2 || (st == 3 && d.nat Reg.contractPdoPosition != 0)

/-- FRS standby (R353): its conditions hold. -/
def Dev.frsStandby (d : Dev) : Bool :=
  d.on Reg.frsEnable && d.pdState == 5 && d.explicit && d.on Reg.partnerFrsCurrent && d.reverseAllowed

/-- FrsState 0 and 1 follow the standby; 3 and 4 stay until the next standby. -/
def Dev.refreshFrs (d : Dev) : Dev :=
  let st := d.nat Reg.frsState
  if st == 2 then d
  else if d.frsStandby then d.set Reg.frsState 1
  else if st == 1 || !d.on Reg.frsEnable then d.set Reg.frsState 0
  else d

/-- SysMinVoltage or the pack with its headroom (Table 12.4). -/
def Dev.sysTarget (d : Dev) : Nat :=
  max (d.nat Reg.sysMinVoltage) ((d.reg Reg.packVoltage).toNat + d.nat Reg.sysHeadroom)

/-- A source is qualified: 1 DOCK, 2 VBUS. -/
def Dev.qualified (d : Dev) (s : Nat) : Bool := d.bit Reg.sourceStatus s

/-- A qualified source that may be selected: not one whose converter Fault has not been cleared (R316). -/
def Dev.selectable (d : Dev) (s : Nat) : Bool := d.qualified s && (d.path.blocked != s || d.convState == 0)

/-- The source that SourcePriority ranks first (R313). -/
def Dev.pickSource (d : Dev) : Option Nat :=
  (if d.on Reg.sourcePriority then [2, 1] else [1, 2]).find? (fun s => d.selectable s)

/-- Cap of the search: 150,000 mA for DOCK, the PD allowance for VBUS (R315). -/
def Dev.searchCap (d : Dev) (s : Nat) : Nat := if s == 1 then 150000 else d.path.allowMa

/-- A search runs at the selection (R315). -/
def Dev.searches (d : Dev) (s : Nat) : Bool :=
  d.bit Reg.searchEnable (s - 1) && (s == 2 || d.nat Reg.dockCurrentLimit == 0)

/-- The limit in force without a search; a DockCurrentLimit of 0 with the search disabled has no stated limit. -/
def Dev.plainLimit (d : Dev) (s : Nat) : Nat × Dev :=
  if s == 2 then (d.path.allowMa, d)
  else if d.nat Reg.dockCurrentLimit == 0 then
    let (w, d) := d.freeWord
    (w.toNat, d)
  else (d.nat Reg.dockCurrentLimit, d)

/-- The search ends with a result. After a sag the result bounds the limit for as long as the source stays selected (R314). -/
def Dev.endSearch (d : Dev) (sagged : Bool) (result : Nat) : Dev :=
  let d : Dev := { d with path := { d.path with found := if sagged then some result else none } }
  ((((d.setNat Reg.searchResult result).setNat Reg.inputLimitInForce result).setBit Reg.sourceStatus 5 false).raise 78)

/-- InputLimitInForce of a selection (R314, R315). A search whose start is the cap ends at once without a sag. -/
def Dev.startLimit (d : Dev) (s : Nat) : Dev :=
  let d : Dev := { d with path := { d.path with good := none, found := none } }
  if d.searches s then
    let l := min (d.nat Reg.searchStart) (d.searchCap s)
    let d := (d.setNat Reg.inputLimitInForce l).setBit Reg.sourceStatus 5 true
    if l == d.searchCap s then d.endSearch false l else d
  else
    let (l, d) := d.plainLimit s
    d.setNat Reg.inputLimitInForce l

/-- SOURCE_SELECT (R313, R314): from Off, or from Battery with the converter in Off and no way to Reverse, whose row of Table 12.2
stands higher. VBUS selected within a transition as sink starts with its floor held at 0 (R347). -/
def Dev.sourceSelect (d : Dev) (noLoadMv : Nat) : Dev :=
  if d.cpuLive && (d.pathState == 0 || (d.pathState == 1 && d.convState == 0 && !(d.pd.asking && d.reverseAllowed))) then
    match d.pickSource with
    | some s =>
      let d := { d with path := { d.path with noLoadMv := noLoadMv, floorOff := s == 2 && d.pd.transition.isSome, diodeOn := false } }
      let d := ((d.setNat Reg.selectedSource s).set Reg.pathState 2).set Reg.batfetState 1
      ((d.startLimit s).commandRun d.sysTarget false).refreshFrs
    | none => d
  else d

def execSourceSelect (noLoadMv : Nat) (s : State) : Res := .next (s.together (s.onDev (·.sourceSelect noLoadMv)))

/-- The source-side voltage floor of R314, held at 0 in a transition (R347). -/
def Dev.voltageFloor (d : Dev) : Nat :=
  if d.path.floorOff || d.pathState != 2 then 0 else d.path.noLoadMv * (100 - d.nat Reg.searchSag) / 100

/-- A source becomes qualified (R312); source 76 on the rising. -/
def Dev.qualify (d : Dev) (s : Nat) : Dev :=
  let was := d.qualified s
  (d.setBit Reg.sourceStatus s true).raiseIf (!was) 76

/-- DOCK within 20.0 to 60.0 V for 100 ms (Table 12.1). In Reverse the path asks the port to end sourcing (R321). -/
def Dev.dockQualified (d : Dev) (mv : Nat) : Dev :=
  if d.cpuLive && 20000 ≤ mv && mv ≤ 60000 then
    let d := d.qualify 1
    if d.pathState == 4 then { d with pd := { d.pd with endDue := true } } else d
  else d

def execDockQualified (mv : Nat) (s : State) : Res := .next (s.together (s.onDev (·.dockQualified mv)))

/-- DOCK_SNS judged for presence (Table 12.1): above 15.0 V. -/
def Dev.dockPresent (d : Dev) (mv : Nat) : Dev :=
  if d.pwr.role != .head || d.pwr.logic == .off || d.pwr.logic == .keepAliveOnly || d.pwr.logic == .inReset then d
  else
    let here := decide (15000 < mv)
    let d := d.setBit Reg.sourceStatus 0 here
    if here && (d.pwr.logic == .sleep || d.pwr.logic == .sleepEntry) then d.noteWake 0 else d

def execDockPresent (mv : Nat) (s : State) : Res := .next (s.onDev (·.dockPresent mv))

/-- Hand-over begins (R319): gate of the source off, run command removed, BATFET_G driven fully on. -/
def Dev.handOver (d : Dev) : Dev :=
  let d := ((d.set Reg.pathState 3).set Reg.selectedSource 0).set Reg.inputLimitInForce 0
  let d := ((d.setBit Reg.sourceStatus 5 false).setBit Reg.sourceStatus 6 true).setBit Reg.sourceStatus 4 false
  let d := (d.set Reg.batfetState 3).commandStop
  (({ d with path := { d.path with outLimit := none } } : Dev).refreshFrs).raise 77

/-- A source is lost (R312): it is no longer qualified, and a selected one leads to Hand-over. -/
def Dev.loseSource (d : Dev) (s : Nat) : Dev :=
  let d := d.setBit Reg.sourceStatus s false
  if d.pathState == 2 && d.nat Reg.selectedSource == s then d.handOver else d

/-- The loss of a source (R312): DOCK against Table 12.1; VBUS by what the port reports, which is VBUS below 85 % of the expected
voltage outside a transition (R340); either one, selected, by a source-side current below −500 mA. -/
def Dev.lossHolds (d : Dev) (s mv : Nat) (ma : Int) : Bool :=
  (d.pathState == 2 && d.nat Reg.selectedSource == s && decide (ma < -500))
    || if s == 1 then decide (mv < d.nat Reg.dockLossVoltage ∨ 62000 < mv)
       else d.pdState == 5 && d.pd.transition.isNone && decide (100 * mv < 85 * d.nat Reg.contractVoltage)

def execSourceLost (vbus : Bool) (mv : Nat) (ma : Int) (s : State) : Res :=
  .next (s.together (s.onDev (fun d =>
    let src := if vbus then 2 else 1
    if d.cpuLive && d.lossHolds src mv ma then d.loseSource src else d)))

/-- The path without a source: Battery, or Off where the disconnect is open. -/
def Dev.restPath (d : Dev) : Dev :=
  (if d.disconnectClosed then (d.set Reg.pathState 1).set Reg.batfetState 3
   else (d.set Reg.pathState 0).set Reg.batfetState 0).refreshFrs

/-- Hand-over completes (R319). -/
def Dev.handOverDone (d : Dev) (us : Nat) : Dev :=
  if d.pathState == 3 then
    ((d.restPath.setNat Reg.handOverTime us).bump Reg.handOverCount).setBit Reg.sourceStatus 6 false
  else d

def execHandOverComplete (us : Nat) (s : State) : Res := .next (s.onDev (·.handOverDone us))

/-- REVERSE_ENTRY (R321): the port asks for sourcing and the conditions hold. -/
def Dev.reverseEntry (d : Dev) (target : Nat) (limit : Int) : Dev :=
  if d.cpuLive && d.pd.asking && d.reverseAllowed then
    let d := ((d.set Reg.pathState 4).set Reg.batfetState 3).commandRun target true
    ({ d with path := { d.path with outLimit := some limit } } : Dev).refreshFrs
  else d

/-- Reverse ends (R316): VBUS_G off, run command removed, Battery; with the disconnect open the path goes on to Off. -/
def Dev.leaveReverse (d : Dev) : Dev :=
  if d.pathState == 4 then
    let d := (d.restPath).commandStop
    { d with path := { d.path with outLimit := none }, pd := { d.pd with endDue := true } }
  else d

/-- A converter Fault (R316): Hand-over from Source, the end of Reverse with source 84. -/
def Dev.pathAfterFault (d : Dev) : Dev :=
  if d.pathState == 2 then
    let s := d.nat Reg.selectedSource
    ({ d with path := { d.path with blocked := s } } : Dev).handOver
  else if d.pathState == 4 then d.leaveReverse.raise 84
  else d

def execConverterFault (cause : Nat) (s : State) : Res :=
  .next (s.together (s.onDev (fun d => if d.convOn && cause < 4 then (d.convFault cause).pathAfterFault else d)))

def execPhaseCycleEnd (p : Nat) (mean : Int) (s : State) : Res :=
  .next (s.together (s.onDev (fun d =>
    let t := d.cycleEnd p mean
    if d.convState != 4 && t.convState == 4 then t.pathAfterFault else t)))

/-- The safe disconnect has closed: Off leads to Battery while no source is qualified (Table 12.2). -/
def Dev.pathClosed (d : Dev) : Dev :=
  if d.pathState == 0 && !d.qualified 1 && !d.qualified 2 then d.restPath else d

/-- The safe disconnect has opened: Battery leads to Off, Reverse ends (Table 12.2). In Source, R322 follows. -/
def Dev.pathOpened (d : Dev) : Dev :=
  if d.pathState == 1 then d.restPath
  else if d.pathState == 4 then d.leaveReverse
  else d

/-- The port's side of the end of sourcing (steps 1 and 2 of R350): VCONN off, VBUS_DIS conducting, the state that follows. -/
def Pd.ended (p : Pd) (after : Nat) : Pd :=
  { p with
    asking := false, endDue := false, restart := false, vconn := false, transition := none, discharging := true, after := after,
    capsSent := 0, capsAcked := false, epr := false }

/-- The stop of the port as source, at once and without messages (Table 13.3, row 1): it governs over a Hard Reset whose discharge
or 800 ms wait runs. A detach whose discharge runs has ended the sourcing already. -/
def Dev.stopSourcing (d : Dev) : Dev :=
  if d.pdState == 6 && !(d.pd.discharging && d.pd.after == 1) then { d with pd := d.pd.ended 8 } else d

/-- The path enters Off with BATFET_G off: a safety stop (R366), sleep or ship entry. A port that sources ends it; in a fast role
swap END_SOURCING abandons it. -/
def Dev.pathOff (d : Dev) : Dev :=
  let d := if d.pathState == 4 && d.pdState != 6 then { d with pd := { d.pd with endDue := true } } else d.stopSourcing
  let d := (((d.set Reg.pathState 0).set Reg.selectedSource 0).set Reg.inputLimitInForce 0).set Reg.batfetState 0
  let d := ((d.setBit Reg.sourceStatus 5 false).setBit Reg.sourceStatus 6 false).setBit Reg.sourceStatus 4 false
  (({ d with path := { d.path with outLimit := none } } : Dev).commandStop).refreshFrs

/-! ## Input-current search (R315) -/

def Dev.searching (d : Dev) : Bool := d.bit Reg.sourceStatus 5 && d.pathState == 2

/-- A step time ends: the limit rises if the current loop set I_dem throughout; at the cap the search ends (R315). -/
def Dev.searchStep (d : Dev) (held : Bool) : Dev :=
  if d.searching && held then
    let l := d.nat Reg.inputLimitInForce
    let cap := d.searchCap (d.nat Reg.selectedSource)
    let n := min cap (l + d.nat Reg.searchStep)
    let d := ({ d with path := { d.path with good := some l } } : Dev).setNat Reg.inputLimitInForce n
    if n == cap then d.endSearch false cap else d
  else d

def execSearchStep (held : Bool) (s : State) : Res := .next (s.together (s.onDev (·.searchStep held)))

/-- The search ends with a sag, or at the cap (R315). The result never lies above the cap. -/
def Dev.searchEnd (d : Dev) (sag : Bool) : Dev :=
  let cap := d.searchCap (d.nat Reg.selectedSource)
  if !d.searching then d
  else if sag then
    d.endSearch true (min cap (match d.path.good with
      | some g => g * 9 / 500 * 50
      | none => d.nat Reg.searchStart))
  else if d.nat Reg.inputLimitInForce == cap then d.endSearch false cap
  else d

def execSearchEnd (sag : Bool) (s : State) : Res := .next (s.together (s.onDev (·.searchEnd sag)))

/-- DockCurrentLimit written. While DOCK is selected a limit other than 0 is the one in force at once and ends a search without a
result; 0 asks for a search, which runs at the next selection, and the limit stays until then (DESIGN CHOICE, assumption 151). -/
def Dev.writeDockLimit (d : Dev) (v : Nat) : Dev :=
  let d := d.setNat Reg.dockCurrentLimit v
  if d.pathState == 2 && d.nat Reg.selectedSource == 1 && v != 0 then
    (d.setNat Reg.inputLimitInForce v).setBit Reg.sourceStatus 5 false
  else d

/-! ## BATFET (R317) -/

/-- Diode or Linear mode: SYS below PACK − 30 mV for 5 µs; the gate turns fully on (Table 12.3, R318). -/
def execBatfetDiodeOn (s : State) : Res :=
  .next (s.onDev (fun d =>
    if d.nat Reg.batfetState == 1 || d.nat Reg.batfetState == 2 then { d with path := { d.path with diodeOn := true } } else d))

/-- Diode or Linear mode: pack charge current above 200 mA for 1 ms. -/
def execBatfetDiodeOff (s : State) : Res :=
  .next (s.onDev (fun d =>
    if d.nat Reg.batfetState == 1 || d.nat Reg.batfetState == 2 then { d with path := { d.path with diodeOn := false } } else d))

/-- BATFET_G is on (Table 12.3); in Linear it regulates. -/
def Dev.batfetOn (d : Dev) : Bool :=
  d.nat Reg.batfetState == 3 || d.nat Reg.batfetState == 2 || (d.nat Reg.batfetState == 1 && d.path.diodeOn)

/-! ## Traction charging (R323 to R327) -/

/-- A charge fault (R327). In Source the current limit of charging goes with it; in Reverse the limit is the port's. -/
def Dev.chargeFault (d : Dev) (bit : Nat) : Dev :=
  let was := d.nat Reg.chargeState
  let d := ((d.setBit Reg.chargeFaultLatched bit true).raise 82).set Reg.chargeState 7
  let d := d.raiseIf (was != 7) 80
  let d := d.set Reg.chargeTarget 0
  if d.pathState != 2 then d
  else
    let d : Dev := { d with path := { d.path with outLimit := none } }
    if d.nat Reg.batfetState != 4 then d.set Reg.batfetState 1 else d

/-- PACK − SYS above 0.5 V while On (Table 12.3). -/
def Dev.batfetFault (d : Dev) : Dev :=
  if d.cpuLive && d.nat Reg.batfetState == 3 then (d.set Reg.batfetState 4).chargeFault 5 else d

def execBatfetFault (s : State) : Res := .next (s.together (s.onDev (·.batfetFault)))

/-- Cell count of a member as the head records it. -/
def Dev.memberCells (d : Dev) (a : Nat) : Nat :=
  match d.stor.working.find? (fun e => e.1 == d.nat (Reg.memberSerial a)) with
  | some (_, m) => (m.regs.val Reg.cellCount).toNat
  | none => 24

/-- The bytes of a member's ChannelSet: row and 26 values (R236). -/
def Dev.memberSet (d : Dev) (a : Nat) : List Nat := d.blob (Reg.channelSet a).key []

/-- Cells of a member's latest set in µV; a code of 0 is no sample (Table 4.5). -/
def Dev.memberCellUv (d : Dev) (a : Nat) : List Int :=
  (((List.range (d.memberCells a)).map (fun c => ofLe (((d.memberSet a).drop (4 + 4 * c)).take 4))).filter (fun v => v != 0)).map
    (fun (v : Nat) => (v : Int) * 6 - 750000)

def Dev.presentMembers (d : Dev) : List Nat := d.usedAddresses.filter (fun a => a != 1 && d.nat (Reg.mirrorState a) == 1)

/-- Cells of the pack in µV (R323). -/
def Dev.packCells (d : Dev) : List Int :=
  (upTo d.samp.cells).map (fun k => d.reg (Reg.cellVoltage k)) ++ d.presentMembers.flatMap (fun a => d.memberCellUv a)

/-- The data of R323 are stale: a set older than 100 ms, an absent mirror, or no temperature. -/
def Dev.staleData (d : Dev) : Bool :=
  d.presentMembers.any (fun a => (d.memberSet a).isEmpty
      || 800 < (d.row + 2 ^ 32 - ofLe ((d.memberSet a).take 4)) % 2 ^ 32)
    || d.usedAddresses.any (fun a => d.nat (Reg.mirrorState a) == 2)
    || d.reg Reg.ainTempMax == -32768

/-- Current of the CounterSource channel or the sum, mA (R323, R97). -/
def Dev.packCurrent (d : Dev) : Int :=
  (if d.sourceHas 1 then d.reg (Reg.current 1) else 0) + (if d.sourceHas 2 then d.reg (Reg.current 2) else 0)

/-- A microvolt value in mV, not below 0. -/
def mvOf (uv : Int) : Nat := (roundDiv uv 1000).toNat

/-- Temperature outside ChargeTempMin to ChargeTempMax, 2.0 °C of hysteresis on re-entry (R324). -/
def Dev.tempOutside (d : Dev) : Bool :=
  let h : Int := if d.path.tempOut then 20 else 0
  d.reg Reg.chargeTempMax - h < d.reg Reg.ainTempMax || d.reg Reg.ainTempMin < d.reg Reg.chargeTempMin + h

/-- ChargeSuspendCause; source 83 on a cause rising. Cause [0] is judged whatever else makes the data stale; without a temperature
it stays as it is (DESIGN CHOICE, assumption 152). -/
def Dev.suspendCauses (d : Dev) : Dev :=
  let stale := d.staleData
  let out := if d.reg Reg.ainTempMax == -32768 then d.path.tempOut else d.tempOutside
  let was := d.nat Reg.chargeSuspendCause
  let new := (if out then 1 else 0) + (if d.disconnectClosed then 0 else 2) + (if stale then 4 else 0)
  let d := ({ d with path := { d.path with tempOut := out } } : Dev).setNat Reg.chargeSuspendCause new
  d.raiseIf (clearBits new was != 0) 83

/-- The charging states that take current. -/
def charging (st : Nat) : Bool := st == 1 || st == 2 || st == 3 || st == 4

/-- The state that Table 12.4 selects once no fault is latched. -/
def Dev.chargeNext (d : Dev) : Nat :=
  let st := d.nat Reg.chargeState
  let lo := d.minCell
  let hi := d.nat Reg.chargeMaxCell
  let cv := d.nat Reg.cellChargeVoltage
  if !d.on Reg.chargeEnable || d.pathState != 2 then 0
  else if d.nat Reg.chargeSuspendCause != 0 then 6
  else if st == 5 && cv ≤ hi + d.nat Reg.rechargeDelta then 5
  else if lo < d.nat Reg.trickleThreshold || (st == 1 && d.path.aboveTrickleMs < 1000) then 1
  else if lo < d.nat Reg.prechargeThreshold || (st == 2 && d.path.abovePrechargeMs < 1000) then 2
  else if st == 4 then
    (if d.nat Reg.terminationTime * 1000 ≤ d.path.termMs || d.nat Reg.cvTimer * 60000 ≤ d.path.cvMs then 5 else 4)
  else if st == 3 && cv ≤ hi then 4
  else 3

/-- Every safety timer restarts (R324), and with the charge state the times that are counted in it. The 1 s of the charge faults
[3] and [4] (R327) are no timers of a charge: they run on. -/
def Path.restartTimers (p : Path) : Path :=
  { p with
    trickleMs := 0, prechargeMs := 0, chargeMs := 0, cvMs := 0, termMs := 0, currentOverMs := 0, aboveTrickleMs := 0,
    abovePrechargeMs := 0 }

/-- A charge state is entered (R324, R326). -/
def Dev.enterCharge (d : Dev) (n : Nat) : Dev :=
  let was := d.nat Reg.chargeState
  if was == n then d
  else
    let d := if (n == 1 || n == 2 || n == 3) && (was == 0 || was == 5 || was == 7) then
        ({ d with path := d.path.restartTimers } : Dev).set Reg.chargeTermination 0 else d
    let d := if n == 5 then
        (d.setNat Reg.chargeTermination (if d.nat Reg.terminationTime * 1000 ≤ d.path.termMs then 1 else 2)).raise 81
      else d
    (d.setNat Reg.chargeState n).raise 80

/-- Timers of the present state advance by `ms` (R324, R326, R327). -/
def Dev.chargeTimers (d : Dev) (ms : Nat) (packMv : Nat) : Dev :=
  let st := d.nat Reg.chargeState
  let p := d.path
  let run := charging st
  let count := fun (c : Bool) (n : Nat) => if c then n + ms else 0
  { d with path := { p with
    trickleMs := if st == 1 then p.trickleMs + ms else p.trickleMs,
    prechargeMs := if st == 2 then p.prechargeMs + ms else p.prechargeMs,
    chargeMs := if run then p.chargeMs + ms else p.chargeMs,
    cvMs := if st == 4 then p.cvMs + ms else p.cvMs,
    termMs := count (st == 4 && p.packMa * 20 < d.nat Reg.chargeCapacity) p.termMs,
    cellOverMs := count (d.nat Reg.cellChargeVoltage + 50 < d.nat Reg.chargeMaxCell) p.cellOverMs,
    packOverMs := count (d.nat Reg.chargeVoltageLimit * 101 < packMv * 100) p.packOverMs,
    currentOverMs := count ((st == 3 || st == 4) && d.reg Reg.chargeTarget * 11 + 5000 < p.packMa * 10) p.currentOverMs,
    aboveTrickleMs := count (d.nat Reg.trickleThreshold + 100 ≤ d.minCell) p.aboveTrickleMs,
    abovePrechargeMs := count (d.nat Reg.prechargeThreshold + 100 ≤ d.minCell) p.abovePrechargeMs } }

/-- The condition of a charge fault holds (R327). That of bit [5], once it has latched and opened the BATFET, is PACK − SYS above
0.5 V alone: with the gate off no pack current of 1 A can flow (DEDUCED, assumption 153). -/
def Dev.chargeFaultHolds (d : Dev) (bit : Nat) : Bool :=
  let st := d.nat Reg.chargeState
  if bit == 0 then st == 1 && d.nat Reg.trickleTimer * 60000 ≤ d.path.trickleMs
  else if bit == 1 then st == 2 && d.nat Reg.prechargeTimer * 60000 ≤ d.path.prechargeMs
  else if bit == 2 then charging st && d.nat Reg.chargeTimer * 60000 ≤ d.path.chargeMs
  else if bit == 3 then 1000 ≤ d.path.cellOverMs
  else if bit == 4 then 1000 ≤ d.path.packOverMs
  else if bit == 5 then d.nat Reg.batfetState == 4 && decide (d.reg Reg.sysVoltage + 500 < d.reg Reg.packVoltage)
  else if bit == 6 then 100 ≤ d.path.currentOverMs
  else false

/-- Charge faults that an evaluation finds: their condition holds and their bit is not set yet. -/
def Dev.chargeFaultsDue (d : Dev) : List Nat :=
  (List.range 7).filter (fun b => d.chargeFaultHolds b && !d.bit Reg.chargeFaultLatched b)

/-- Faults whose condition holds set their bits: all are judged on the charge as the evaluation finds it, before the first of
them moves it to Fault (R324, R327). -/
def Dev.judgeChargeFaults (d : Dev) : Dev := d.chargeFaultsDue.foldl Dev.chargeFault d

def execChargeFault (bit : Nat) (s : State) : Res :=
  .next (s.together (s.onDev (fun d => if d.cpuLive && d.chargeFaultHolds bit then d.chargeFault bit else d)))

/-- Target, converter voltage and BATFET mode of the state in force (Table 12.4, R322, R325). -/
def Dev.chargeOutputs (d : Dev) : Dev :=
  let st := d.nat Reg.chargeState
  let target : Int :=
    if st == 1 then d.nat Reg.trickleCurrent
    else if st == 2 then d.nat Reg.prechargeCurrent
    else if st == 3 then d.nat Reg.chargeCurrent
    else if st == 4 then clampInt 0 (d.nat Reg.chargeCurrent)
      (d.reg Reg.chargeTarget + d.nat Reg.cvGain * ((d.nat Reg.cellChargeVoltage : Int) - d.nat Reg.chargeMaxCell))
    else 0
  let d := d.set Reg.chargeTarget target
  if d.pathState != 2 then d
  else
    let open_ := st == 6 && d.bit Reg.chargeSuspendCause 1
    let volts := if st == 3 || st == 4 then d.nat Reg.chargeVoltageLimit
      else if open_ then d.nat Reg.sysMinVoltage else d.sysTarget
    let mode := if st == 3 || st == 4 then 3 else if st == 1 || st == 2 then 2 else if open_ then 0 else 1
    let d := { d with
      conv := { d.conv with targetMv := volts },
      path := { d.path with
        outLimit := if st == 3 || st == 4 then some (d.reg Reg.outputCurrent - d.path.packMa + target) else none,
        diodeOn := d.path.diodeOn && (mode == 1 || mode == 2) } }
    if d.nat Reg.batfetState == 4 && d.bit Reg.chargeFaultLatched 5 then d else d.setNat Reg.batfetState mode

/-- Supplement (R318); source 79 on the rising. -/
def Dev.judgeSupplement (d : Dev) : Dev :=
  let on := d.pathState == 2 && d.path.packMa < -100
  let was := d.bit Reg.sourceStatus 4
  (d.setBit Reg.sourceStatus 4 on).raiseIf (on && !was) 79

/-- CHARGE_EVALUATION (R323 to R327), every 1 ms; in Reverse the lowest cell is held against ReverseMinCell. -/
def Dev.chargeEvaluate (d : Dev) (packMv sysMv ms : Nat) : Dev :=
  if !d.cpuLive then d
  else
    let cells := d.packCells
    let hi := cells.foldl max (cells.headD 0)
    let lo := cells.foldl min (cells.headD 0)
    let d := ((((d.setNat Reg.packVoltage packMv).setNat Reg.sysVoltage sysMv).setNat Reg.chargeMaxCell (mvOf hi)).setNat
      Reg.chargeMinCell (mvOf lo))
    let d := { d with path := { d.path with packMa := d.packCurrent } }
    let d := if d.pathState == 4 && d.minCell < d.nat Reg.reverseMinCell then d.leaveReverse.raise 84 else d
    let d := (d.suspendCauses).chargeTimers ms packMv
    let d := d.judgeChargeFaults
    let d := d.enterCharge (if d.on Reg.chargeFaultLatched then 7 else d.chargeNext)
    let d := d.setNat Reg.chargeElapsed (d.path.chargeMs / 1000)
    ((d.chargeOutputs).judgeSupplement).refreshFrs

def execChargeEvaluation (packMv sysMv ms : Nat) (s : State) : Res :=
  .next (s.together (s.onDev (·.chargeEvaluate packMv sysMv ms)))

/-- CHARGE_DONE (R326): CV ends on the termination current or on CvTimer, whose time has passed. -/
def Dev.chargeDone (d : Dev) (byTimer : Bool) : Dev :=
  let due := if byTimer then d.nat Reg.cvTimer * 60000 ≤ d.path.cvMs else d.nat Reg.terminationTime * 1000 ≤ d.path.termMs
  if d.cpuLive && d.nat Reg.chargeState == 4 && due then (d.enterCharge 5).chargeOutputs else d

def execChargeDone (byTimer : Bool) (s : State) : Res := .next (s.together (s.onDev (·.chargeDone byTimer)))

/-- R322: the disconnect is open in Source. -/
def Dev.openInSource (d : Dev) : Dev :=
  if d.cpuLive && d.pathState == 2 && !d.disconnectClosed then
    let d := d.suspendCauses
    if d.on Reg.chargeFaultLatched || !d.on Reg.chargeEnable then
      ({ d with path := { d.path with outLimit := none }, conv := { d.conv with targetMv := d.nat Reg.sysMinVoltage } }
        : Dev).set Reg.batfetState 0
    else (d.enterCharge 6).chargeOutputs
  else d

def execDisconnectOpenInSource (s : State) : Res := .next (s.together (s.onDev (·.openInSource)))

/-- ChargeFaultLatched read through the object service: the bits, cleared (R327). -/
def Dev.readChargeFault (d : Dev) : Nat × Dev := (d.nat Reg.chargeFaultLatched, d.set Reg.chargeFaultLatched 0)

/-! ## Keep-alive (R330 to R333) -/

/-- The NiMH charger may run (R330). Logic-field reset does not stop it: the KA island keeps its state through it (R52, R335;
DEDUCED, assumption 154). -/
def Dev.nimhMayRun (d : Dev) : Bool :=
  d.pwr.role == .head && d.pwr.vlog && d.on Reg.kaChargeEnable && d.nat Reg.kaFaultLatched == 0
    && (d.pwr.logic == .startup || d.pwr.logic == .active || d.pwr.logic == .sleepEntry || d.pwr.logic == .sleep
      || d.pwr.logic == .inReset)

/-- Present charge current (Table 12.5): pulses of KaCapacity / 100 s every 10 s in Maintenance. -/
def Dev.nimhCurrent (d : Dev) : Nat :=
  let st := d.nat Reg.kaChargeState
  if st == 1 then 20
  else if st == 2 then max 20 (min 300 (d.nat Reg.kaCapacity / 2))
  else if st == 3 then (if d.path.nimhS % 10 * 100 < d.nat Reg.kaCapacity then 20 else 0)
  else 0

/-- A charger state is entered; a new fast charge has no highest average yet. -/
def Dev.enterNimh (d : Dev) (st : Nat) : Dev :=
  let d := { d with path := { d.path with
    nimhHoldS := 0, nimhS := 0, nimhSamples := [], nimhBest := 0, nimhDrop := false, nimhTemps := [], nimhRise := false } }
  let d := d.setNat Reg.kaChargeState st
  d.setNat Reg.kaChargeCurrent d.nimhCurrent

/-- The charger may no longer run: Off, Fault kept (Table 12.5). -/
def Dev.nimhStop (d : Dev) : Dev :=
  if d.nimhMayRun then d
  else if d.nat Reg.kaChargeState == 5 && d.nat Reg.kaFaultLatched != 0 then d
  else if d.nat Reg.kaChargeState == 0 then d
  else d.enterNimh 0

/-- One sample of KA_BAT a second, averaged by eight (R331). -/
def Dev.nimhSample (d : Dev) (mv : Nat) : Dev :=
  let l := mv :: d.path.nimhSamples
  if l.length < 8 then { d with path := { d.path with nimhSamples := l } }
  else
    let avg := (roundDiv ((l.foldl (· + ·) 0 : Nat) : Int) 8).toNat
    { d with path := { d.path with
      nimhSamples := [], nimhBest := max avg d.path.nimhBest,
      nimhDrop := d.path.nimhDrop || (300 ≤ d.path.nimhS && avg + 15 ≤ d.path.nimhBest) } }

/-- A sample of KaTemperature every 10 s, against the one of 60 s before (R331). -/
def Dev.nimhTempSample (d : Dev) : Dev :=
  if d.path.nimhS % 10 == 0 then
    let t := d.reg Reg.kaTemperature
    let rise := match d.path.nimhTemps[5]? with
      | some old => old + 10 ≤ t
      | none => false
    { d with path := { d.path with nimhTemps := (t :: d.path.nimhTemps).take 6, nimhRise := d.path.nimhRise || rise } }
  else d

/-- Temperature that a 16-bit thermistor code gives in 0.1 °C (R330, R107); −32,768 at a rail code. -/
def Dev.kaTempOf (d : Dev) (code : Nat) : Option Int :=
  if code == 0 || 65535 ≤ code then some (-32768)
  else ntcTenths 16 code 10000 (d.nat Reg.kaNtcNominal) (d.nat Reg.kaNtcBeta)

/-- KaTemperature from the biased thermistor. -/
def Dev.takeKaTemp (d : Dev) (code : Nat) : Dev :=
  match d.kaTempOf code with
  | some v => if -32768 ≤ v && v ≤ 32767 then d.set Reg.kaTemperature v
      else
        let (w, d) := d.freeWord
        d.set Reg.kaTemperature ((w.setWidth 16).toInt)
  | none =>
    let (w, d) := d.freeWord
    d.set Reg.kaTemperature ((w.setWidth 16).toInt)

/-- Temperature outside 0 to 45 °C, and not open (Table 12.5). -/
def Dev.kaTempBad (d : Dev) : Bool :=
  let t := d.reg Reg.kaTemperature
  t != -32768 && (t < 0 || 450 < t)

/-- A cleared charger leaves Fault for Off while no cause is present; in Fault only KA_BAT above 4.95 V can be seen
(Table 12.5, R332). -/
def Dev.leaveNimhFault (d : Dev) : Dev :=
  if d.nat Reg.kaFaultLatched == 0 && d.nat Reg.kaChargeState == 5 && d.nat Reg.kaBatVoltage ≤ 4950 then d.enterNimh 0 else d

/-- KaFaultLatched cleared by writing 1. -/
def Dev.clearKaFault (d : Dev) (v : Nat) : Dev := (d.andNot Reg.kaFaultLatched v).leaveNimhFault

/-- A temperature outside its range makes the charger wait (Table 12.5); the times of the state it leaves stand still. -/
def Dev.waitNimh (d : Dev) : Dev :=
  (({ d with path := { d.path with nimhBack := d.nat Reg.kaChargeState } } : Dev).set Reg.kaChargeState 4).set Reg.kaChargeCurrent 0

/-- The temperature that a code gives lies within 2 to 43 °C. -/
def Dev.kaTempBack (d : Dev) (code : Nat) : Bool :=
  match d.kaTempOf code with
  | some t => decide (20 ≤ t) && decide (t ≤ 430)
  | none => false

/-- Back within 2 to 43 °C the charger goes on in the state it left (Table 12.5, assumption 132). -/
def Dev.resumeNimh (d : Dev) : Dev :=
  let d := d.setNat Reg.kaChargeState d.path.nimhBack
  d.setNat Reg.kaChargeCurrent d.nimhCurrent

/-- A state that drives the battery goes on for one second: Trickle and Maintenance count towards their exit, Fast takes its
samples (Table 12.5, R331). -/
def Dev.nimhDrive (d : Dev) (mv : Nat) : Dev :=
  let d : Dev := { d with path := { d.path with nimhS := d.path.nimhS + 1 } }
  let held := fun (c : Bool) => if c then d.path.nimhHoldS + 1 else 0
  match d.nat Reg.kaChargeState with
  | 1 =>
    let h := held (2700 ≤ mv)
    if 10 ≤ h then d.enterNimh 2 else { d with path := { d.path with nimhHoldS := h } }
  | 2 => (d.nimhSample mv).nimhTempSample
  | _ =>
    let h := held (mv < 3600)
    let d : Dev := { d with path := { d.path with nimhHoldS := h } }
    if 60 ≤ h then d.enterNimh 2 else d.setNat Reg.kaChargeCurrent d.nimhCurrent

/-- `secs` seconds in the states that drive the battery, one by one, so that the 1 s, 10 s and 60 s of R331 and Table 12.5 hold
whatever span a command names; KA_BAT and KaTemperature stand through it (DESIGN CHOICE, assumption 201). -/
def Dev.nimhSeconds (mv : Nat) : Nat → Dev → Dev
  | 0, d => d
  | n + 1, d => Dev.nimhSeconds mv n (d.nimhDrive mv)

/-- KA_CHARGER_TRANSITION (Table 12.5, R331): KA_BAT and KA_NTC after `secs` seconds. In Wait KA_NTC has no bias and KaTemperature
stands; the code judges the way back alone (DESIGN CHOICE, assumption 132). A charge is not begun in reset. -/
def Dev.nimhStep (d : Dev) (mv code secs : Nat) : Dev :=
  if !d.kaActive then d
  else
    let d := d.setNat Reg.kaBatVoltage (min 65535 mv)
    let st := d.nat Reg.kaChargeState
    if !d.nimhMayRun then d.nimhStop
    else if st == 5 then d.leaveNimhFault
    else if st == 0 then
      if 1500 ≤ mv && d.pwr.logic != .inReset then d.enterNimh (if mv < 2700 then 1 else 2) else d
    else if st == 4 then (if d.kaTempBack code then d.resumeNimh else d)
    else
      let d := d.takeKaTemp code
      if d.kaTempBad then d.waitNimh else Dev.nimhSeconds mv secs d

def execKaChargerTransition (mv code secs : Nat) (s : State) : Res := .next (s.onDev (·.nimhStep mv code secs))

/-- The condition of a termination of R331 holds. -/
def Dev.nimhEnds (d : Dev) (cause : Nat) : Bool :=
  if cause == 1 then d.path.nimhDrop
  else if cause == 2 then d.path.nimhRise
  else cause == 3 && d.nat Reg.kaFastTimer * 60 ≤ d.path.nimhS

/-- Fast charge ends in Maintenance (R331). -/
def Dev.nimhTerminate (d : Dev) (cause : Nat) : Dev :=
  if d.nat Reg.kaChargeState == 2 && d.nimhEnds cause then ((d.enterNimh 3).setNat Reg.kaTermination cause).raiseKa 86 else d

def execKaTermination (cause : Nat) (s : State) : Res := .next (s.together (s.onDev (·.nimhTerminate cause)))

/-- The NiMH fault of a bit can occur (R332): [0] while the charger drives KA_BAT, [1] while KA_NTC is biased, in Trickle, Fast
and Maintenance (R330), and [2] from Trickle to Wait (Table 12.5). -/
def Dev.nimhFaultCan (d : Dev) (bit : Nat) : Bool :=
  let st := d.nat Reg.kaChargeState
  if bit == 0 then 1 ≤ d.nimhCurrent
  else if bit == 1 then 1 ≤ st && st ≤ 3
  else bit == 2 && 1 ≤ st && st ≤ 4

/-- A NiMH fault (R332): charging stops. -/
def Dev.nimhFault (d : Dev) (bit : Nat) : Dev :=
  if d.nimhFaultCan bit then ((d.enterNimh 5).setBit Reg.kaFaultLatched bit true).raiseKa 85 else d

def execKaFault (bit : Nat) (s : State) : Res := .next (s.together (s.onDev (·.nimhFault bit)))

/-- The supply of KA_OUT (R333): none in the member role; VLOG while present, otherwise and in ship mode KA_BAT within R60's
thresholds (R53). -/
def Dev.kaOutSupply (d : Dev) : Nat :=
  if d.pwr.role != .head || !d.on Reg.kaOutEnable || d.pwr.ka == .none then 0
  else if d.pwr.vlog && d.pwr.logic != .ship then 1
  else if d.path.kaBatOk then 2 else 0

/-- KaOutState follows its supply; a limit that acts (3) and an output that waits for its restart (4) stand. -/
def Dev.refreshKaOut (d : Dev) : Dev :=
  let st := d.nat Reg.kaOutState
  if st == 4 && d.on Reg.kaOutEnable && d.pwr.role == .head then d
  else if st == 3 && d.kaOutSupply != 0 then d
  else d.setNat Reg.kaOutState d.kaOutSupply

/-- KaChargeCurrent of the state in force: a new KaCapacity acts at once (R243, Table 12.5). -/
def Dev.followCapacity (d : Dev) : Dev := d.setNat Reg.kaChargeCurrent d.nimhCurrent

/-- KA_OUT and the charger follow their conditions and settings: a charger that may no longer run is Off (Table 12.5). -/
def Dev.refreshKa (d : Dev) : Dev := d.refreshKaOut.nimhStop.followCapacity

/-- The current limit of KA_OUT has acted for `ms` milliseconds without a break (R333): from 10 ms on the output turns off. Before
that KaOutState shows it as limited, and with 0, the limit no longer acting, its supply again. -/
def Dev.kaOutFault (d : Dev) (ms : Nat) : Dev :=
  let st := d.nat Reg.kaOutState
  if st == 0 || st == 4 then d
  else if ms == 0 then (d.set Reg.kaOutState 0).refreshKaOut
  else if ms < 10 then d.set Reg.kaOutState 3
  else (d.set Reg.kaOutState 4).raiseKa 87

def execKaOutFault (ms : Nat) (s : State) : Res := .next (s.together (s.onDev (·.kaOutFault ms)))

/-- KA_OUT restarts after 1 s (R333). -/
def Dev.kaOutRestart (d : Dev) : Dev := if d.nat Reg.kaOutState == 4 then (d.set Reg.kaOutState 0).refreshKaOut else d

def execKaOutRestart (s : State) : Res := .next (s.onDev (·.kaOutRestart))

/-- KA_BAT against the thresholds of KA_OUT (R60, R53): on from 2.6 V, off below 2.4 V; SupplyStatus bit [4]. -/
def Dev.kaBatLevel (d : Dev) (mv : Nat) : Dev :=
  let ok := if d.path.kaBatOk then decide (2400 ≤ mv) else decide (2600 ≤ mv)
  let d := { d with pwr := { d.pwr with kaBatMv := mv }, path := { d.path with kaBatOk := ok } }
  (d.setBit Reg.supplyStatus 4 (2400 ≤ mv)).refreshKaOut

def execKaBatThreshold (mv : Nat) (s : State) : Res := .next (s.onDev (·.kaBatLevel mv))

end Sys2Proof.Machine
end

