-- ==== Sys2Proof/Machine/UsbPd.lean ====
section
/-! DEFINITION. The USB-C port (R336 to R357). The Type-C state of Table 13.1 stands in PortState (0x4600.03). -/

namespace Sys2Proof.Machine

/-! ## State of the port -/

def Dev.setPd (d : Dev) (f : Pd → Pd) : Dev := { d with pd := f d.pd }
def Dev.send (d : Dev) (m : PdMessage) : Dev := d.setPd (fun p => { p with sent := some m })

/-- The port runs: head role, logic field running, PortEnable 1 (R336, R337). -/
def Dev.portRuns (d : Dev) : Bool := d.cpuLive && d.on Reg.portEnable

/-- A configuration value in force since the attach (R358). -/
def Dev.pdCfg (d : Dev) (r : Reg) : Nat := (d.pd.cfg.val r).toNat

/-- RolePolicy in force: as of the attach while attached (R358). -/
def Dev.rolePolicyInForce (d : Dev) : Nat :=
  if d.pdState == 5 || d.pdState == 6 then d.pdCfg Reg.rolePolicy else d.nat Reg.rolePolicy

/-- SourceAllowed (R337). -/
def Dev.sourceAllowed (d : Dev) : Bool := d.rolePolicyInForce == 0 && d.headActive && d.reverseAllowed

/-- Current that an Rp code advertises: 3 default, 4 1.5 A, 5 3.0 A (R340). -/
def rpCurrent (cc : Nat) : Nat := if cc == 3 then 500 else if cc == 4 then 1500 else if cc == 5 then 3000 else 0
def isRp (cc : Nat) : Bool := 3 ≤ cc && cc ≤ 5

/-- Current advertised by the port at SourceRp (Table 13.5). -/
def Dev.ownRp (d : Dev) : Nat :=
  let r := d.pdCfg Reg.sourceRp
  if r == 0 then 500 else if r == 1 then 1500 else 3000

/-- Expected voltage (R340). -/
def Dev.expectedMv (d : Dev) : Nat := d.nat Reg.contractVoltage

/-- No contract: 5.0 V, and the allowance falls to what the Type-C advertisement gives. -/
def Dev.implicitContract (d : Dev) : Dev :=
  ((((d.set Reg.contractState 0).set Reg.contractVoltage 5000).set Reg.contractCurrent 0).set Reg.contractPdoType 0).set
    Reg.contractPdoPosition 0

/-- The current that the port allows the path; the limit in force follows it while VBUS is selected (R314, R340). A search that
runs goes on below the new cap (DEDUCED, assumption 126); the result of one that sagged still bounds it. -/
def Dev.setAllowance (d : Dev) (ma : Nat) : Dev :=
  let d : Dev := { d with path := { d.path with allowMa := ma } }
  if d.pathState == 2 && d.nat Reg.selectedSource == 2 then
    d.setNat Reg.inputLimitInForce
      (if d.searching then min ma (d.nat Reg.inputLimitInForce) else min ma (d.path.found.getD ma))
  else d

/-- "VBUS lost" is reported to the path (R340). -/
def Dev.reportLost (d : Dev) : Dev := d.loseSource 2

/-- The unattached port: no role, no orientation, no contract. -/
def Dev.unattach (d : Dev) (st : Nat) : Dev :=
  let d := (((d.setNat Reg.pdPortState st).set Reg.powerRole 0).set Reg.orientation 0).set Reg.typeCCurrent 0
  let d := ((d.implicitContract.set Reg.partnerFrsCurrent 0).set Reg.cableCurrent 0).set Reg.cableEpr 0
  (d.setPd (fun p => { p with
    cfg := [], awaitCaps := false, transition := none, request := none, epr := false, vconn := false, discoverSent := 0, farSent := none,
    capsSent := 0, capsAcked := false, asking := false, endDue := false, restart := false })).refreshFrs

/-- The port is Disabled (Table 13.1): logic-field reset aside, PortEnable 0 or sleep entry step 5. VBUS is no longer usable, no
discharge runs on, and a fast role swap is given up (DESIGN CHOICE, assumption 127). -/
def Dev.portDisable (d : Dev) : Dev :=
  let d := if d.nat Reg.frsState == 2 then (d.set Reg.frsState 4).raise 94 else d
  let d : Dev := { d with path := { d.path with allowMa := 0, floorOff := false } }
  ((d.setBit Reg.sourceStatus 2 false).setPd (fun p => { p with discharging := false, after := 1 })).unattach 0

/-! ## Type-C (R337 to R339) -/

/-- Exactly one CC line satisfies `p`: the line and its code. -/
def oneLine (p : Nat → Bool) (cc1 cc2 : Nat) : Option (Nat × Nat) :=
  if p cc1 && !p cc2 then some (1, cc1) else if p cc2 && !p cc1 then some (2, cc2) else none

/-- Values in force from an attach on (R358). -/
def Dev.takeCfg (d : Dev) : Dev :=
  d.setPd (fun p => { p with cfg := d.regs.filter (fun e => e.1 == Reg.rolePolicy.key || (0x460010 ≤ e.1 && e.1 ≤ 0x460017)) })

/-- Attach (R337): role, orientation, current; source 88. -/
def Dev.attach (d : Dev) (st role line current : Nat) : Dev :=
  let d := d.takeCfg
  let d := ((((d.setNat Reg.pdPortState st).setNat Reg.powerRole role).setNat Reg.orientation line).setNat Reg.typeCCurrent
    (if role == 2 then d.ownRp else current)).implicitContract
  let d := d.setPd (fun p => { p with 
    discoverSent := 0, farSent := none, capsSent := 0, capsAcked := false, epr := false, transition := none })
  ((if role == 1 then d.setAllowance current else d).refreshFrs).raise 88

/-- VBUS is below 0.8 V after a Hard Reset as source: the 800 ms of R352 begin. -/
def Pd.waitsRestart (p : Pd) : Pd := { p with restart := true, after := 1 }

/-- Table 13.1 for the CC lines as they stand since `us`. A discharge that timed out after a Hard Reset still waits for VBUS below
0.8 V (R352). -/
def Dev.typecStep (d : Dev) (cc1 cc2 vbus us : Nat) : Dev :=
  if !d.portRuns then d
  else
    let d := d.setNat Reg.vbusVoltage vbus
    let st := d.pdState
    let rp := oneLine isRp cc1 cc2
    let rd := oneLine (fun c => c == 1) cc1 cc2
    if st == 0 then d.unattach 1
    else if st == 1 then
      if rp.isSome then d.setNat Reg.pdPortState 3
      else if d.sourceAllowed && 37500 ≤ us then d.setNat Reg.pdPortState 2 else d
    else if st == 2 then
      if rd.isSome then d.setNat Reg.pdPortState 4
      else if 37500 ≤ us || !d.sourceAllowed then d.setNat Reg.pdPortState 1 else d
    else if st == 3 then
      match rp with
      | some (line, code) => if 150000 ≤ us && 4000 < vbus then d.attach 5 1 line (rpCurrent code) else d
      | none => if 15000 ≤ us then d.setNat Reg.pdPortState 1 else d
    else if st == 4 then
      if !d.sourceAllowed then d.setNat Reg.pdPortState 1
      else match rd with
        | some (line, _) => if 150000 ≤ us && vbus < 800 then d.attach 6 2 line 0 else d
        | none => if 15000 ≤ us then d.setNat Reg.pdPortState 1 else d
    else if st == 5 then
      match rp with
      | some (line, code) =>
        if line == d.nat Reg.orientation then
          let d := d.setNat Reg.typeCCurrent (rpCurrent code)
          if d.nat Reg.contractState == 0 then d.setAllowance (rpCurrent code) else d
        else d
      | none => d
    else if st == 6 then
      if d.pd.after == 6 && !d.pd.discharging && !d.pd.restart && decide (vbus < 800) then d.setPd Pd.waitsRestart else d
    else if st == 7 then (if 25000 ≤ us then d.unattach 1 else d)
    else d

def execTypecTransition (cc1 cc2 vbus us : Nat) (s : State) : Res := .next (s.together (s.onDev (·.typecStep cc1 cc2 vbus us)))

/-! ## Ending the source role (R350, R351) -/

/-- Steps 1 and 2 of R350: VBUS_G, run command and VCONN off; VBUS_DIS conducts. -/
def Dev.endSource (d : Dev) (after : Nat) : Dev := d.leaveReverse.setPd (·.ended after)

/-- VBUS fault bits and source 95. -/
def Dev.vbusFail (d : Dev) (bit : Nat) : Dev := (d.setBit Reg.vbusFault bit true).raise 95

/-- A fast role swap is abandoned (R354, R355): FrsState 4 and source 94. VBUS is discharged after a Hard Reset and the path's end,
otherwise where sourcing has begun. The contract of before the swap shows again (DESIGN CHOICE, assumption 127). -/
def Dev.frsAbandoned (d : Dev) (discharge : Bool) : Dev :=
  let d := d.setNat Reg.contractState (if d.pd.epr then 2 else 1)
  let d := if discharge || d.pd.asking || d.pathState == 4 then d.endSource 5 else d
  (d.set Reg.frsState 4).raise 94

/-- DETACH (R338, R351). -/
def Dev.detach (d : Dev) : Dev :=
  let st := d.pdState
  if !d.portRuns then d
  else if st == 5 then
    let d := if d.nat Reg.frsState == 2 then d.frsAbandoned false else d
    let d := { d.reportLost with path := { d.reportLost.path with allowMa := 0, floorOff := false } }
    (d.unattach 1).raise 89
  else if st == 6 then
    let d := if d.pd.transition.isSome then d.vbusFail 2 else d
    (d.endSource 1).raise 89
  else d

def execDetach (s : State) : Res := .next (s.together (s.onDev (·.detach)))

/-- END_SOURCING (R350) for the path's end of Reverse or its request: ErrorRecovery follows. -/
def Dev.endSourcing (d : Dev) : Dev :=
  if d.portRuns && d.pd.endDue && d.pdState == 6 && !d.pd.discharging then d.endSource 7
  else if d.pd.endDue && d.nat Reg.frsState == 2 then d.frsAbandoned true
  else d

def execEndSourcing (s : State) : Res := .next (s.together (s.onDev (·.endSourcing)))

/-- The discharge is over, with VBUS below 0.8 V or not: the state of Table 13.1, or the wait of R352, which begins with VBUS below
0.8 V. A Disabled port stays as it is. -/
def Dev.afterDischarge (d : Dev) (low : Bool) : Dev :=
  let d := d.setPd (fun p => { p with discharging := false })
  if d.pd.after == 1 then d.unattach 1
  else if d.pd.after == 7 || d.pd.after == 8 then d.unattach 7
  else if d.pd.after == 6 && low then d.setPd Pd.waitsRestart
  else d

/-- VBUS_SNS below 0.8 V (R350). -/
def Dev.dischargeDone (d : Dev) (ms : Nat) : Dev :=
  if d.pd.discharging then (d.setNat Reg.dischargeTime ms).afterDischarge true else d

def execDischargeDone (ms : Nat) (s : State) : Res := .next (s.together (s.onDev (·.dischargeDone ms)))

/-- VBUS_SNS at or above 0.8 V after 650 ms (R350). -/
def Dev.dischargeTimeout (d : Dev) : Dev :=
  if d.pd.discharging then ((d.setNat Reg.dischargeTime 650).vbusFail 0).afterDischarge false else d

def execDischargeTimeout (s : State) : Res := .next (s.together (s.onDev (·.dischargeTimeout)))

/-! ## Hard Reset (R352) -/

/-- HardResetCause codes (Table 13.5). -/
def causeOf : HardResetWhy → Nat
  | .received => 1
  | .watchdog => 2
  | .psRdyMissing => 3
  | .eprKeepAlive => 4
  | .envelope => 5
  | .noCapabilities => 6

/-- A Hard Reset meets an end of sourcing that governs (Table 13.3, rows 1 and 2): after a safety stop or a detach R350 runs without
the pack being source again. The path's end of Reverse (row 6) gives way to it. -/
def Dev.sourcingEnded (d : Dev) : Bool := d.pdState == 6 && d.pd.discharging && (d.pd.after == 1 || d.pd.after == 8)

/-- A Hard Reset sent or received (R352, R355): an event of the policy engine (R336). -/
def Dev.doHardReset (d : Dev) (why : HardResetWhy) : Dev :=
  let st := d.pdState
  if !d.portRuns || !d.pd.policy || !(st == 5 || st == 6) || d.sourcingEnded then d
  else
    let d := if why = .received then d else d.send .hardReset
    let d := ((d.bump Reg.hardResetCount).setNat Reg.hardResetCause (causeOf why)).raise 91
    let d := if d.nat Reg.frsState == 2 then d.frsAbandoned true else d
    let d := d.setPd (fun p => { p with transition := none, request := none, epr := false, awaitCaps := false })
    if st == 5 then
      let d := d.implicitContract.reportLost
      ({ d with path := { d.path with allowMa := 0, floorOff := false } } : Dev).refreshFrs
    else (d.implicitContract.setNat Reg.typeCCurrent d.ownRp).endSource 6

def execHardReset (why : HardResetWhy) (s : State) : Res := .next (s.together (s.onDev (·.doHardReset why)))

/-- 800 ms after the discharge (R352): 5 V again by the sequence of R345, or ErrorRecovery. -/
def Dev.sourceRestart (d : Dev) : Dev :=
  if d.portRuns && d.pd.restart && d.pdState == 6 && !d.pd.discharging then
    if d.sourceAllowed then
      ((d.set Reg.cableCurrent 0).set Reg.cableEpr 0).setPd (fun p => { p with
        restart := false, asking := true, vconn := p.ra, discoverSent := 0, farSent := none, capsSent := 0, capsAcked := false })
    else d.unattach 7
  else d

def execHardResetSourceRestart (s : State) : Res := .next (s.together (s.onDev (·.sourceRestart)))

/-! ## Policy engine as sink (R340 to R343, R346, R347) -/

/-- VBUS within ±10 % of the expected voltage for 100 ms (R340). -/
def Dev.vbusUsable (d : Dev) (mv : Nat) : Dev :=
  let e := d.expectedMv
  if d.portRuns && d.pdState == 5 && d.pd.policy && !d.on Reg.frsEnable
      && 9 * e ≤ 10 * mv && 10 * mv ≤ 11 * e then
    let d := d.setNat Reg.vbusVoltage mv
    let d := if d.nat Reg.contractState == 0 then d.setAllowance (d.nat Reg.typeCCurrent) else d
    d.qualify 2
  else d

def execVbusUsable (mv : Nat) (s : State) : Res := .next (s.together (s.onDev (·.vbusUsable mv)))

/-- VBUS below 85 % of the expected voltage outside a transition (R340). -/
def Dev.vbusLost (d : Dev) : Dev := if d.portRuns && d.pdState == 5 && d.pd.transition.isNone then d.reportLost else d

def execVbusLost (s : State) : Res := .next (s.together (s.onDev (·.vbusLost)))

/-- The policy engine starts (R336, R341). -/
def Dev.policyStart (d : Dev) : Dev :=
  if d.headActive then
    let d := d.setPd (fun p => { p with policy := true })
    if d.pdState == 5 && !d.explicit then (d.send .softReset).setPd (fun p => { p with awaitCaps := true }) else d
  else d

def execPolicyEngineStart (s : State) : Res := .next (s.onDev (·.policyStart))

def execSourceCapsTimeout (s : State) : Res :=
  .next (s.together (s.onDev (fun d => if d.pd.awaitCaps then d.doHardReset .noCapabilities else d)))

/-- A voltage in the step of the PDO (R343), rounded down to it as the current is (DEDUCED, assumption 125). -/
def steppedVoltage (o : SourcePdo) (v : Nat) : Nat := if o.voltageStep == 0 then v else v / o.voltageStep * o.voltageStep

/-- Voltage and current that R343 takes from a PDO, if it qualifies. -/
def Dev.pdoOffer (d : Dev) (o : SourcePdo) : Option (Nat × Nat) :=
  let vmax := d.pdCfg Reg.sinkVoltageMax
  let pmax := d.pdCfg Reg.sinkPowerMax
  let enabled := o.kind == 0 || (o.kind < 3 && (d.pdCfg Reg.sinkPdoTypes).testBit o.kind)
  let v := if o.kind == 0 then o.maxVoltage else min o.maxVoltage vmax
  if !enabled || v < 5000 || vmax < v || v < o.minVoltage then none
  else
    let i := min (if o.kind == 2 then o.pdp * 1000 / v else o.maxCurrent) (pmax * 1000 / v)
    some (v, if o.kind == 0 then i / 10 * 10 else i / 50 * 50)

/-- The best PDO of R343: its position, the PDO, voltage, current. -/
def Dev.bestPdo (d : Dev) (l : List SourcePdo) : Option (Nat × SourcePdo × Nat × Nat) :=
  (l.foldl (fun (acc : Nat × Option (Nat × SourcePdo × Nat × Nat)) o =>
    let n := acc.1
    match d.pdoOffer o with
    | some (v, i) =>
      let better := match acc.2 with
        | some (_, _, bv, bi) => bv * bi < v * i || (v * i == bv * bi && bv < v)
        | none => 0 < v * i
      (n + 1, if better then some (n, o, v, i) else acc.2)
    | none => (n + 1, acc.2)) (1, none)).2

/-- The best request of R343: position, kind, voltage in the PDO's step, current. -/
def Dev.bestRequest (d : Dev) (l : List SourcePdo) : Option (Nat × Nat × Nat × Nat) :=
  (d.bestPdo l).map (fun b => (b.1, b.2.1.kind, steppedVoltage b.2.1 b.2.2.1, b.2.2.2))

/-- A request goes out (R343). -/
def Dev.sendRequest (d : Dev) (r : Nat × Nat × Nat × Nat) : Dev :=
  (d.send (.request r.1 r.2.1 r.2.2.1 r.2.2.2)).setPd (fun p => { p with request := some r })

/-- Source_Capabilities as sink (R343); PartnerCaps takes the PDOs as received. -/
def Dev.sourceCaps (d : Dev) (epr : Bool) (pdos : List SourcePdo) (raw : List Nat) : Dev :=
  if d.portRuns && d.pd.policy && d.pdState == 5 && (!epr || d.pd.epr) then
    let bytes := ([pdos.length, 0, 0, 0] ++ raw).take 56
    let d := d.setBlob Reg.partnerCaps.key (bytes ++ List.replicate (56 - bytes.length) 0)
    let d := d.setPd (fun p => { p with awaitCaps := false })
    match d.bestRequest pdos with
    | some r => d.sendRequest r
    | none => d
  else d

def execSourceCapabilities (epr : Bool) (pdos : List SourcePdo) (raw : List Nat) (s : State) : Res :=
  .next (s.together (s.onDev (·.sourceCaps epr pdos raw)))

/-- A PPS contract is requested again (R343). -/
def Dev.ppsAgain (d : Dev) : Dev :=
  if d.portRuns && d.pdState == 5 && d.explicit && d.nat Reg.contractPdoType == 1 && d.pd.transition.isNone then
    d.sendRequest (d.nat Reg.contractPdoPosition, 1, d.nat Reg.contractVoltage, d.nat Reg.contractCurrent)
  else d

def execPpsRerequest (s : State) : Res := .next (s.together (s.onDev (·.ppsAgain)))

def Dev.attached (d : Dev) : Bool := d.portRuns && d.pd.policy && (d.pdState == 5 || d.pdState == 6)

/-- A transition or a swap is in progress (Table 13.3). -/
def Dev.busyPd (d : Dev) : Bool := d.pd.transition.isSome || d.nat Reg.frsState == 2

/-- Messages outside Table 0.3 (R342); any BIST request meets Wait while the port is busy (Table 13.3). -/
def Dev.unsupported (d : Dev) (m : PdOther) : Dev :=
  if !d.attached || m == .unstructuredVdm then d
  else if m == .bistOther && d.busyPd then d.send .wait
  else d.send .notSupported

def execUnsupportedMessage (m : PdOther) (s : State) : Res := .next (s.onDev (·.unsupported m))

/-- BIST Carrier Mode (R342, Table 13.3): accepted in a contract at 5 V, the implicit one included. -/
def Dev.bistCarrier (d : Dev) : Dev :=
  if !d.attached then d
  else if d.busyPd then d.send .wait
  else if d.nat Reg.contractVoltage == 5000 then d.send .carrier
  else d.send .notSupported

def execBistCarrierMode (s : State) : Res := .next (s.onDev (·.bistCarrier))

/-- VBUS is the selected source. -/
def Dev.vbusSelected (d : Dev) : Bool := d.pathState == 2 && d.nat Reg.selectedSource == 2

/-- Accept as sink (R347): the allowance falls to 2.5 W, VBUS's floor is held at 0. -/
def Dev.sinkAccept (d : Dev) : Dev :=
  match d.pd.request with
  | some (pos, kind, v, i) =>
    if d.portRuns && d.pdState == 5 then
      let old := d.expectedMv
      let d := d.setPd (fun p => { p with request := none, transition := some ⟨old, v, i, kind, pos, p.epr, false⟩ })
      let d := ({ d with path := { d.path with floorOff := d.vbusSelected } } : Dev).set Reg.contractState 3
      (d.setAllowance (2500000 / min old v / 10 * 10)).refreshFrs
    else d
  | none => d

def execSinkAccept (s : State) : Res := .next (s.together (s.onDev (·.sinkAccept)))

/-- Rp within a contract (R345): 3.0 A marks SinkTxOk, 1.5 A SinkTxNG, which the port shows from its own
Source_Capabilities until the exchange has ended (DESIGN CHOICE, assumption 155). Before a contract Rp stays at SourceRp. -/
def Dev.sinkTx (d : Dev) (ok : Bool) : Dev :=
  if d.pdState == 6 && d.explicit then d.set Reg.typeCCurrent (if ok then 3000 else 1500) else d

/-- The contract of a transition is established (R347, R348). -/
def Dev.establish (d : Dev) (t : Transition) : Dev :=
  let d := d.setPd (fun p => { p with transition := none })
  let d := (((d.set Reg.contractState (if t.epr then 2 else 1)).setNat Reg.contractVoltage t.newMv).setNat
    Reg.contractCurrent t.currentMa).setNat Reg.contractPdoType t.kind
  (((d.setNat Reg.contractPdoPosition t.position).sinkTx true).bump Reg.transitionCount).raise 90

/-- PS_RDY as sink (R347): V_nl is of the selected source, so it changes while that is VBUS. The port then reads the partner's
Sink_Capabilities (R353). -/
def Dev.sinkPsRdy (d : Dev) (mean : Nat) : Dev :=
  match d.pd.transition with
  | some t =>
    if d.portRuns && d.pdState == 5 then
      let d := { d with path := { d.path with noLoadMv := if d.vbusSelected then mean else d.path.noLoadMv, floorOff := false } }
      (((d.establish t).setAllowance t.currentMa).send .getSinkCap).refreshFrs
    else d
  | none => d

def execSinkPsRdy (mean : Nat) (s : State) : Res := .next (s.together (s.onDev (·.sinkPsRdy mean)))

def execPsRdyTimeout (s : State) : Res :=
  .next (s.together (s.onDev (fun d => if d.pd.transition.isSome && d.pdState == 5 then d.doHardReset .psRdyMissing else d)))

/-! ## Source role (R344 to R349) -/

/-- Rows of Table 13.2: bit, voltage, cap with a 3 A cable, cap with a 5 A cable. -/
def pdoRows : List (Nat × Nat × Nat × Nat) :=
  [(0, 5000, 3000, 3000), (1, 9000, 3000, 3000), (2, 15000, 3000, 3000), (3, 20000, 3000, 5000),
   (4, 28000, 0, 5000), (5, 36000, 0, 5000), (6, 48000, 0, 5000)]

/-- The current of a PDO (R344). -/
def Dev.pdoCurrent (d : Dev) (mv cap3 cap5 : Nat) : Nat :=
  min (if d.nat Reg.cableCurrent == 2 then cap5 else cap3)
    (min (d.pdCfg Reg.sourceCurrentMax) (d.nat Reg.reversePowerLimit * 1000 / mv / 10 * 10))

/-- The PDOs offered: position, voltage, current. EPR PDOs stand from position 8 on. -/
def Dev.offers (d : Dev) : List (Nat × Nat × Nat) :=
  let mask := d.pdCfg Reg.sourcePdoMask ||| 1
  let on := pdoRows.filter (fun r => mask.testBit r.1)
  let spr := on.filter (fun r => r.1 < 4)
  let epr := if d.pd.epr then on.filter (fun r => 4 ≤ r.1) else []
  (spr.mapIdx (fun i r => (i + 1, r.2.1, d.pdoCurrent r.2.1 r.2.2.1 r.2.2.2)))
    ++ epr.mapIdx (fun i r => (i + 8, r.2.1, d.pdoCurrent r.2.1 r.2.2.1 r.2.2.2))

/-- Regulated-node current limit of a current (R345): + 10 %. -/
def plus10 (ma : Nat) : Int := roundDiv (ma * 11) 10

/-- Entry into Attached.SRC (R345): sourcing is requested at 5.0 V, VCONN applied. Where the path cannot enter Reverse the
port goes to ErrorRecovery. -/
def Dev.sourceAttach (d : Dev) (ra : Bool) : Dev :=
  if d.portRuns && d.pdState == 6 && !d.pd.asking && !d.pd.discharging && !d.pd.restart && d.pd.after != 6
      && d.pathState != 4 then
    if d.reverseAllowed then d.setPd (fun p => { p with asking := true, vconn := ra, ra := ra })
    else d.unattach 7
  else d

def execSourceAttach (ra : Bool) (s : State) : Res := .next (s.together (s.onDev (·.sourceAttach ra)))

/-- REVERSE_ENTRY (R321, R345, R354): target and limit that the port passes. -/
def execReverseEntry (s : State) : Res :=
  .next (s.onDev (fun d =>
    let ma := if d.nat Reg.frsState == 2 then d.nat Reg.partnerFrsCurrent
      else if d.explicit then d.nat Reg.contractCurrent else d.nat Reg.typeCCurrent
    let mv := if d.nat Reg.frsState == 2 then 5000 else d.expectedMv
    let t := d.reverseEntry mv (plus10 ma)
    if t.pathState == 4 && d.pathState != 4 then t.setPd (fun p => { p with asking := false, endDue := false }) else t))

/-- An answer to Discover Identity sets CableCurrent and CableEpr (R345). -/
def Dev.takeCable (d : Dev) (five epr : Bool) : Dev :=
  (d.set Reg.cableCurrent (if five then 2 else 1)).setBool Reg.cableEpr epr

/-- Discover Identity on SOP′, up to four times, and then on SOP″ as well where the answer declares a far-end controller
(R345). That SOP″ has four tries of its own is DEDUCED (assumption 117). -/
def Dev.discover (d : Dev) (answered five epr farEnd : Bool) : Dev :=
  if !d.attached || d.pdState != 6 then d
  else match d.pd.farSent with
    | some n =>
      if n < 4 then
        let d := (d.send (.discoverIdentity true)).setPd (fun p => { p with farSent := some (if answered then 4 else n + 1) })
        if answered then d.takeCable five epr else d
      else d
    | none =>
      if d.pd.discoverSent < 4 && d.nat Reg.cableCurrent == 0 then
        let d := (d.send (.discoverIdentity false)).setPd (fun p => { p with discoverSent := p.discoverSent + 1 })
        if answered then (d.takeCable five epr).setPd (fun p => { p with farSent := if farEnd then some 0 else none }) else d
      else d

def execDiscoverIdentity (answered five epr farEnd : Bool) (s : State) : Res :=
  .next (s.onDev (·.discover answered five epr farEnd))

/-- Source_Capabilities, up to 50 times until one is acknowledged (R345). -/
def Dev.sendCaps (d : Dev) (ack : Bool) : Dev :=
  if d.attached && d.pdState == 6 && d.pathState == 4 && !d.pd.capsAcked && d.pd.capsSent < 50 then
    ((d.send (.sourceCapabilities d.offers)).setPd (fun p => { p with capsSent := p.capsSent + 1, capsAcked := ack })).sinkTx false
  else d

def execSendSourceCapabilities (ack : Bool) (s : State) : Res := .next (s.onDev (·.sendCaps ack))

/-- EPR_Mode (Enter) (R346, Table 13.3). -/
def Dev.eprEnter (d : Dev) (capable succeeded : Bool) : Dev :=
  if !d.attached then d
  else if d.busyPd then (if d.pdState == 6 then d.send .wait else d)
  else if d.pdState == 5 then
    if d.pdCfg Reg.sinkEprEnable == 1 && d.nat Reg.contractState == 1 && capable then
      let d := d.send (.eprEnter (d.pdCfg Reg.sinkPowerMax / 1000))
      if succeeded then d.setPd (fun p => { p with epr := true }) else d
    else d
  else if d.nat Reg.contractState != 1 then d.send (.eprEnterFailed 0)
  else if field (d.pdCfg Reg.sourcePdoMask) 4 6 == 0 then d.send (.eprEnterFailed 1)
  else if d.nat Reg.cableCurrent != 2 || !d.on Reg.cableEpr then d.send (.eprEnterFailed 2)
  else (d.send .eprEnterSucceeded).setPd (fun p => { p with epr := true, capsAcked := false, capsSent := 0 })

def execEprModeEnter (capable succeeded : Bool) (s : State) : Res := .next (s.onDev (·.eprEnter capable succeeded))

def execEprKeepAlive (s : State) : Res :=
  .next (s.onDev (fun d => if d.attached && d.pdState == 5 && d.pd.epr then d.send .eprKeepAlive else d))

def execEprKeepAliveLost (s : State) : Res :=
  .next (s.together (s.onDev (fun d => if d.pdState == 6 && d.pd.epr then d.doHardReset .eprKeepAlive else d)))

/-- EPR_Mode (Exit) (R346): SPR capabilities again. -/
def Dev.eprExit (d : Dev) : Dev :=
  if d.attached && d.pd.epr then
    let d := d.setPd (fun p => { p with epr := false, capsAcked := false, capsSent := 0 })
    if d.nat Reg.contractState == 2 then d.set Reg.contractState 1 else d
  else d

def execEprModeExit (s : State) : Res := .next (s.onDev (·.eprExit))

/-- A request as source (R348, Table 13.3): accepted if it names an offered PDO within its current. -/
def Dev.sourceRequest (d : Dev) (pos ma : Nat) : Dev :=
  if !(d.attached && d.pdState == 6 && d.pathState == 4) then d
  else if d.busyPd then d.send .wait
  else match d.offers.find? (fun o => o.1 == pos) with
    | some (_, mv, cap) =>
      if ma ≤ cap then
        let old := d.expectedMv
        let d := (d.send .accept).setPd (fun p => { p with
          transition := some ⟨old, mv, ma, 0, pos, p.epr, false⟩, capsAcked := true })
        let d := d.set Reg.contractState 3
        let now := d.path.outLimit.getD 0
        { d with path := { d.path with outLimit := some (max now (plus10 ma)) } }
      else (d.send .reject).sinkTx true
    | none => (d.send .reject).sinkTx true

def execSourceRequest (pos ma : Nat) (s : State) : Res := .next (s.onDev (·.sourceRequest pos ma))

/-- After 30 ms the converter's target ramps to the new voltage (R348). -/
def Dev.sourceRamp (d : Dev) : Dev :=
  match d.pd.transition with
  | some t =>
    if d.pdState == 6 && !t.ramping then
      let d := d.setPd (fun p => { p with transition := some { t with ramping := true } })
      { d with conv := { d.conv with targetMv := t.newMv } }
    else d
  | none => d

def execSourceRampStart (s : State) : Res := .next (s.onDev (·.sourceRamp))

/-- VBUS within ±5 % of the new voltage for 1 ms: PS_RDY (R348). -/
def Dev.sourcePsRdy (d : Dev) (vbus : Nat) : Dev :=
  match d.pd.transition with
  | some t =>
    if d.pdState == 6 && t.ramping && 95 * t.newMv ≤ 100 * vbus && 100 * vbus ≤ 105 * t.newMv then
      let d := (d.setNat Reg.vbusVoltage vbus).send .psRdy
      let d := { d with path := { d.path with outLimit := some (plus10 t.currentMa) } }
      d.establish t
    else d
  | none => d

def execSourcePsRdy (vbus : Nat) (s : State) : Res := .next (s.together (s.onDev (·.sourcePsRdy vbus)))

/-- TransitionWatchdog (R348). -/
def execTransitionWatchdog (s : State) : Res :=
  .next (s.together (s.onDev (fun d =>
    if d.pd.transition.isSome && d.pdState == 6 then (d.raise 92).doHardReset .watchdog else d)))

/-- VBUS outside the envelope of a transition (R349). -/
def Dev.envelope (d : Dev) (vbus : Nat) : Dev :=
  match d.pd.transition with
  | some t =>
    let lo := min t.oldMv t.newMv
    let hi := max t.oldMv t.newMv
    if d.portRuns && (10 * vbus + 5000 < 9 * lo || 11 * hi + 5000 < 10 * vbus) then
      (d.vbusFail 3).doHardReset .envelope
    else d
  | none => d

def execEnvelopeFault (vbus : Nat) (s : State) : Res := .next (s.together (s.onDev (·.envelope vbus)))

/-- Sink overvoltage (R349). In a transition the higher of its two voltages is the one expected, as for the envelope (DEDUCED,
assumption 128). -/
def Dev.sinkOver (d : Dev) (vbus : Nat) : Dev :=
  let expected := match d.pd.transition with | some t => max t.oldMv t.newMv | none => d.expectedMv
  if d.portRuns && d.pd.policy && d.pdState == 5 && (11 * expected + 5000 < 10 * vbus || 55000 < vbus) then
    (d.reportLost.vbusFail 1).doHardReset .envelope
  else d

def execSinkOvervoltage (vbus : Nat) (s : State) : Res := .next (s.together (s.onDev (·.sinkOver vbus)))

/-! ## Fast role swap (R353 to R355) -/

/-- The partner's Sink_Capabilities (R353). -/
def Dev.sinkCaps (d : Dev) (ma : Nat) : Dev :=
  if d.attached && d.pdState == 5 then (d.setNat Reg.partnerFrsCurrent ma).refreshFrs else d

def execSinkCapabilitiesReceived (ma : Nat) (s : State) : Res := .next (s.onDev (·.sinkCaps ma))

/-- The FRS signal (R354). -/
def Dev.frsSignal (d : Dev) : Dev :=
  let d := d.refreshFrs
  if d.portRuns && d.nat Reg.frsState == 1 then ((d.set Reg.frsState 2).set Reg.contractState 4).send .frSwap else d

def execFrsSignal (s : State) : Res := .next (s.onDev (·.frsSignal))

/-- VBUS below 5.25 V (R354): sourcing is requested, or the swap is abandoned. -/
def Dev.frsStart (d : Dev) : Dev :=
  if d.portRuns && d.nat Reg.frsState == 2 && d.pathState != 4 then
    if d.reverseAllowed then d.setPd (fun p => { p with asking := true })
    else d.frsAbandoned false
  else d

def execFrsSourceStart (s : State) : Res := .next (s.together (s.onDev (·.frsStart)))

/-- The swap completes (R354). -/
def Dev.frsDone (d : Dev) : Dev :=
  if d.portRuns && d.nat Reg.frsState == 2 && d.pathState == 4 then
    let d := ((d.send .psRdy).set Reg.pdPortState 6).set Reg.powerRole 2
    let d := (d.implicitContract.setNat Reg.typeCCurrent d.ownRp).set Reg.frsState 3
    (d.setPd (fun p => { p with
      capsSent := 0, capsAcked := false, discoverSent := 0, farSent := none, epr := false, transition := none, request := none })).raise 93
  else d

def execFrsComplete (s : State) : Res := .next (s.together (s.onDev (·.frsDone)))

/-- A Hard Reset during the swap (R355). -/
def execFrsAbandon (s : State) : Res :=
  .next (s.together (s.onDev (fun d => if d.nat Reg.frsState == 2 then d.doHardReset .received else d)))

/-- PortEnable (R337, R350): 0 ends sourcing without a message and disables the port; R350's discharge runs on, or on from where
it was, and leaves the port Disabled. -/
def Dev.writePortEnable (d : Dev) (v : Nat) : Dev :=
  let d := d.setNat Reg.portEnable v
  if v != 0 then d
  else
    let ends := d.pdState == 6 || d.pathState == 4 || d.pd.discharging
    let d := ((if ends then d.leaveReverse else d).reportLost).portDisable
    if ends then d.setPd (fun p => { p with endDue := false, discharging := true, after := 0 }) else d

/-- FrsEnable takes effect at once (R358). While it is 1 the sink port reports no usable VBUS (R353). -/
def Dev.writeFrsEnable (d : Dev) (v : Nat) : Dev :=
  let d := d.setNat Reg.frsEnable v
  (if v == 1 && d.pdState == 5 && d.qualified 2 then d.reportLost else d).refreshFrs

end Sys2Proof.Machine
end

