-- ==== Sys2Proof/Machine/Protection.lean ====
section
/-! DEFINITION. The safety functions (R359 to R391): fault list, trips, the safe disconnect, dual contacts, degraded mode,
latent tests and the check value. They run in the head role only. -/

namespace Sys2Proof.Machine

/-! ## Reports of the members (R193, R365) -/

/-- Members whose report the head holds: every address with a mirror in use but its own. -/
def Dev.reportingMembers (d : Dev) : List Nat := d.usedAddresses.filter (fun a => a != 1)

/-- `n` bytes of a member's diagnostic report from byte `lo`, as a number. -/
def Dev.reportField (d : Dev) (a lo n : Nat) : Nat := ofLe (((d.blob (Reg.diagnosticReport a).key []).drop lo).take n)

/-- Some member's report satisfies a test. -/
def Dev.anyReport (d : Dev) (lo n mask : Nat) : Bool :=
  d.reportingMembers.any (fun a => d.reportField a lo n &&& mask != 0)

/-- Cells of a member whose BalState the head has read with bit [5] clear. -/
def Dev.balClear (d : Dev) (a : Nat) : Nat := ((d.safe.balRead.find? (fun e => e.1 == a)).map (·.2)).getD 0

/-- A stuck switch of a member: a BalFaultLatched bit whose BalState has not read as not stuck (R365). -/
def Dev.memberStuck (d : Dev) : Bool := d.reportingMembers.any (fun a => clearBits (d.reportField a 16 4) (d.balClear a) != 0)

/-! ## Conditions of Table 14.1 -/

/-- A device with AuxMode 2 or 3 above CellTempMax (R364). -/
def Dev.ownHot (d : Dev) : Bool :=
  2 ≤ d.nat Reg.auxMode && d.reg Reg.ainTempMax != -32768 && d.reg Reg.cellTempMax < d.reg Reg.ainTempMax

/-- The head has thermistor inputs and no valid one (R364). -/
def Dev.ownBlind (d : Dev) : Bool :=
  !d.ntcInputs.isEmpty && (d.nat Reg.auxMode == 0 || (2 ≤ d.nat Reg.auxMode && d.reg Reg.ainTempMax == -32768))

/-- The channel or channels that CounterSource selects show R126's common-mode flag. -/
def Dev.sourceCommonMode (d : Dev) : Bool :=
  [1, 2].any (fun x => d.sourceHas x && d.bit (Reg.currentStatus x) 4)

/-- The condition of fault n holds (Table 14.1). Bit 9 is momentary; bit 8 holds once SdOpenTime has passed with SD_FB closed. -/
def Dev.faultHolds (d : Dev) : Nat → Bool
  | 0 => d.laneFLevel
  | 1 => d.safe.laneFJudged && !d.pwr.laneF
  | 2 => d.safe.resetDue == some 1
  | 3 => d.safe.resetDue == some 2
  | 4 => d.safe.resetDue == some 3
  | 5 => 3 ≤ d.safe.shortRun || 3 ≤ d.safe.clipRun
  | 6 => d.nat Reg.overcurrentDelay ≤ d.safe.overMs
  | 7 => d.ownHot || d.safe.hotDevices.any (fun a => d.presentMembers.contains a)
  | 8 => d.safe.failed && d.safe.fbClosed && !d.safe.opening
  | 10 => d.safe.dcinDemand != 0
  | 11 => d.nat Reg.confirmState == 2
  | 12 => d.nat Reg.degradedRemaining == 0
  | 13 => (upTo 24).any (fun k => d.bit (Reg.cellStatus k) 4) || d.anyReport 8 4 0xFFFFFFFF
  | 14 => d.nat Reg.checkSarStatus != 0 || d.anyReport 25 1 0xFF
  | 15 => d.on Reg.openWireLatched || d.anyReport 12 4 0xFFFFFFFF
  | 16 => d.bal.faultStuck != 0 || d.memberStuck
  | 17 => d.ownBlind || d.safe.blindDevices.any (fun a => d.presentMembers.contains a)
  | 18 => d.on Reg.absentMembers
  | 19 => d.nat Reg.confirmState != 1 || d.presentMembers.any (fun a => d.nat (Reg.memberConfigState a) == 0)
  | 20 => field (d.nat Reg.chargeFaultLatched) 3 5 != 0
  | 21 => d.sourceCommonMode
  | 22 => d.reg Reg.dieTempMax < d.reg Reg.ctrlDieTemperature
  | 23 => d.safe.dcinDisc != 0
  | 24 => !d.safe.latentFailed.isEmpty
  | 25 => d.safe.overdue
  | 26 => d.on Reg.selfTestStatus || field (d.nat Reg.monSelfTestStatus) 0 1 != 0 || d.anyReport 26 1 3
  | 27 => d.on Reg.startupSelfTest
  | _ => false

/-! ## Classes (R361, R362) -/

/-- Class D: bits 0 to 12, and the G bits that FaultPromote names; bit 19 is G only while the disconnect is closed. -/
def Dev.classD (d : Dev) (n : Nat) : Bool :=
  n ≤ 12 || (13 ≤ n && n ≤ 26 && d.bit Reg.faultPromote n && (n != 19 || d.safe.held))

/-- Class G. -/
def Dev.classG (d : Dev) (n : Nat) : Bool :=
  13 ≤ n && n ≤ 26 && !d.bit Reg.faultPromote n && (n != 19 || d.safe.held)

/-- Class B. -/
def Dev.classB (d : Dev) (n : Nat) : Bool := n == 27 || (n == 19 && !d.safe.held)

def Dev.classMask (d : Dev) (p : Dev → Nat → Bool) : Nat := maskOf ((List.range 28).filter (fun n => p d n))

/-! ## SafetyState (Table 14.5) -/

/-- The conditions of R371 but the command. The 2 ms without fault level or alarm are counted in safety cycles: the third one to
begin since then (DESIGN CHOICE, assumption 165). -/
def Dev.closeReady (d : Dev) : Bool :=
  d.nat Reg.startupState == 8 && d.nat Reg.powerMode == 1 && d.nat Reg.confirmState == 1
    && ((d.nat Reg.activeFaults ||| d.nat Reg.faultLatched ||| d.nat Reg.tripCause)
        &&& (d.classMask Dev.classD ||| d.classMask Dev.classB)) == 0
    && 0 < d.nat Reg.degradedRemaining && !d.laneFLevel && 3 ≤ d.safe.quiet && !d.safe.fbClosed && !d.safe.failed

/-- The highest code that applies. -/
def Dev.safetyCode (d : Dev) : Nat :=
  if d.safe.failed then 6
  else if d.on Reg.tripCause && !d.safe.held && !d.safe.closing then 5
  else if d.safe.held then (if d.safe.degraded then 4 else 3)
  else if d.safe.closing then 2
  else if d.closeReady then 1 else 0

/-- SafetyState and DischargeLimitInForce (R378). -/
def Dev.refreshSafety (d : Dev) : Dev :=
  let d := d.setNat Reg.dischargeLimitInForce
    (if d.safe.limited then d.nat Reg.overcurrentDischarge * d.nat Reg.degradedFraction / 16
     else d.nat Reg.overcurrentDischarge)
  d.setNat Reg.safetyState d.safetyCode

/-! ## Degraded mode (R378 to R380) -/

/-- The disconnect is closed and a G bit is latched. -/
def Dev.degradedHolds (d : Dev) : Bool := d.safe.held && (d.nat Reg.faultLatched &&& d.classMask Dev.classG) != 0

/-- Entry raises source 97. -/
def Dev.enterDegraded (d : Dev) : Dev :=
  if d.degradedHolds && !d.safe.degraded then ({ d with safe := { d.safe with degraded := true } } : Dev).raise 97 else d

/-- Degraded mode ends; its clamps lift. -/
def Dev.leaveDegraded (d : Dev) : Dev :=
  if d.safe.degraded && !d.degradedHolds then { d with safe := { d.safe with degraded := false, limited := false } } else d

/-! ## Drive off (R366, R370, R375) -/

/-- SD_DRV turns off. The disconnect is no longer held closed, and where it was driven SdOpenTime begins (R373). -/
def Dev.driveOff (d : Dev) (byTrip : Bool) : Dev :=
  let shut := d.safe.fbClosed
  let d := if byTrip && !shut then d.set Reg.reactionTime 0 else d
  ({ d with safe := { d.safe with
    drive := false, closing := false, held := false, opening := d.safe.drive || d.safe.opening,
    byTrip := (byTrip && shut) || (d.safe.byTrip && d.safe.opening) } } : Dev).leaveDegraded

/-- The reaction to a D fault (R366): TripCause, the trip latch, the event, and for bits 2 to 4, 8 and 9 the converter and
the power path. -/
def Dev.tripOn (d : Dev) (n : Nat) : Dev :=
  let d := (d.orBits Reg.tripCause (2 ^ n)).setNat Reg.lastTripRow d.row
  let d := ({ d with safe := { d.safe with trip := true } } : Dev).driveOff true
  let d := if n == 2 || n == 3 || n == 4 || n == 8 || n == 9 then d.convSafetyStop.pathOff else d.pathOpened
  d.raise 96

/-- SAFETY_FAULT_DETECT: a fault is detected (R366). -/
def Dev.detect (d : Dev) (n : Nat) : Dev :=
  let d := (d.orBits Reg.activeFaults (2 ^ n)).orBits Reg.faultLatched (2 ^ n)
  let d := d.raiseIf (n == 24 || n == 26) 106
  if d.classD n then d.tripOn n else d.enterDegraded

/-- The condition of fault n holds or not. -/
def Dev.judge (d : Dev) (n : Nat) : Dev :=
  let now := d.faultHolds n
  if now && !d.bit Reg.activeFaults n then d.detect n else d.setBit Reg.activeFaults n now

/-- The safety functions run: the head's firmware runs (R359). -/
def Dev.safetyRuns (d : Dev) : Bool := d.cpuLive

def execSafetyFaultDetect (n : Nat) (active : Bool) (s : State) : Res :=
  .next (s.together (s.onDev (fun d =>
    if d.safetyRuns && n < 28 && d.faultHolds n == active then (d.judge n).refreshSafety else d)))

/-- TripCause, FaultLatched: a bit clears only while its ActiveFaults bit is clear (R366). The trip latch goes with the
last cause. -/
def Dev.clearFaults (d : Dev) (r : Reg) (v : Nat) : Dev :=
  let d := d.andNot r (clearBits v (d.nat Reg.activeFaults))
  let d : Dev := { d with safe := { d.safe with
    trip := d.safe.trip && d.on Reg.tripCause,
    failed := d.safe.failed && (d.safe.fbClosed || d.bit Reg.faultLatched 8) } }
  d.refreshSafety

/-! ## Closing and opening (R371 to R376) -/

/-- Closing begins (R372). -/
def Dev.beginClosing (d : Dev) : Dev :=
  ({ d with safe := { d.safe with drive := true, closing := true, opening := false, byTrip := false } } : Dev).refreshSafety

/-- DisconnectCommand 1 (R371). While the conditions hold, a disconnect that is driven goes on as it is. -/
def Dev.writeClose (d : Dev) : Except (Nat × Dev) Dev :=
  if d.closeReady then .ok (if d.safe.held || d.safe.closing then d else d.beginClosing)
  else .error (commandRefused, (d.raise 108).refreshSafety)

/-- SdAutoClose 1: closing begins when every condition holds. -/
def Dev.autoClose (d : Dev) : Dev :=
  if d.safetyRuns && d.on Reg.sdAutoClose && !d.safe.held && !d.safe.closing && d.closeReady then d.beginClosing else d

/-- An ordinary opening (R375). -/
def Dev.openDisconnect (d : Dev) : Dev :=
  if d.safe.drive then (((d.driveOff false).pathOpened).raise 101).refreshSafety else d

/-- The enable toggle stops: SD_DRV turns off (R370). -/
def Dev.toggleLost (d : Dev) : Dev :=
  if d.safe.drive then ((d.driveOff false).pathOpened).refreshSafety else d

def execEnableToggleLost (s : State) : Res := .next (s.onDev (·.toggleLost))

/-- SD_FB shows closed (R372). -/
def Dev.showsClosed (d : Dev) : Dev :=
  let d : Dev := { d with safe := { d.safe with fbClosed := true } }
  if d.safe.closing then
    ((({ d with safe := { d.safe with closing := false, held := true } } : Dev).raise 100).pathClosed).enterDegraded
  else d

/-- SD_FB shows open: the opening ends, ReactionTime is recorded for a trip (R367), and a disconnect held closed that has
shown open for 1 ms sets bit 8 (R373); a test pulse and the 1 ms after it are left out (R374). -/
def Dev.showsOpen (d : Dev) (elapsedUs : Nat) : Dev :=
  let d := if d.safe.opening && d.safe.byTrip then d.setNat Reg.reactionTime elapsedUs else d
  let d : Dev := { d with safe := { d.safe with
    fbClosed := false, opening := d.safe.opening && !d.safe.fbClosed, failed := d.safe.failed && d.bit Reg.faultLatched 8 } }
  let d := if d.safe.held && d.safe.pulse == .none && 1000 ≤ elapsedUs then (d.detect 8).setBit Reg.activeFaults 8 false else d
  if d.bit Reg.activeFaults 8 then d.judge 8 else d

/-- SD_FB reads a new level for 3 samples (R373): `level` is the ball's, `elapsedUs` the time since SD_DRV turned on or off,
or since the level has shown while the disconnect is held closed. -/
def Dev.feedback (d : Dev) (level : Bool) (elapsedUs : Nat) : Dev :=
  if d.pwr.role == .head && d.pwr.vlog then
    (if level != d.on Reg.sdFbPolarity then d.showsClosed else d.showsOpen elapsedUs).refreshSafety
  else d

/-- SdFbPolarity decides what the ball's present level means (R373). -/
def Dev.followPolarity (d : Dev) (before : Bool) : Dev :=
  if d.on Reg.sdFbPolarity == before then d
  else (if d.safe.fbClosed then d.showsOpen 0 else d.showsClosed).refreshSafety

def execSdFbChange (level : Bool) (elapsedUs : Nat) (s : State) : Res :=
  .next (s.together (s.onDev (·.feedback level elapsedUs)))

/-- SD_FB has not shown closed within SdCloseTime (R372): bit 8. -/
def Dev.closeTimeout (d : Dev) : Dev :=
  if d.safe.closing && !d.safe.fbClosed then ((d.detect 8).setBit Reg.activeFaults 8 false).refreshSafety else d

def execSdCloseTimeout (s : State) : Res := .next (s.together (s.onDev (·.closeTimeout)))

/-- SdOpenTime ends (R373), counted from the turning off of SD_DRV or from the start of the test pulse that a trip came into
(R376): where SD_FB still shows closed the disconnect has failed. -/
def Dev.openTimeout (d : Dev) : Dev :=
  if d.safe.opening then
    let d : Dev := { d with safe := { d.safe with opening := false } }
    if d.safe.fbClosed then
      ((({ d with safe := { d.safe with failed := true } } : Dev).detect 8).raise 99).refreshSafety
    else d
  else d

def execSdOpenTimeout (s : State) : Res := .next (s.together (s.onDev (·.openTimeout)))

/-- A pulse's readback fails (R374): the drive stays off. -/
def Dev.pulseFailed (d : Dev) : Dev :=
  ((({ d with safe := { d.safe with failed := true } } : Dev).detect 9).setBit Reg.activeFaults 9 false |>.raise 99).refreshSafety

/-- A test pulse (R374): counted at its start, judged at its readback, also where a trip has come in between (R376). SD_FB is
judged again 1 ms after it. -/
def Dev.testPulse (d : Dev) (p : PulseStep) : Dev :=
  let at_ := fun (x : PulseState) => ({ d with safe := { d.safe with pulse := x } } : Dev)
  match p with
  | .start => if d.safe.held then (at_ .running).bump Reg.sdTestCount else d
  | .readback fell =>
    if d.safe.pulse != .running then d
    else match fell with
      | some us => if us ≤ d.nat Reg.sdTestPulse then at_ .after else (at_ .after).pulseFailed
      | none => (at_ .after).pulseFailed
  | .over => if d.safe.pulse == .after then at_ .none else d

def execTestPulse (p : PulseStep) (s : State) : Res := .next (s.together (s.onDev (·.testPulse p)))

/-- SD_DRV is driven: a test pulse removes the drive (R374). -/
def Dev.driven (d : Dev) : Bool := d.safe.drive && d.safe.pulse != .running

/-! ## Current (R363) -/

/-- The wide-tap current lies beyond ±limit: |num| × 12,500 / den mA. -/
def Dev.beyondShort (d : Dev) (wide : List Int) : Bool :=
  let (num, den) := d.sourceCurrent wide
  d.nat Reg.shortCircuitLimit * den < num.natAbs * 12500

/-- One wide-tap output of the channels of CounterSource (R363). -/
def Dev.countShort (d : Dev) : Dev :=
  if d.pwr.role == .head && d.monLive then
    let clipped := [1, 2].any (fun x => d.sourceHas x && d.currentOn x && d.samp.wideClipped.testBit (23 + x))
    { d with safe := { d.safe with
      shortRun := if d.beyondShort d.samp.wide then d.safe.shortRun + 1 else 0,
      clipRun := if clipped then d.safe.clipRun + 1 else 0 } }
  else d

def execDecimatorOutput (raw mirrorUa vdsUv : List Int) (s : State) : Res :=
  .next (s.together (s.onDev (fun d => if d.monLive then (d.decimatorOutput raw mirrorUa vdsUv).countShort else d)))

/-- Three consecutive outputs beyond the limit or clipped (R363). -/
def execShortCircuit (s : State) : Res :=
  .next (s.together (s.onDev (fun d => if d.safetyRuns && d.faultHolds 5 then (d.judge 5).refreshSafety else d)))

/-- Cycles in which the current has lain beyond a limit (R363). -/
def Dev.countOver (d : Dev) : Dev :=
  let i := d.packCurrent
  let beyond := d.reg Reg.overcurrentCharge < i || i < -d.reg Reg.dischargeLimitInForce
  { d with safe := { d.safe with overMs := if beyond then d.safe.overMs + 1 else 0 } }

/-! ## Cell temperatures (R364) -/

def withMember (l : List Nat) (a : Nat) (b : Bool) : List Nat :=
  if b then (if l.contains a then l else l ++ [a]) else l.filter (fun x => x != a)

/-- AuxMode of a member as the head records it. -/
def Dev.memberAuxMode (d : Dev) (a : Nat) : Nat :=
  match d.stor.working.find? (fun e => e.1 == d.nat (Reg.memberSerial a)) with
  | some (_, m) => (m.regs.val Reg.auxMode).toNat
  | none => 0

/-- A member's AinTempMax has been read; `ntc`: it has thermistor inputs configured. -/
def Dev.takeTemp (d : Dev) (a : Nat) (t : Int) (ntc : Bool) : Dev :=
  let mode := d.memberAuxMode a
  let d : Dev := { d with safe := { d.safe with
    hotDevices := withMember d.safe.hotDevices a (2 ≤ mode && t != -32768 && d.reg Reg.cellTempMax < t),
    blindDevices := withMember d.safe.blindDevices a (ntc && (mode == 0 || (2 ≤ mode && t == -32768))) } }
  ((d.judge 7).judge 17).refreshSafety

def execCellTempRead (a : Nat) (t : Int) (ntc : Bool) (s : State) : Res :=
  .next (s.together (s.onDev (fun d => if d.safetyRuns && d.presentMembers.contains a then d.takeTemp a t ntc else d)))

/-! ## Dual contacts (R377) -/

def Dev.pairEnabled (d : Dev) (n : Nat) : Bool := d.bit Reg.dcinEnable n

/-- Milliseconds that each contact has read open; `levels` holds the balls, high where a contact is open. -/
def Dev.openMs (d : Dev) (levels i : Nat) : Nat :=
  if d.pairEnabled (i / 2) && levels.testBit i then nth d.safe.dcinOpenMs i + 1 else 0

/-- A pair as sampled: contacts nA and nB. -/
def Dev.closedMs (d : Dev) (levels n : Nat) : Nat :=
  if d.pairEnabled n && !levels.testBit (2 * n) && !levels.testBit (2 * n + 1) then nth d.safe.dcinClosedMs n + 1 else 0

def Dev.diffMs (d : Dev) (levels n : Nat) : Nat :=
  if d.pairEnabled n && levels.testBit (2 * n) != levels.testBit (2 * n + 1) then nth d.safe.dcinDiffMs n + 1 else 0

def Dev.dcinSample (d : Dev) (levels : Nat) : Dev :=
  let opens := (List.range 8).map (d.openMs levels)
  let closes := (List.range 4).map (d.closedMs levels)
  let diffs := (List.range 4).map (d.diffMs levels)
  let demand := maskOf ((List.range 4).filter (fun n => d.pairEnabled n &&
    (2 ≤ nth opens (2 * n) || 2 ≤ nth opens (2 * n + 1) || (d.safe.dcinDemand.testBit n && nth closes n < 2))))
  let disc := maskOf ((List.range 4).filter (fun n => d.pairEnabled n &&
    (d.nat Reg.dcinDiscrepancy < nth diffs n || (d.safe.dcinDisc.testBit n && nth diffs n != 0))))
  let newDisc := clearBits disc d.safe.dcinDisc != 0
  let d := (List.range 8).foldl (fun d i => if d.pairEnabled (i / 2) then d.setBit Reg.dcinState i (levels.testBit i) else d) d
  let d : Dev := { d with safe := { d.safe with
    dcinOpenMs := opens, dcinClosedMs := closes, dcinDiffMs := diffs, dcinDemand := demand, dcinDisc := disc } }
  (((d.judge 10).judge 23).raiseIf newDisc 102).refreshSafety

def execDcinSample (levels : Nat) (s : State) : Res :=
  .next (s.together (s.onDev (fun d => if d.safetyRuns then d.dcinSample levels else d)))

/-! ## Degraded time (R379) -/

/-- A second of degraded mode; at 0 bit 12 and source 98. -/
def Dev.degradedTick (d : Dev) : Dev :=
  let r := d.nat Reg.degradedRemaining
  if d.safetyRuns && d.safe.degraded && 0 < r then
    let d := d.setNat Reg.degradedRemaining (r - 1)
    if r == 1 then ((d.raise 98).judge 12).refreshSafety else d
  else d

def execDegradedTick (s : State) : Res := .next (s.together (s.onDev (·.degradedTick)))

/-- Degraded mode has been out of force for DegradedTime. -/
def Dev.degradedReset (d : Dev) : Dev :=
  if d.safetyRuns && !d.safe.degraded then
    ((d.setNat Reg.degradedRemaining (d.nat Reg.degradedTime)).judge 12).refreshSafety
  else d

def execDegradedReset (s : State) : Res := .next (s.together (s.onDev (·.degradedReset)))

/-- Degraded mode has been in force for 2 s (R378). -/
def execDegradedDischargeLimit (s : State) : Res :=
  .next (s.onDev (fun d => if d.safetyRuns && d.safe.degraded then
    ({ d with safe := { d.safe with limited := true } } : Dev).refreshSafety else d))

/-! ## Latent tests (R381) -/

def Dev.dropStep (d : Dev) (a k : Nat) : Dev :=
  { d with safe := { d.safe with latent := d.safe.latent.filter (fun x => x != (a, k)) } }

/-- The result of a comparator test of device a, cell k: bits [8], [9] and [10] must all be set. -/
def Dev.latentResult (d : Dev) (a k result : Nat) : Dev :=
  let ok := field result 8 10 == 7
  let rest := d.safe.latentFailed.filter (fun x => x != (a, k))
  let d : Dev := { d with safe := { d.safe with latentFailed := if ok then rest else rest ++ [(a, k)] } }
  ((d.dropStep a k).judge 24).refreshSafety

/-- A device's last pass of the open-wire test is older than LatentInterval. -/
def Dev.passOld (d : Dev) (a : Nat) : Bool :=
  match Tab.find a d.safe.passRows with
  | some r => d.nat Reg.latentInterval * 8000 < (d.row + 2 ^ 32 - r.toNat) % 2 ^ 32
  | none => true

/-- A pass of the device ends: its row is kept. -/
def Dev.notePass (d : Dev) (a : Nat) : Dev :=
  { d with safe := { d.safe with
    passRows := Tab.put a d.row d.safe.passRows, passes := d.safe.passes.filter (fun x => x != a) } }

/-- The head learns whether an open-wire pass of a member runs: from its own command, or from the OpenWireState that it reads
every second. The end of a pass is the reading that first shows it over (DESIGN CHOICE, assumption 169). -/
def Dev.passSeen (d : Dev) (a : Nat) (running : Bool) : Dev :=
  if running then { d with safe := { d.safe with passes := withMember d.safe.passes a true } }
  else if d.safe.passes.contains a then d.notePass a else d

/-- An engine's swatch cycles have risen since the last latent cycle. -/
def Dev.swatchMoved (d : Dev) (engine cycles : Nat) : Bool := (Tab.find engine d.safe.swatchMarks).getD (-1) != cycles

/-- The swatch step of device a, given the cycles it reports. -/
def Dev.latentSwatch (d : Dev) (a cycles : Nat) : Dev :=
  if d.swatchMoved a cycles then
    ({ d with safe := { d.safe with swatchMarks := Tab.put a cycles d.safe.swatchMarks } } : Dev).dropStep a 26
  else d

/-- One step of the head's own part of the cycle. A cell whose comparator is tripped is passed over. -/
def Dev.latentOwn (d : Dev) : Dev :=
  match d.safe.latent.find? (fun x => x.1 == 1) with
  | some (_, 25) =>
    if d.passOld 1 then
      match d.writeOpenWire with
      | .ok d => d.dropStep 1 25
      | .error _ => d.dropStep 1 25
    else d.dropStep 1 25
  | some (_, 26) =>
    if d.swatchMoved 0 (d.nat Reg.swatchCycles) && d.swatchMoved 1 (d.nat Reg.monSwatchCycles) then
      ({ d with safe := { d.safe with
        swatchMarks := Tab.put 0 (d.nat Reg.swatchCycles) d.safe.swatchMarks } } : Dev).latentSwatch 1 (d.nat Reg.monSwatchCycles)
    else d
  | some (_, k) =>
    if d.sup.testing.isSome then d
    else match d.writeComparatorTest k with
      | .ok d => d
      | .error _ => d.dropStep 1 k
  | none => d

/-- The end of a comparator test of the device, and the latent cycle's judgement of it (R120, R381). -/
def Dev.comparatorTested (d : Dev) (ov uv : Bool) : Dev :=
  match d.sup.testing with
  | some k =>
    let d := d.comparatorTestDone ov uv
    if d.safetyRuns && d.safe.latent.contains (1, k) then d.latentResult 1 k (d.nat Reg.comparatorTestResult) else d
  | none => d

def execComparatorTestDone (ov uv : Bool) (s : State) : Res := .next (s.together (s.onDev (·.comparatorTested ov uv)))

/-- The end of an open-wire window; at the end of a pass the row is kept (R381). -/
def Dev.wireWindowOver (d : Dev) : Dev :=
  let was := d.passRunning
  let d := d.wireWindowEnd
  if was && !d.passRunning then d.notePass 1 else d

def execOpenWireWindowEnd (s : State) : Res := .next (s.onDev (·.wireWindowOver))

/-- The requests of a member's part of the cycle (R381, R259). -/
def Dev.latentRequests (d : Dev) (a : Nat) : Dev :=
  let d := (upTo (d.memberCells a)).foldl (fun d k =>
    d.queueOwn a (writeMessage a 0x2060 8 [k]) [readMessage a 0x2060 9]) d
  let d := if d.passOld a then d.queueOwn a (writeMessage a 0x2070 3 [1]) [] else d.dropStep a 25
  d.queueOwn a (readMessage a 0x9040 3) []

/-- A latent cycle starts over every present device. -/
def Dev.latentCycle (d : Dev) : Dev :=
  if d.headActive && !d.safe.latentRuns then
    let ms := d.presentMembers
    let steps := (upTo d.samp.cells ++ [25, 26]).map (fun k => (1, k))
      ++ ms.flatMap (fun a => (upTo (d.memberCells a) ++ [25, 26]).map (fun k => (a, k)))
    let d : Dev := { d with safe := { d.safe with latent := steps, latentRuns := true } }
    ms.foldl Dev.latentRequests d
  else d

def execLatentCycle (s : State) : Res := .next (s.onDev (·.latentCycle))

/-- The cycle has completed every step. -/
def Dev.latentComplete (d : Dev) : Dev :=
  if d.safe.latentRuns && d.safe.latent.isEmpty then
    ({ d with safe := { d.safe with latentRuns := false, overdue := false, ageMs := 0 } } : Dev).set Reg.latentAge 0
  else d

/-- A cycle has not completed within 60 s (R381): bit 25, source 107. The cycle is given up, and the next one may start (DESIGN
CHOICE, assumption 168). -/
def Dev.latentLate (d : Dev) : Dev :=
  ((({ d with safe := { d.safe with overdue := true, latentRuns := false, latent := [] } } : Dev).raise 107).judge 25).refreshSafety

def execLatentOverdue (s : State) : Res :=
  .next (s.together (s.onDev (fun d => if d.safetyRuns && d.safe.latentRuns then d.latentLate else d)))

/-! ## Check value (R385 to R387) -/

/-- Type size in bytes; 0 for strings and byte arrays (Table 9.1). -/
def ObjType.size : ObjType → Nat
  | .bool | .u8 => 1
  | .u16 | .i16 => 2
  | .u32 | .i32 => 4
  | .u64 => 8
  | .vstr _ | .domain _ => 0

/-- The RWS objects, ascending: each is one row of the tables. -/
def rwsRows : List ObjRow := objectRows.filter (fun r => r.acc == .rws)

/-- An object as the check value enters it: index, subindex, value. -/
def checkEntry (t : Tab) (r : ObjRow) : List Nat :=
  leBytes 2 r.lo ++ [r.subLo] ++ leBytes r.ty.size (toCode (8 * r.ty.size) (t.val ⟨r.lo * 256 + r.subLo, r.dflt⟩))

/-- The bytes of R385. -/
def Dev.checkBytes (d : Dev) : List Nat :=
  leBytes 8 ownSerial ++ rwsRows.flatMap (checkEntry d.regs)
    ++ (sortBy (fun (a b : Nat × Image) => a.1 ≤ b.1) d.stor.working).flatMap (fun (e : Nat × Image) =>
      leBytes 8 e.1 ++ (rwsRows.filter (fun r => isMonIndex r.lo)).flatMap (checkEntry e.2.regs))

/-- ConfirmState follows the two check values while no withdrawal is in force; source 104 on a mismatch (R386). Never confirmed
stays so until the first confirmation (DEDUCED, assumption 129). -/
def Dev.refreshConfirm (d : Dev) : Dev :=
  let st := d.nat Reg.confirmState
  let same := d.nat Reg.checkValueComputed == d.nat Reg.checkValueConfirmed
  if st == 1 && !same then (d.set Reg.confirmState 3).raise 104
  else if st == 3 && same then d.set Reg.confirmState 1
  else d

/-- CheckValueComputed is formed anew (R385). -/
def Dev.checkRecompute (d : Dev) : Dev :=
  let d := (d.setNat Reg.checkValueComputed (crc32 d.checkBytes)).refreshConfirm
  let d : Dev := { d with safe := { d.safe with checkFormed := true, checkDue := false } }
  (d.judge 19).refreshSafety

def execCheckValueRecompute (s : State) : Res :=
  .next (s.together (s.onDev (fun d => if d.safetyRuns then d.checkRecompute else d)))

/-- The withdrawal of R242: ConfirmState 2, bit 11, source 104. -/
def Dev.withdraw (d : Dev) : Dev :=
  if d.nat Reg.confirmState == 2 then d
  else (((d.set Reg.confirmState 2).raise 104).judge 11 |>.judge 19).refreshSafety

/-- CheckValueConfirm (R387); `commissioned`: the channel holds the commissioning state. The commits requested before run first
(R393). A commit that a fault stops has no answer in the manual: the hardware-fault abort (DESIGN CHOICE, assumption 171). -/
def Dev.writeConfirm (d : Dev) (commissioned : Bool) (bytes : List Nat) : Except (Nat × Dev) Dev :=
  let value := ofLe (bytes.take 4)
  let code := ofLe ((bytes.drop 4).take 4)
  if !commissioned then .error (commissioningRequired, d)
  else if d.nat Reg.configStoreState != 0 || d.on Reg.safetyUnlockState then .error (commandRefused, d)
  else if value != d.nat Reg.checkValueComputed then .error (outOfRange, d)
  else if code != d.svc.code then .error (wrongCode, d)
  else
    let (run, d) := d.runAtHand
    let d := d.runJobs run.cresMv
    match d.commitPage55 run (fun d => page55Image d.svc.code value 1) with
    | (d, .done) =>
      .ok ((((((d.setNat Reg.checkValueConfirmed value).set Reg.confirmState 1).raise 103).judge 11).judge 19).refreshSafety)
    | (d, .refused) => .error (commandRefused, d)
    | (d, .stopped _) => .error (hardwareFault, d)

/-! ## The safety cycle (R360, R382) -/

/-- Cycles without the fault level of lane F and without an alarm symbol (R371). -/
def Dev.countQuiet (d : Dev) : Dev :=
  { d with safe := { d.safe with quiet := if d.laneFLevel then 0 else min 3 (d.safe.quiet + 1) } }

/-- A read of the head's own that is not yet waiting. -/
def Dev.askOnce (d : Dev) (a index sub : Nat) : Dev :=
  if d.svc.requests.any (fun r => r.member == a && r.origin == 3 && r.message == readMessage a index sub) then d
  else d.queueOwn a (readMessage a index sub) []

/-- Once a second: AinTempMax and OpenWireState of every present member, the controller die's temperature, and the swatch
counts that a latent cycle still waits for (R364, bit 22, R381). -/
def Dev.everySecond (d : Dev) : Dev :=
  let d := d.presentMembers.foldl (fun d a => (d.askOnce a 0x2090 4).askOnce a 0x2070 4) d
  let d := (d.safe.latent.filter (fun x => x.1 != 1 && x.2 == 26)).foldl (fun d x => d.askOnce x.1 0x9040 3) d
  d.requestTemp true

def Dev.countMs (d : Dev) : Dev :=
  let age := d.safe.ageMs + 1
  let t := d.safe.tempMs + 1
  let d : Dev := { d with safe := { d.safe with ageMs := age, tempMs := if t == 1000 then 0 else t } }
  let d := d.setNat Reg.latentAge (min 65535 (age / 1000))
  if t == 1000 then d.everySecond else d

/-- Every fault of Table 14.1 is judged on the values in force, higher precedence first (Table 14.3). -/
def Dev.judgeAll (d : Dev) : Dev := (List.range 28).foldl Dev.judge d

def Dev.safetyCycle (d : Dev) : Dev :=
  let d := d.countQuiet.countOver
  let d := d.judgeAll
  let d : Dev := { d with
    link := { d.link with alarmSeen := false },
    safe := { d.safe with nextA5 := !d.safe.nextA5 } }
  (d.leaveDegraded.latentOwn.latentComplete.countMs).refreshSafety

/-- A safety cycle begins at the tick of a row whose number is a multiple of 8 (R360); without a monitor die, and so without
ticks, at the manager's own millisecond (DESIGN CHOICE, assumption 170). -/
def Dev.cycleTick (d : Dev) : Bool := !d.monLive || d.samp.tickRow % 8 == 0

def execSafetyCycle (s : State) : Res :=
  .next (s.together (s.onDev (fun d =>
    if d.safetyRuns && d.safe.resetDue.isNone && d.cycleTick then d.safetyCycle else d)))

/-- The watchdog expires (R382): bit 2 and, 100 µs later, the reset. -/
def Dev.processorFault (d : Dev) (cause n : Nat) : Dev :=
  if d.cpuLive && d.safe.resetDue.isNone then
    (({ d with safe := { d.safe with resetDue := some cause } } : Dev).judge n).refreshSafety
  else d

def execWatchdogExpiry (s : State) : Res := .next (s.together (s.onDev (·.processorFault 1 2)))

/-- The cores disagree (R263, R383): LockstepStatus bit [0], bit 3 and the reset. -/
def execLockstepDisagreement (s : State) : Res :=
  .next (s.together (s.onDev (fun d => if d.cpuLive then (d.setBit Reg.lockstepStatus 0 true).processorFault 2 3 else d)))

end Sys2Proof.Machine
end

