-- ==== Sys2Proof/Machine/PowerModes.lean ====
section
/-! DEFINITION. Supplies, resets, power modes and start-up (R60 to R85, R328, R329, R382 to R384). -/

namespace Sys2Proof.Machine

/-! ## Supplies (R60 to R65) -/

/-- A KA island that is not supplied or is held inactive by the member role has no crystal (R3, Table 2.7). -/
def Dev.refreshCrystal (d : Dev) : Dev := d.setPwr (fun p => { p with crystal := p.crystal && d.kaActive })

/-- Supply of the KA island (R63). DESIGN CHOICE (assumption 90): KA_BAT supplies it from 1.8 V upwards on a rise as on a
fall. -/
def Dev.kaSource (d : Dev) : Dev :=
  let src : KaSupply := if d.pwr.vlog then .vlog else if 1800 ≤ d.pwr.kaBatMv then .kaBat else .none
  ((d.setPwr (fun p => { p with ka := src })).refreshCrystal).refreshKa

/-! ## Resets (Table 3.2) -/

/-- What the KA island keeps of the path: the NiMH charger and KA_OUT. -/
def Path.kaPart (p : Path) : Path :=
  { Path.reset with
    nimhHoldS := p.nimhHoldS, nimhS := p.nimhS, nimhBack := p.nimhBack, nimhSamples := p.nimhSamples, nimhBest := p.nimhBest,
    nimhDrop := p.nimhDrop, nimhTemps := p.nimhTemps, nimhRise := p.nimhRise, kaBatOk := p.kaBatOk,
    kaWaiting := p.kaWaiting }

/-- What a logic-field reset leaves of storage: FRAM, NAND, the KA island's and the monitor die's parts. -/
def Storage.kept (s : Storage) : Storage :=
  { s with
    working := [], jobs := [], hostRun := none, ended := none, counterReads := [], closeDue := false, logQueue := [],
    droppedRead := true,
    ctrlTempBusy := false, ctrlTempValid := 0, compensationDue := false, romFailed := false }

/-- What a logic-field reset leaves of the object service: the segment agent of the monitor die. -/
def Service.agentPart (v : Service) : Service :=
  { Service.reset with agent := v.agent, agentSeq := v.agentSeq, agentAnswer := v.agentAnswer }

/-- The reads of the snapshot groups that the controller die had open end with its reset; the segment agent's stay. -/
def Dev.dropReads (d : Dev) : Dev :=
  { d with snaps := d.snaps.map (fun s => { s with readers := s.readers.filter (fun r => r == 3 && d.pwr.role == .member) }) }

/-- A logic-field reset (R66): all controller-die state but the KA island, FRAM and NAND. The ball SD_FB keeps its level.
DESIGN CHOICE (assumption 186): the objects of 0x1A00 are the monitor die's and stay, SnapReady with them; of the snapshot
groups the bank of group 3, the CNV island's, is lost, and that of group 6, the KA island's, stays. -/
def Dev.logicReset (d : Dev) (causeBit : Nat) : Dev :=
  let polarity := d.on Reg.sdFbPolarity
  let d := ((d.dropRegs (fun k => !survivesLogicReset k)).dropBlobs (fun k => !isMonKey k && !isKaKey k)).dropReads.setGroup 3 .reset
  let d : Dev := { d with
    chain := .reset, svc := d.svc.agentPart, ctl := .reset, conv := .reset, pd := .reset,
    path := d.path.kaPart, stor := d.stor.kept,
    link := { d.link with downBits := [] },
    safe := { Safety.reset with fbClosed := d.safe.fbClosed != polarity },
    pwr := { d.pwr with
      startupTempDone := false, fieldLoaded := false, wakeDue := false, shipEntry := false, closing := false, crossings := [] } }
  (((d.setBit Reg.resetCause causeBit true).refreshCrystal).refreshKa).refreshSupply

/-- The SRAM is lost with the reset (R282). -/
def State.logicReset (s : State) (causeBit : Nat) (mode : LogicMode) : State :=
  { s with mem := [], dev := (s.dev.setPwr (fun p => { p with logic := mode })).logicReset causeBit }

/-- The controller die is powered and may be reset by RSTB_N, SoftReset or a fault: not off, not in ship mode. -/
def Dev.logicPowered (d : Dev) : Bool :=
  d.pwr.logic == .startup || d.pwr.logic == .active || d.pwr.logic == .sleepEntry || d.pwr.logic == .sleep

/-- What an HV-field reset abandons shows after it: WireGaugeState 3 (R153) and ImpState 6 (R161). DEDUCED (assumption 105):
they show from the release on, since nothing reads the die while it is in reset. -/
def Dev.abandonedByReset (d before : Dev) : Dev :=
  let held := before.pwr.hv == .inReset
  let d := if before.nat Reg.wireGaugeState == 1 || (held && before.nat Reg.wireGaugeState == 3) then d.set Reg.wireGaugeState 3 else d
  if before.bal.run.isSome || (held && before.nat Reg.impState == 6) then d.set Reg.impState 6 else d

/-- HV-field reset: all monitor-die state (R66), with it the objects of 0x1A00 and the groups of its own islands (assumption
186). -/
def Dev.hvReset (d : Dev) : Dev :=
  let d := ((d.dropRegs isMonKey).dropBlobs isMonKey).abandonedByReset d
  { d with
    snaps := (List.range 7).map (fun g => if g == 3 || g == 6 then d.group g else .reset),
    samp := .reset, sup := .reset, bal := .reset, link := { Link.reset with downBits := d.link.downBits },
    svc := { d.svc with agent := .reset, agentSeq := none, agentAnswer := [] },
    stor := { d.stor with monTempBusy := false, monTempValid := 0, monSwatch := 0, monSkipped := false },
    pwr := { d.pwr with hv := .inReset, trimLoaded := false, laneU := false, monLocked := false, markCycles := 0 } }

/-- The ports of the monitor die take a state (Table 7.2). -/
def Dev.setPorts (d : Dev) (st : Nat) : Dev :=
  allPorts.foldl (fun d p => (d.leaveUp p).setNat (Reg.portState p.num) st) d

/-- The role that lane H reports: head only while its carrier runs and the logic field has latched the head role (R20). -/
def Dev.reportedRole (d : Dev) : Role := if d.pwr.laneH && d.pwr.role == .head && d.logicPowered then .head else .member

/-- The HV field leaves reset (R67, R82): trims, thresholds and factory sets are loaded, the carriers run, the channels
settle (R93) and a die-temperature conversion is taken. Without a carrier on lane H the role stays pending for the 10 µs that
the loss of the lane takes (Table 3.8). A member's ports train at once, a head's at the cast-on step (Table 3.3). The first
factors taken into force count as an application: GaugeApplyCount becomes 1 (DESIGN CHOICE, assumption 180). -/
def Dev.hvStart (d : Dev) : Dev :=
  let d := d.setPwr (fun p => { p with
    vstk := true, hv := if p.laneH then .active else .rolePending, trimLoaded := true, laneU := true })
  let d := d.setPwr (fun p => { p with monRole := d.reportedRole })
  let d := (d.set Reg.monPowerMode (if d.pwr.laneH then 1 else 3)).setBit Reg.monResetCause 0 true
  let d := if d.monHead then d else d.setPorts 2
  (((d.startSettling allChannels true).requestTemp false).refreshSetsInUse).computeFactors.refreshSupply

def execHvPowerOn (vstkMv : Nat) (s : State) : Res :=
  if 135000 < vstkMv then .fault (.beyondAbsoluteMaximum "VSTK")
  else .next (s.onDev (fun d => if !d.pwr.vstk && 7000 ≤ vstkMv then d.hvReset.hvStart else d))

/-- VSTK lost (R65). During steps 4 to 7 StartupState returns to 3 (R83); the head's rows stop. -/
def Dev.vstkLost (d : Dev) : Dev :=
  if d.pwr.vstk then
    let d := d.hvReset.setPwr (fun p => { p with vstk := false })
    let d := if d.pwr.role == .head && d.pwr.logic == .startup && 4 ≤ d.nat Reg.startupState then
        (d.set Reg.startupState 3).setPwr (fun p => { p with startupTempDone := false, fieldLoaded := false })
      else d
    let d : Dev := if d.cpuLive then ({ d with chain := .reset } : Dev).set Reg.chainState 0 else d
    d.refreshSupply
  else d

def execHvReset (s : State) : Res := .next (s.onDev (·.vstkLost))

/-- VLOG becomes present (Table 3.5, R72). -/
def State.vlogRise (s : State) : State :=
  let s := s.onDev (fun d => ((d.setPwr (fun p => { p with vlog := true, vlogLow := false })).kaSource.setBit
    Reg.resetCause 0 true).refreshSupply)
  if !s.dev.pwr.shipLatched then s.onDev (fun d => d.setPwr (fun p => { p with logic := .inReset }))
  else if s.dev.pwr.shipExit then
    (s.logicReset 5 .inReset).onDev (fun d =>
      let d := d.setPwr (fun p => { p with shipLatched := false, shipExit := false })
      if d.pwr.vstk then d.hvReset.hvStart else d)
  else s.onDev (fun d => (d.setPwr (fun p => { p with logic := .ship })).refreshKa)

/-- VLOG rises through its rising threshold of Table 3.1 and becomes present. DESIGN CHOICE (assumption 89): where it is
present already and low, the VLOG-low bit clears there. -/
def execVlogRise (vlogMv : Nat) (s : State) : Res :=
  if 65000 < vlogMv then .fault (.beyondAbsoluteMaximum "VLOG")
  else if vlogMv < 4400 then .next s
  else .next (if s.dev.pwr.vlog then s.onDev (fun d => (d.setPwr (fun p => { p with vlogLow := false })).refreshSupply)
    else s.vlogRise)

/-- VLOG through its warning threshold (R64): source 34; no commit starts from then on. -/
def execVlogLowWarning (s : State) : Res :=
  .next (s.together (s.onDev (fun d => if d.pwr.vlog && !d.pwr.vlogLow then
    ((d.setPwr (fun p => { p with vlogLow := true })).refreshSupply).raise 34 else d)))

/-- VLOG lost (R64): logic power-on reset, the KA island on KA_BAT, the mode of Table 3.5. -/
def State.vlogLoss (s : State) : State :=
  if s.dev.pwr.vlog then
    let s := s.onDev (fun d => (d.setPwr (fun p => { p with vlog := false, vlogLow := false })).kaSource)
    s.logicReset 0 (if s.dev.pwr.ka == .none then .off else .keepAliveOnly)
  else s

def execVlogLoss (s : State) : Res := .next s.vlogLoss

/-- VIO against its thresholds (R60, R62). -/
def Dev.vioChange (d : Dev) (mv : Nat) : Dev :=
  let v := if d.pwr.vio then decide (1450 ≤ mv) else decide (1550 ≤ mv)
  ((d.setPwr (fun p => { p with vio := v })).refreshSupply).refreshLog

/-- The KA island changes its supply (R63). -/
def execKaSupplyChangeover (kaBatMv : Nat) (s : State) : Res :=
  if 5500 < kaBatMv then .fault (.beyondAbsoluteMaximum "KA_BAT")
  else .next (s.onDev (fun d => ((d.kaBatLevel kaBatMv).kaSource).refreshSupply))

/-- The KA supply falls below 1.8 V (R66, R411): the KA island resets, and its snapshot group with it (assumption
186). Possible only without VLOG (R63). -/
def Dev.kaReset (d : Dev) : Dev :=
  if d.pwr.vlog then d
  else
    let d := (d.dropRegs isKaKey).setGroup 6 .reset
    let d : Dev := { d with
      path := .reset,
      stor := { d.stor with calendarWrite := none, raiseCalendar := true, ticksToCorrect := 0, kaFresh := true },
      pwr := { d.pwr with kaBatMv := 0, ka := .none, crystal := false, shipLatched := false, shipExit := false, logic := .off } }
    ((d.setBit Reg.resetCause 6 true).refreshKa).refreshSupply

def execKaPowerOnReset (s : State) : Res := .next (s.together (s.onDev (·.kaReset)))

/-- RSTB_N low (R66), also while another logic-field reset holds: every cause that occurs sets its bit. In ship mode the ball
is Z (Table 2.7). -/
def execExternalReset (s : State) : Res :=
  .next (if s.dev.logicPowered || s.dev.pwr.logic == .inReset then
      (s.logicReset 1 .inReset).onDev (fun d => d.setPwr (fun p => { p with rstbLow := true }))
    else s)

/-- The operating range of VLOG (Table 3.1), in mV. -/
def vlogInRange (mv : Nat) : Bool := 4500 ≤ mv && mv ≤ 60000

/-- The release of logic-field reset (R2, R3, R54): the role latches, head where HEAD_EN is high and VLOG lies in its
operating range. The KA island of a member is inactive. -/
def Dev.release (d : Dev) (headEn : Bool) (vlogMv : Nat) : Dev :=
  if d.pwr.vlog && d.pwr.logic == .inReset && !d.pwr.hb1Off then
    let d := d.setPwr (fun p => { p with
      rstbLow := false, headEn := headEn, role := if headEn && vlogInRange vlogMv then .head else .member, logic := .startup,
      laneH := true })
    let d := ((d.set Reg.startupState 1).set Reg.powerMode 0).refreshCrystal
    ((((d.refreshPhases).refreshLimits).refreshKa).refreshSafety).refreshSupply
  else d

def execResetRelease (headEn : Bool) (vlogMv : Nat) (s : State) : Res := .next (s.onDev (·.release headEn vlogMv))

/-- The monitor die wakes: its ports train, its channels settle (R93), group supervision starts afresh (R125, R203), and in
mode 2 the auxiliary converters start their passes (R104). DESIGN CHOICE (assumption 106): the last legacy check of a sleep
and the first of the next count as consecutive (R130). -/
def Dev.monWake (d : Dev) : Dev :=
  if d.pwr.hv == .sleep then
    let d := ({ d with sup := { d.sup with wakeLow := false }, link := { d.link with missedRows := 0 } } : Dev).setPorts 2
    let d := ((d.setPwr (fun p => { p with hv := .active })).set Reg.monPowerMode 1).startSettling d.usedChannels true
    (d.continuePasses).refreshLive
  else d

/-- The role-change reset (R67): address, port states and role; measurement and configuration are kept. A change of role
changes the reference of MON (R24), and a die that slept leaves the legacy wake check (R130). -/
def Dev.roleChange (d : Dev) : Dev :=
  if d.pwr.vstk && (d.pwr.hv == .active || d.pwr.hv == .sleep || d.pwr.hv == .rolePending) then
    let role := d.reportedRole
    let d := ((d.monWake).abandonSelfCal).unbind
    let d : Dev := { d with
      samp := { d.samp with untimed := true },
      link := { d.link with rowsStarted := false, flags := 0, header := 0, slots := [], sentOut := 3, missedRows := 0 },
      pwr := { d.pwr with monRole := role, hv := .active, monLocked := d.pwr.monLocked && d.pwr.monRole == role } }
    let d := d.setPorts (if role == .head then 0 else 2)
    (((d.setBit Reg.linkStatus 0 false).set Reg.monPowerMode 1).setBit Reg.monResetCause 1 true).refreshSupply
  else d

def execRoleChangeReset (s : State) : Res := .next (s.onDev (·.roleChange))

/-! ## Sleep of the monitor die (Table 3.3, R68, R76) -/

/-- The monitor die enters Sleep: DSP off, ports listening, everything that sleep entry abandons. -/
def Dev.monSleep (d : Dev) : Dev :=
  if d.monLive then
    let d := ((((d.abandonRun 6).abandonGauge).abandonWirePass).endGroupTrips).abandonSelfCal
    let d := (({ d with samp := { d.samp with ownTick := none } } : Dev).dropPass false).dropPass true
    let d := ((d.set Reg.bufferState 0).setPorts 1).setBit Reg.linkStatus 0 false
    ((d.setPwr (fun p => { p with
      hv := .sleep, markCycles := if p.monRole == .head then p.markCycles else 0 })).set Reg.monPowerMode 2).refreshLive
  else d

/-- No lane H carrier for 10 µs (R19): a pending role is decided, member (R67); a head's monitor die stops its rows and
sleeps (R68). -/
def Dev.laneHLost (d : Dev) : Dev :=
  let d := d.setPwr (fun p => { p with
    laneH := false, markCycles := if p.monRole == .head then 0 else p.markCycles, monLocked := p.monLocked && p.monRole != .head })
  if d.pwr.hv == .rolePending then
    ((d.setPwr (fun p => { p with hv := .active, monRole := .member })).set Reg.monPowerMode 1).refreshSupply
  else if d.monHead then d.monSleep.refreshSupply else d

def execLaneHLoss (s : State) : Res := .next (s.onDev (·.laneHLost))

/-- Lane F lost or back (R19, Table 14.1 bit 1). -/
def Dev.laneFChange (d : Dev) (on : Bool) : Dev :=
  let d := d.setPwr (fun p => { p with laneF := on })
  if d.safetyRuns then (d.judge 1).refreshSafety else d

def execLaneFLoss (s : State) : Res := .next (s.together (s.onDev (·.laneFChange false)))
def execLaneFReturn (s : State) : Res :=
  .next (s.together (s.together (s.onDev (fun d => if d.pwr.laneU then d.laneFChange true else d))))

/-- A KA reference mark (R24): an edge of the crystal, and the MON cycles since the mark before it. -/
def execKaReferenceMark (cycles : Nat) (s : State) : Res :=
  .next (s.onDev (fun d => if d.monHead && d.pwr.laneH && d.monLive && d.kaActive then
    (d.setPwr (fun p => { p with markCycles := cycles, crystal := true })).refreshSupply else d))

/-- MON has lost its reference (R24): source 13. On a head whose lane H runs, the marks and so the crystal are gone. -/
def execMonReferenceLost (s : State) : Res :=
  .next (s.together (s.onDev (fun d => if d.monLive then
    ((d.setPwr (fun p => { p with
      monLocked := false, markCycles := 0, crystal := p.crystal && !(d.monHead && p.laneH) })).refreshSupply).raise 13 else d)))

/-- The reference that MON can lock to (R24): on a head KA marks whose count is 500 but for the quantisation of a mark to the
carrier period of 100 ns, 1.64 cycles (DEDUCED, assumption 92); on a member an accepted row mark, which gives 2,048 cycles a
row, since the reference was last found absent. -/
def Dev.monReference (d : Dev) : Bool :=
  if d.monHead then d.pwr.laneH && 498 ≤ d.pwr.markCycles && d.pwr.markCycles ≤ 502
  else d.pwr.markCycles == 2048

/-- Code of an island in a crossing. -/
def islandCode : Island → Nat
  | .mon => 0 | .dsp => 1 | .la => 2 | .lb => 3 | .lc => 4 | .cpu => 5 | .cnv => 6 | .pd => 7 | .ka => 8

/-- IslandRunning bit n (Table 1.7, Table 3.3); the ports' islands run in Training, Up and Lost. Of the PD island only the CC
attach logic runs in start-up. -/
def Dev.islandOn (d : Dev) : Nat → Bool
  | 0 => d.monLive || d.pwr.hv == .sleep
  | 1 => d.monLive
  | 2 => d.monLive && 2 ≤ d.nat (Reg.portState 0)
  | 3 => d.monLive && 2 ≤ d.nat (Reg.portState 1)
  | 4 => d.monLive && 2 ≤ d.nat (Reg.portState 2)
  | 5 => d.cpuLive
  | 6 => d.cnvRuns
  | 7 => d.cnvRuns
  | 8 => d.kaActive
  | _ => false

/-- IslandRunning: on a head all nine islands, on a member those of the monitor die (R21). -/
def Dev.islands (d : Dev) : Nat :=
  maskOf ((List.range (if d.cpuLive || d.monHead then 9 else 5)).filter (fun n => d.islandOn n))

/-- A word crosses and becomes visible in the destination island (R23), where both islands run. -/
def Dev.crossing (d : Dev) (src dst : Island) (w : Word) : Dev :=
  if d.islandOn (islandCode src) && d.islandOn (islandCode dst) then
    let key := islandCode src * 16 + islandCode dst
    d.setPwr (fun p => { p with crossings := p.crossings.filter (fun e => e.1 != key) ++ [(key, w)] })
  else d

def execCrossingRequest (src dst : Island) (w : Word) (s : State) : Res := .next (s.onDev (·.crossing src dst w))

/-! ## Start-up (Table 3.6) -/

def Dev.atStep (d : Dev) (n : Nat) : Bool := d.pwr.role == .head && d.pwr.logic == .startup && d.nat Reg.startupState == n

/-- Step 1 ends (R418): the outcome is bit 27. A member's die then holds its cores halted (R22). -/
def Dev.selfTested (d : Dev) (romOk sramOk : Bool) : Dev :=
  if d.atStep 1 then
    let d := (d.setNat Reg.startupSelfTest ((if romOk then 0 else 1) + (if sramOk then 0 else 2))).set Reg.startupState 2
    (d.judge 27).refreshSafety
  else if d.pwr.role == .member && d.pwr.logic == .startup then d.setPwr (fun p => { p with logic := .active })
  else d

def execStartupSelfTest (romOk sramOk : Bool) (s : State) : Res := .next (s.together (s.onDev (·.selfTested romOk sramOk)))

/-- The transports are enabled with the settings loaded at step 2 (R253, Table 9.17). -/
def Dev.portSettings (d : Dev) (c : Nat) : CanPort :=
  ⟨d.on (Reg.canEnable c), d.nat (Reg.nominalRate c), d.nat (Reg.dataRate c), d.nat (Reg.nominalSamplePoint c),
    d.nat (Reg.dataSamplePoint c), [], none⟩

def Dev.enableTransports (d : Dev) : Dev :=
  let d : Dev := { d with svc := { d.svc with
    portA := d.portSettings 0, portB := d.portSettings 1, spiEnabled := d.on Reg.spiEnable } }
  (d.set (Reg.busState 0) (if d.svc.portA.enabled then 0 else 3)).set (Reg.busState 1) (if d.svc.portB.enabled then 0 else 3)

/-- Step 2 ends: the images are in force and the transports enabled. -/
def Dev.framScanned (d : Dev) (logDevice : Option NandDevice) : Dev :=
  if d.atStep 2 then
    let d := (d.scanFram logDevice).enableTransports.set Reg.startupState 3
    let d := (d.followPolarity false).refreshPhases
    ((((d.refreshLimits).refreshKa).raiseWaiting).judge 11 |>.judge 19).refreshSafety
  else d

def execFramScan (logDevice : Option NandDevice) (s : State) : Res := .next (s.together (s.onDev (·.framScanned logDevice)))

/-- Step 3 ends: the carriers of lanes U and F are present and the HV field is out of reset. -/
def Dev.monReady (d : Dev) : Dev :=
  if d.atStep 3 && d.pwr.vstk && d.pwr.laneU && d.monLive && d.monHead then
    let d : Dev := { d with safe := { d.safe with laneFJudged := true }, pwr := { d.pwr with laneF := true } }
    ((((d.set Reg.startupState 4).requestTemp false).requestTemp true).judge 1).refreshSafety
  else d

def execMonitorDieReady (s : State) : Res := .next (s.together (s.onDev (·.monReady)))

/-- Step 4 ends when its conversions are done and MON holds its lock; from the stop at 0xF0 the lock resumes at step 5
(Table 3.6). -/
def Dev.stepFourEnds (d : Dev) : Dev :=
  if d.pwr.monLocked && ((d.atStep 4 && d.pwr.startupTempDone) || d.atStep 0xF0) then d.set Reg.startupState 5 else d

/-- MON locks to its reference (R24); the lock may come before step 4 (R84). -/
def Dev.monLocks (d : Dev) : Dev :=
  if d.monLive && d.monReference then ((d.setPwr (fun p => { p with monLocked := true })).refreshSupply).stepFourEnds else d

def execMonLock (s : State) : Res := .next (s.onDev (·.monLocks))

/-- A conversion of the die temperature ends; the last one of step 4 may end the step. -/
def execDieTempDone (controller : Bool) (t : Int) (s : State) : Res :=
  .next (s.together (s.onDev (fun d =>
    let d := d.dieTempDone controller t
    (d.setPwr (fun p => { p with
      startupTempDone := p.startupTempDone || (d.atStep 4 && !d.stor.monTempBusy && !d.stor.ctrlTempBusy) })).stepFourEnds)))

/-- The lock does not hold within CrystalTimeout: start-up stops, source 13. A crystal whose edges have not shown stays not
running in SupplyStatus. -/
def execCrystalTimeout (s : State) : Res :=
  .next (s.together (s.onDev (fun d => if d.atStep 4 && !d.pwr.monLocked then (d.set Reg.startupState 0xF0).raise 13 else d)))

/-- The settings that a configuration image has put into the monitor die's objects take force as their writes do (R80, R92,
R94, R99, R102 to R104, R117, R151, R164); `before` is the device with the settings that they replace. -/
def Dev.settingsInForce (d before : Dev) : Dev :=
  let d : Dev := { d with samp := { d.samp with
    corner := some (d.nat Reg.filterCorner), stream := some (d.nat Reg.streamRate) } }
  let d := if (d.aux false).ref == d.nat Reg.auxRefA then d else d.takeRef false
  let d := if (d.aux true).ref == d.nat Reg.auxRefB then d else d.takeRef true
  let d := [1, 2, 3, 4, 5, 6, 7, 8].foldl (fun d n => d.ainConfigured n) d
  let d := d.writeAuxMode (d.nat Reg.auxMode)
  let d := (d.bufferModeWritten (d.nat Reg.bufferMode)).writeBalMode (d.nat Reg.balMode)
  let d := d.refreshSource
  if [Reg.ovCode, Reg.uvCode, Reg.ovUvDeglitch].all (fun r => d.reg r == before.reg r) then d else d.restartCounts

/-- A counter record is restored into the head's own monitor die at step 5 (R170). -/
def Dev.restoreOwn (d : Dev) : Dev :=
  match d.stor.counterRecords.find? (fun (e : Nat × DualImage) => e.1 == ownSerial) with
  | some (_, x) => match x.inForce d.stor.generation with
    | some m => if d.bit Reg.counterStatus 5 && d.bal.restore.isNone then
        { d with bal := { d.bal with restore := some ((findBlob 0 m.strings).getD (List.replicate 128 0)) } } else d
    | none => d
  | none => d

/-- Step 5: the head image goes into the monitor die; step 6 begins: rows start, cast-on runs, and the self-calibration is
issued if StartupControl bit [0] is set. -/
def Dev.fieldLoad (d : Dev) : Dev :=
  if d.atStep 5 && d.monLive then
    let image := d.stor.headImage.inForce d.stor.generation
    let before := d
    let d := (d.takeImage inMonImage (image.getD .defaults)).settingsInForce before
    let d := ((d.setBool Reg.fieldConfigState image.isSome).restoreOwn.refreshSetsInUse).tableTaken before
    let d := (d.setPwr (fun p => { p with fieldLoaded := true })).set Reg.startupState 6
    let d := (d.setPorts 2).beginFullCastOn
    if d.bit Reg.startupControl 0 then
      match d.writeSelfCal with
      | .ok d => d
      | .error _ => d
    else d
  else d

/-- On an addressed member the load reaches the monitor die by float messages (R80, R439); its end sets FieldConfigState. -/
def Dev.memberLoaded (d : Dev) : Dev :=
  if d.monLive && !d.monHead && d.link.address != 0 then d.set Reg.fieldConfigState 1 else d

def execFieldConfigLoad (s : State) : Res := .next (s.onDev (fun d => d.fieldLoad.memberLoaded))

/-- Step 6 ends when cast-on is complete and the self-calibration has finished; step 7 begins: every member is taken through
its load in address order. -/
def Dev.castOnEnds (d : Dev) : Dev :=
  if d.atStep 6 && d.nat Reg.chainState == 4 && !d.calibrating then
    (d.usedAddresses.filter (fun a => a != 1 && d.nat (Reg.mirrorState a) == 1)).foldl Dev.admitMember
      (d.set Reg.startupState 7)
  else d

def execPassClose (s : State) : Res := .next (s.onDev (fun d => d.passClose.castOnEnds))

def execSelfCalDone (offA : Int) (gainA : Nat) (offB : Int) (gainB : Nat) (s : State) : Res :=
  .next (s.onDev (fun d => (d.selfCalDone offA gainA offB gainB).castOnEnds))

/-- A message of the head's own that takes a member through step 7: the read of its serial number, the load of its image, from
the reads before it to the one after it, or the self-calibration. -/
def admits (m : List Nat) : Bool :=
  let index := nth m 2 + 256 * nth m 3
  let key := index * 256 + nth m 1
  m.isEmpty || index == 0x1000 || index == 0x2F00 || index == 0x2030 || key == 0x360008 || inMonImage key

/-- A request of step 7 is still open. -/
def Dev.admissionOpen (d : Dev) : Bool :=
  d.svc.requests.any (fun r => r.origin == 3 && (r.message :: r.more).any admits)

/-- Step 8 (Table 3.6, R384, R385, Table 15.2). -/
def Dev.startupEnds (d : Dev) (us : Nat) : Dev :=
  if d.atStep 7 && !d.admissionOpen then
    let d := d.setPwr (fun p => { p with logic := .active })
    let d := ((d.set Reg.startupState 8).set Reg.powerMode 1).setNat Reg.startupTime (min us 0xFFFFFFFF)
    let d := (d.setNat Reg.degradedRemaining (d.nat Reg.degradedTime)).checkRecompute
    let d := d.log 0x02 (d.nat Reg.resetCause) (d.nat Reg.monResetCause + 256 * d.nat Reg.safetyResetCause)
    (d.raiseIf (d.on Reg.safetyResetCause) 105).refreshSafety
  else d

def execStartupComplete (us : Nat) (s : State) : Res := .next (s.together (s.onDev (·.startupEnds us)))

/-! ## Sleep and ship entry (R73, R328) -/

/-- The PD port sources, or asks to. -/
def Dev.pdSources (d : Dev) : Bool := d.nat Reg.powerRole == 2 || d.pd.asking

/-- Conditions of sleep entry (R73): Active, converter stopped, port not sourcing, no degraded timer. -/
def Dev.sleepAllowed (d : Dev) : Bool :=
  d.headActive && d.nat Reg.powerMode == 1 && (d.convState == 0 || d.convState == 4) && !d.pdSources && !d.safe.degraded

/-- Conditions of ship entry (R328). -/
def Dev.shipAllowed (d : Dev) : Bool :=
  d.headActive && d.nat Reg.powerMode == 1 && d.convState == 0 && !d.pdSources && !d.safe.degraded
    && !d.bit Reg.sourceStatus 0 && !d.bit Reg.sourceStatus 2 && d.pdState != 5

/-- Steps 4 and 5 of sleep entry, or 4 to 6 of ship entry. DOCK qualifies anew after the wake: nothing judges its loss in sleep
(DESIGN CHOICE, assumption 156). -/
def Dev.rest (d : Dev) : Dev :=
  let ship := d.pwr.shipEntry
  let d := d.setPwr (fun p => { p with closing := false })
  let d := if ship then d else (d.set Reg.wakeSource 0).haltHostChannels
  let level := d.irqLow
  let d := (((d.portDisable.setBit Reg.sourceStatus 1 false).setPd (fun p => { p with policy := false })).convSafetyStop).monSleep
  if ship then
    let d := (d.setPorts 0).setPwr (fun p => { p with
      logic := .ship, hv := .ship, shipLatched := true, shipExit := false, shipEntry := false, monLocked := false,
      markCycles := 0, laneU := false, laneH := false })
    ((d.set Reg.lastShipExit 0).refreshKa).refreshSupply
  else ({ d with ctl := { d.ctl with irqHeld := some level } } : Dev).setPwr (fun p => { p with logic := .sleep })

/-- Nothing is left of step 3: no commit is requested, no entry waits, and the open page is not due for programming. -/
def Dev.restReady (d : Dev) : Bool :=
  d.stor.jobs.isEmpty && d.stor.logQueue.isEmpty && !(d.programDue && d.nat Reg.logState == 2)

/-- Step 3 ends, and the entry goes on, when nothing is left of it or when a commit is refused: the entry does not wait for a
retry (R394, R403; DESIGN CHOICE, assumption 176). -/
def Dev.restGoesOn (d : Dev) (refused : Bool) : Dev :=
  if d.pwr.logic == .sleepEntry && d.pwr.closing && (refused || d.restReady) then d.rest else d

/-- Step 2 of sleep or ship entry, and the beginning of step 3 (R404, Table 15.2, R170): the entry of kind 0x05 is queued, the
open page is to be closed, and for sleep the head's own counters are to be saved. DESIGN CHOICE (assumption 107): members sleep
after the bind-off of step 1, so the head reads their counters from the acceptance on; a member whose reads have not ended
keeps its last record. -/
def Dev.enterRest (d : Dev) : Dev :=
  let ship := d.pwr.shipEntry
  let d := (d.openDisconnect).pathOff
  let d := if ship || !d.monLive then d
    else { d with stor := { d.stor with jobs := d.stor.jobs ++ [.counters ownSerial d.counterRecord] } }
  let d := d.log 0x05 (if ship then 3 else 2) 0
  let d : Dev := { d with pwr := { d.pwr with closing := true }, stor := { d.stor with closeDue := true } }
  d.restGoesOn false

/-- FRAM_COMMIT (R393). -/
def execFramCommit (cresMv : Nat) (ecc : Bool) (stop : Option Nat) (s : State) : Res :=
  .next (s.together (s.onDev (fun d => (d.framCommit ⟨cresMv, ecc, stop⟩).restGoesOn
    (!d.stor.jobs.isEmpty && d.commitCause cresMv false != 0))))

/-- LOG_ENTRY (R403). -/
def execLogEntry (ecc : Bool) (run : CommitRun) (s : State) : Res :=
  .next (s.together (s.onDev (fun d => (d.logEntry ecc run).restGoesOn
    (d.entryStarts && !ecc && d.commitCause run.cresMv run.ecc != 0))))

/-- LOG_PAGE_PROGRAM (R404). -/
def execLogPageProgram (r : ProgramResult) (first second : CommitRun) (s : State) : Res :=
  .next (s.together (s.onDev (fun d =>
    let t := d.programPage r first second
    t.restGoesOn (d.programStarts
      && (t.stor.ended.isSome || (d.stor.ended.isNone && d.commitCause first.cresMv first.ecc != 0))))))

/-- An accepted request: step 1 is the bind-off with action 1; a head that drives no rows goes on at once. DESIGN CHOICE
(assumption 187): PowerMode reads 2 in a ship entry too, for which Table 3.7 names no value. -/
def Dev.beginRest (d : Dev) (ship : Bool) : Dev :=
  let d := (d.setPwr (fun p => { p with logic := .sleepEntry, shipEntry := ship })).set Reg.powerMode 2
  let d := if ship then d else d.readMemberCounters
  if d.drivesRows && d.nat Reg.chainState != 0 then d.startBindOff 1 else d.enterRest

def Dev.sleepRequest (d : Dev) : Written := if d.sleepAllowed then .ok (d.beginRest false) else .error commandRefused
def Dev.shipRequest (d : Dev) : Written := if d.shipAllowed then .ok (d.beginRest true) else .error commandRefused

/-- The effect row of a bind-off (R231). On the head the mirrors become unassigned and, with action 1, no further row is sent and
an entry goes on; a fallback's full cast-on follows. On a member address and windows clear and action 1 is sleep. Where the monitor
die stopped during an entry's bind-off no row comes any more, and the entry goes on (assumption 18). -/
def Dev.bindOffEffect (d : Dev) : Dev :=
  if d.cpuLive && d.pwr.logic == .sleepEntry && !d.monLive then
    (({ d with chain := { d.chain with bindOff := none } } : Dev).set Reg.chainState 0).enterRest
  else if d.monHead then
    match d.chain.bindOff with
    | some (some e, act) =>
      if d.drivesRows && !rowAhead e d.row then
        let restart := d.chain.restart
        let d := d.headUnbound act
        if d.pwr.logic == .sleepEntry then (d.set Reg.chainState 0).enterRest
        else if restart then d.retrain else d
      else d
    | _ => d
  else
    match d.link.bindOff with
    | some (e, act) =>
      if d.monLive && !rowAhead e d.row then
        let d := d.unbind
        if act == 1 then d.monSleep else d
      else d
    | none => d

def execBindOffEffect (s : State) : Res := .next (s.together (s.onDev (·.bindOffEffect)))

/-- A wake source (R73, R74, R83). -/
def execWakeSource (bit : Nat) (s : State) : Res :=
  .next (s.onDev (fun d =>
    if bit ≤ 8 && d.pwr.role == .head && ((d.pwr.logic == .sleepEntry && !d.pwr.shipEntry) || d.pwr.logic == .sleep) then
      d.noteWake bit
    else if bit == 8 && d.pwr.role == .head && d.pwr.logic == .startup then d.setBit Reg.wakeSource 8 true
    else d))

/-- The warm wake (R75): the CPU resumes, the rows start and cast-on runs. -/
def Dev.warmWake (d : Dev) : Dev :=
  if d.pwr.logic == .sleep && d.pwr.role == .head && d.pwr.wakeDue then
    let d : Dev := { d with
      ctl := { d.ctl with irqHeld := none }, pwr := { d.pwr with logic := .active, wakeDue := false } }
    let d := (d.set Reg.powerMode 1).monWake.raiseWaiting
    if d.drivesRows then d.beginFullCastOn else d
  else d

def execWarmWake (s : State) : Res := .next (s.together (s.onDev (·.warmWake)))

/-- No row mark for RowLossSleep (Table 3.5). -/
def execRowLossSleep (s : State) : Res :=
  .next (s.onDev (fun d => if d.monLive && !d.monHead && d.on Reg.rowLossSleep then d.monSleep else d))

/-- Line activity on a listening port wakes a sleeping member (R76, R203). -/
def Dev.lineActivity (d : Dev) (p : Port) : Dev :=
  if d.pwr.hv == .sleep && !d.monHead && d.nat (Reg.portState p.num) == 1 then d.monWake else d

def execLineActivityWake (p : Port) (s : State) : Res := .next (s.onDev (·.lineActivity p))

/-- ALARM_SYMBOL_RECEIVED (R201, R203): in Listening the symbol is line activity. -/
def execAlarmSymbolReceived (p : Port) (merged : Nat) (s : State) : Res :=
  .next (s.onDev (fun d => (d.alarmReceived p merged).lineActivity p))

/-- An exit condition of ship mode (R329), or of the entry into it (R328). -/
def State.shipExitMet (s : State) (bit : Nat) : State :=
  let d := s.dev
  if 2 < bit then s
  else if d.pwr.logic == .sleepEntry && d.pwr.shipEntry then
    s.onDev (fun d => (d.setPwr (fun p => { p with logic := .active, shipEntry := false, closing := false })).set Reg.powerMode 1)
  else if d.pwr.shipLatched && d.pwr.ka != .none then
    let s := s.onDev (fun d => if d.on Reg.lastShipExit then d else d.setBit Reg.lastShipExit bit true)
    if d.pwr.vlog then
      (s.logicReset 5 .inReset).onDev (fun d =>
        let d := d.setPwr (fun p => { p with shipLatched := false, shipExit := false })
        if d.pwr.vstk then d.hvReset.hvStart else d)
    else s.onDev (fun d => d.setPwr (fun p => { p with shipExit := true }))
  else s

def execShipExit (bit : Nat) (s : State) : Res := .next (s.shipExitMet bit)

/-! ## Buck converters (R308) -/

/-- A buck's limit has acted for 1 ms. HB1 off brings down the logic field's own supply. -/
def State.hbFault (s : State) (hb2 : Bool) : State :=
  if hb2 then s.onDev (·.hb2Fault)
  else if s.dev.pwr.vlog && !s.dev.pwr.hb1Off then
    ((s.onDev (fun d => (d.bump Reg.hbFaultCount).raise 72)).logicReset 0 .inReset).onDev
      (fun d => d.setPwr (fun p => { p with hb1Off := true }))
  else s

def execHbCurrentLimitFault (hb2 : Bool) (s : State) : Res := .next (s.together (s.hbFault hb2))

/-- After 10 ms off the buck starts again. -/
def execHbRestart (hb2 : Bool) (s : State) : Res :=
  .next (s.onDev (fun d =>
    if hb2 then { d with conv := { d.conv with hb2Off := false } } else d.setPwr (fun p => { p with hb1Off := false })))

/-! ## Processor faults (R273, R382 to R384) -/

/-- The reset after a watchdog or lockstep trip. -/
def State.safetyReset (s : State) : State :=
  match s.dev.safe.resetDue with
  | some c =>
    let s := s.onDev (fun d => (d.setNat Reg.safetyResetCause c).bump Reg.safetyResetCount)
    s.logicReset (if c == 1 then 2 else 3) .inReset
  | none => s

def execSafetyReset (s : State) : Res := .next s.safetyReset

/-- A read of SRAM at a virtual address finds an error (R273): one bit is corrected and written back; two return no data. A
core's read is bit 4; a DMA channel faults; the host port's frame is answered with the hardware-fault abort; the SRAM swatch at
work fails (R415). A record names
the physical address that the requestor's table gives (R280). -/
def Dev.sramError (d : Dev) (requestor addr : Nat) (double : Bool) : Dev :=
  if !d.cpuLive || 15 < requestor then d
  else if !double then (d.bump Reg.sramCorrected).raise 46
  else
    let d := (d.bump Reg.sramUncorrectable).raise 47
    if requestor == 0 then d.processorFault 3 4
    else if isDmaRequestor requestor then d.dmaReadError requestor addr
    else
      let d := d.requestorRecord requestor (d.recordBytes requestor none 3 1 0 false addr 0 0 (d.physOf requestor addr false))
      if requestor == 11 then (d.closeReader 27).windowAbort hardwareFault
      else if requestor == 14 && d.nat Reg.swatchPosition < 1024 then d.controllerSwatch true true
      else d

def execSramEccError (requestor addr : Nat) (double : Bool) (s : State) : Res :=
  .next (s.together (s.onDev (·.sramError requestor addr double)))

end Sys2Proof.Machine
end

