-- ==== Sys2Proof/Machine/Access.lean ====
section
/-! DEFINITION. Object access (R21, R25, R238 to R245, R438): who may reach an object, its access class, length and range,
what a read returns and what a write does. The message service stands in Server.lean. -/

namespace Sys2Proof.Machine

/-! ## Requesters (R240 to R242, R251, R259) -/

/-- What the access classes ask of a requester. -/
structure Rights where
  commissioned : Bool
  unlocked : Bool
  /-- its code in CommissioningState; 0: not a host channel -/
  channel : Nat
  deriving DecidableEq, Repr

def Dev.channelRights (d : Dev) (c : Nat) : Rights :=
  let holds := d.nat Reg.commissioningState == c
  ⟨holds, holds && d.on Reg.safetyUnlockState, c⟩

/-- A float request carries its privilege bits; the head's own requests carry both (R259). -/
def Dev.rights (d : Dev) : Requester → Rights
  | .canA => d.channelRights 1
  | .canB => d.channelRights 2
  | .spi => d.channelRights 3
  | .float c s => ⟨c, s, 0⟩
  | .firmware => ⟨true, true, 0⟩

/-- The segment agent serves the request, not the head's firmware. -/
def byAgent : Requester → Bool
  | .float _ _ => true
  | _ => false

/-- The transports are enabled: from step 3 of start-up on (R77, R78). -/
def Dev.transportsOn (d : Dev) : Bool :=
  d.cpuLive && d.pwr.vio && (3 ≤ d.nat Reg.startupState)

/-- A CAN controller can move frames. -/
def Dev.canLive (d : Dev) (b : Bool) : Bool :=
  d.transportsOn && (if b then d.svc.portB.enabled else d.svc.portA.enabled) && d.nat (Reg.busState (if b then 1 else 0)) < 2

/-- A request of this requester is served now. -/
def Dev.serves (d : Dev) : Requester → Bool
  | .canA => d.canLive false && d.on (Reg.serviceEnable 0)
  | .canB => d.canLive true && d.on (Reg.serviceEnable 1)
  | .spi => d.transportsOn && d.svc.spiEnabled && d.on Reg.spiServiceEnable
  | .float _ _ => d.monLive && !d.monHead
  | .firmware => d.cpuLive

/-! ## Existence (R12, R21, R244) -/

/-- Indices that the segment agent serves (R21, R172). -/
def agentServes (i : Nat) : Bool :=
  i == 0x1000 || i == 0x1A00 || (0x1A01 ≤ i && i ≤ 0x1A07 && i != 0x1A04 && i != 0x1A07) || (0x2000 ≤ i && i ≤ 0x2FFF)
    || (0x3001 ≤ i && i ≤ 0x3018) || (0x3101 ≤ i && i ≤ 0x3108) || (0x3400 ≤ i && i ≤ 0x34FF)
    || (0x3501 ≤ i && i ≤ 0x3518) || (0x3600 ≤ i && i ≤ 0x36FF && i != 0x3620) || i == 0x9040

/-- The row of a snapshot bank (Table 1.7). -/
def bankRow (i : Nat) : ObjRow := ⟨i, i, 1, 1, .domain (4 * groupWords (i - 0x1A01)), .ro, .any, 0⟩

/-- The group of a snapshot bank. -/
def bankOf (i : Nat) : Option Nat := if 0x1A01 ≤ i && i ≤ 0x1A07 then some (i - 0x1A01) else none

/-- The row of an object as the device serves it, or the abort reason. -/
def locate (agent : Bool) (i sub : Nat) : Except Nat ObjRow :=
  if agent && !agentServes i then .error notInRole
  else if (bankOf i).isSome && sub == 1 then .ok (bankRow i)
  else match findRow i sub with
    | some r => .ok r
    | none => .error noSuchObject

/-- The head's firmware reaches the monitor die: out of reset and not in ship mode. -/
def Dev.monReachable (d : Dev) : Bool := d.pwr.hv != .inReset && d.pwr.hv != .ship

/-- An access that crosses into a monitor die that does not answer (R25). PhaseSet and ClockSet belong to islands of the
controller die (Table 1.5). -/
def Dev.crossingFails (d : Dev) (agent : Bool) (i : Nat) : Bool :=
  !agent && isMonIndex i && i != 0x1A00 && i != 0x1A04 && i != 0x1A07 && !d.monReachable

/-- A handshake times out (R25). -/
def Dev.crossingTimedOut (d : Dev) : Dev := (d.bump Reg.islandTimeouts).raise 32

/-! ## Access classes (R240) -/

/-- RO objects that a write clears. -/
def latchKeys : List Nat :=
  [Reg.resetCause.key, Reg.monResetCause.key, Reg.checkMismatchLatched.key, Reg.ovLatched.key, Reg.uvLatched.key,
   Reg.openWireLatched.key, Reg.legacyWakeStatus.key, Reg.balFaultLatched.key, Reg.linkStatus.key, Reg.kaFaultLatched.key,
   Reg.vbusFault.key, Reg.tripCause.key, Reg.faultLatched.key, Reg.safetyResetCause.key, Reg.framStatus.key,
   Reg.calendarStatus.key, Reg.selfTestStatus.key, Reg.monSelfTestStatus.key]

def isLatch (key : Nat) : Bool := latchKeys.contains key

/-- The abort reason of a write under the object's class (Table 9.2). -/
def classRefuses (acc : Access) (latch : Bool) (rt : Rights) : Option Nat :=
  match acc with
  | .const => some readOnly
  | .ro => if latch then none else some readOnly
  | .rw | .wo => none
  | .rwc => if rt.commissioned then none else some commissioningRequired
  | .rws => if !rt.commissioned then some commissioningRequired else if !rt.unlocked then some unlockRequired else none

/-! ## Values (R239, R12) -/

/-- VSTR and DOMAIN objects move in segments (R248). -/
def ObjType.bulk : ObjType → Bool
  | .vstr _ | .domain _ => true
  | _ => false

def ObjType.signed : ObjType → Bool
  | .i16 | .i32 => true
  | _ => false

/-- The value that the first bytes spell. -/
def ObjType.value (t : ObjType) (bytes : List Nat) : Int :=
  let n := ofLe (bytes.take t.size)
  if t.signed then ofCode (8 * t.size) n else n

/-- The bytes of a value. -/
def ObjType.bytes (t : ObjType) (v : Int) : List Nat := leBytes t.size (toCode (8 * t.size) v)

/-- R254: the base with `plus` added fits its format. -/
def canIdOk (plus v : Nat) : Bool :=
  if v.testBit 29 then field v 0 28 + plus ≤ 0x1FFFFFFF else field v 11 28 == 0 && field v 0 10 + plus ≤ 0x7FF

/-- The value an object takes from a write, none outside its range. Reserved bits are ignored (R12). -/
def inRange (r : ObjRow) (i : Nat) (v : Int) : Option Int :=
  let n := v.toNat
  let keepIf (b : Bool) (w : Int) : Option Int := if b then some w else none
  match r.rng with
  | .any => keepIf (r.ty != .bool || v == 0 || v == 1) v
  | .span lo hi => keepIf (lo ≤ v && v ≤ hi) v
  | .zeroOr lo hi => keepIf (v == 0 || (lo ≤ v && v ≤ hi)) v
  | .among vs => keepIf (vs.contains v) v
  | .mask m => some (n &&& m : Nat)
  | .maskSet m forced => some ((n &&& m) ||| forced : Nat)
  | .maskSome m => keepIf (n &&& m != 0) (n &&& m : Nat)
  | .step lo hi step => keepIf (lo ≤ v && v ≤ hi && v % step == 0) v
  | .ainConfig => keepIf (field n 4 5 != 3) (n &&& (if i % 2 == 0 then 0x3F79 else 0x3F7B) : Nat)
  | .ainPull => keepIf (field n 0 1 != 3) (n &&& 7 : Nat)
  | .canId plus => keepIf (canIdOk plus (n &&& 0x3FFFFFFF)) (n &&& 0x3FFFFFFF : Nat)

/-! ## Relations between objects (R438) -/

/-- An OV threshold in mV (Table 5.3). -/
def ovMillivolts (code : Int) : Int := 2000 + 10 * code

/-- The lowest OV threshold in the pack, mV: the head's own and each member's as its image records it. -/
def Dev.lowestOv (d : Dev) : Int :=
  d.usedAddresses.foldl (fun m a =>
    if a == 1 then m
    else match d.stor.working.find? (fun (e : Nat × Image) => e.1 == d.nat (Reg.memberSerial a)) with
      | some (_, im) => min m (ovMillivolts (im.regs.val Reg.ovCode))
      | none => min m 4250) (ovMillivolts (d.reg Reg.ovCode))

/-- CellChargeVoltage stays 50 mV below an OV threshold that is being written. -/
def Dev.ovAllowed (d : Dev) (code : Int) : Bool := d.reg Reg.cellChargeVoltage + 50 ≤ ovMillivolts code

/-- The write keeps every relation. -/
def Dev.relationHolds (d : Dev) (agent : Bool) (key : Nat) (v : Int) : Bool :=
  if key == (Reg.dataRate 0).key then v == 0 || d.reg (Reg.nominalRate 0) ≤ v
  else if key == (Reg.dataRate 1).key then v == 0 || d.reg (Reg.nominalRate 1) ≤ v
  else if key == (Reg.nominalRate 0).key then d.reg (Reg.dataRate 0) == 0 || v ≤ d.reg (Reg.dataRate 0)
  else if key == (Reg.nominalRate 1).key then d.reg (Reg.dataRate 1) == 0 || v ≤ d.reg (Reg.dataRate 1)
  else if key == Reg.windowMin.key then v ≤ d.reg Reg.windowMax
  else if key == Reg.windowMax.key then d.reg Reg.windowMin ≤ v
  else if key == Reg.freqLow.key then v < d.reg Reg.freqHigh
  else if key == Reg.freqHigh.key then d.reg Reg.freqLow < v
  else if key == Reg.shedLevel.key then v + 2000 ≤ d.reg Reg.addLevel
  else if key == Reg.addLevel.key then d.reg Reg.shedLevel + 2000 ≤ v
  else if key == Reg.prechargeThreshold.key then d.reg Reg.trickleThreshold < v
  else if key == Reg.trickleThreshold.key then v < d.reg Reg.prechargeThreshold
  else if key == Reg.ntcValidMax.key then d.reg Reg.ntcValidMin < v
  else if key == Reg.ntcValidMin.key then v < d.reg Reg.ntcValidMax
  else if key == Reg.shortCircuitLimit.key then d.reg Reg.overcurrentCharge < v && d.reg Reg.overcurrentDischarge < v
  else if key == Reg.overcurrentCharge.key then v < d.reg Reg.shortCircuitLimit
  else if key == Reg.overcurrentDischarge.key then v < d.reg Reg.shortCircuitLimit
  else if key == Reg.cellChargeVoltage.key then v + 50 ≤ d.lowestOv
  else if key == Reg.ovCode.key then agent || d.ovAllowed v
  else true

/-! ## Publications: what a frame carries (R255) -/

/-- Size of a map entry's value. -/
def entrySize (e : Nat) : Nat := match findRow (field e 16 31) (field e 8 15) with | some r => r.ty.size | none => 0

/-- Where a live object stands in a snapshot bank: group, word, and bit in the word (Tables 1.6, 6.5, 6.6, 11.4, R409). -/
def bankPlace (key : Nat) : Option (Nat × Nat × Nat) :=
  let i := key / 256
  let s := key % 256
  if 0x3001 ≤ i && i ≤ 0x3018 && s == 1 then some (0, 3 + (i - 0x3001), 0)
  else if (i == 0x2011 || i == 0x2012) && s == 1 then some (0, 27 + (i - 0x2011), 0)
  else if key == Reg.filterInForce.key then some (0, 2, 2)
  else if i == 0x3600 && 1 ≤ s && s ≤ 4 then some (1, 2 * s, 0)
  else if key == Reg.counterStatus.key then some (1, 10, 0)
  else if key == Reg.balanceChargeSaturated.key then some (2, 2, 0)
  else if i == 0x3610 && 1 ≤ s && s ≤ 24 then some (2, 2 + s, 0)
  else if key == Reg.converterState.key then some (3, 2, 0)
  else if key == Reg.directionInForce.key then some (3, 2, 3)
  else if key == Reg.phaseActive.key then some (3, 2, 4)
  else if key == Reg.phaseExcluded.key then some (3, 2, 10)
  else if key == Reg.throttleStep.key then some (3, 2, 16)
  else if 0x4101 ≤ i && i ≤ 0x4106 && 1 ≤ s && s ≤ 3 then some (3, 3 + 4 * (i - 0x4101) + (s - 1), 0)
  else if 0x4101 ≤ i && i ≤ 0x4106 && (s == 4 || s == 5) then some (3, 6 + 4 * (i - 0x4101), 8 * (s - 4))
  else if key == Reg.outputVoltage.key then some (3, 27, 0)
  else if key == Reg.outputCurrent.key then some (3, 28, 0)
  else if key == Reg.inputPower.key then some (3, 29, 0)
  else if 0x3101 ≤ i && i ≤ 0x3108 && s == 1 then some (4, 2 + (i - 0x3101), 0)
  else if 0x3501 ≤ i && i ≤ 0x3518 && 1 ≤ s && s ≤ 8 then some (5, 3 + 16 * (i - 0x3501) + 2 * (s - 1), 0)
  else if 0x3501 ≤ i && i ≤ 0x3518 && 9 ≤ s && s ≤ 16 then some (5, 4 + 16 * (i - 0x3501) + 2 * (s - 9), 0)
  else if key == Reg.calendarTime.key then some (6, 1, 0)
  else none

/-- The width in bits that a packed field has in its word; 0 for a value that fills its words. -/
def bankWidth (key : Nat) : Nat :=
  if key == Reg.filterInForce.key then 3 else if key == Reg.converterState.key then 3
  else if key == Reg.directionInForce.key then 1 else if key == Reg.phaseActive.key then 6
  else if key == Reg.phaseExcluded.key then 6 else if key == Reg.throttleStep.key then 5 else 0

/-- A map entry that R255 accepts by what it names; an entry of 0 names nothing. -/
def entryNames (e : Nat) : Bool :=
  e == 0 || (match findRow (field e 16 31) (field e 8 15) with
    | some r => !r.ty.bulk && r.acc != .wo && (!e.testBit 7 || (bankPlace (field e 16 31 * 256 + field e 8 15)).isSome)
    | none => false)

/-- The mapping of publication p with k entries and a replaced entry fits its format. -/
def Dev.mapFits (d : Dev) (p k : Nat) (fmt : Nat) (at_ value : Nat) : Bool :=
  ((upTo k).map (fun i => entrySize (if i == at_ then value else d.nat (Reg.pubMap p i)))).foldl (· + ·) 0
    ≤ (if fmt == 0 then 8 else 64)

/-- Range rules of a publication's objects. -/
def Dev.pubAllows (d : Dev) (p sub : Nat) (v : Nat) : Bool :=
  if sub == 7 then d.mapFits p v (d.nat (Reg.pubFormat p)) 0 0
  else if sub == 8 then d.mapFits p (d.nat (Reg.pubEntries p)) v 0 0
  else if 0x0A ≤ sub then
    entryNames v && d.mapFits p (d.nat (Reg.pubEntries p)) (d.nat (Reg.pubFormat p)) (sub - 9) v
  else true

/-- The tones with one replaced satisfy R157. -/
def Dev.toneAllows (d : Dev) (i sub : Nat) (v : Nat) : Bool :=
  let freqs := (upTo 8).map (fun t => if i == 0x3441 && t == sub then v else d.nat (Reg.impToneFreq t))
  let amps := (upTo 8).map (fun t => if i == 0x3442 && t == sub then v else d.nat (Reg.impToneAmp t))
  tonesAllowed freqs amps

/-- Range rules that an object's own rule states. -/
def Dev.ruleAllows (d : Dev) (i sub : Nat) (v : Int) : Bool :=
  if 0x1501 ≤ i && i ≤ 0x1540 then d.pubAllows (i - 0x1500) sub v.toNat
  else if i == 0x3441 || i == 0x3442 then d.toneAllows i sub v.toNat
  else true

/-! ## Reads -/

/-- The value of an object of fixed size (R247). -/
def Dev.fixedValue (d : Dev) (agent : Bool) (key : Nat) : Int :=
  if key == Reg.gradeCode.key then (if Config.gradeA then 0x41 else 0x49)
  else if key == Reg.deviceSerial.key then ownSerial
  else if key == Reg.firmwareVersion.key then (if agent then 0 else 0x01000000 + Config.firmwareBuild.toNat)
  else if key == Reg.roleInForce.key then (if agent then 2 else 1)
  else if key == Reg.islandRunning.key then d.islands
  else if key == Reg.snapAuto.key || key == Reg.snapReady.key then
    (if agent then (d.nat (regAt key) &&& 0x37 : Nat) else d.reg (regAt key))
  else if (Reg.eventPending 0).key ≤ key && key ≤ (Reg.eventPending 3).key then d.pendingWord (key - (Reg.eventPending 0).key)
  else if key == Reg.counterClear.key then 0
  else if key == (Reg.wireRdown d.samp.cells).key then 0
  else if !d.monHead && [0, 1, 2].any (fun p => key == (Reg.missingStitches p).key) then 0
  else d.reg (regAt key)

/-- What a read of a fixed object changes: ChargeFaultLatched clears (R327), LogDropped is marked as read (Table 15.4). -/
def Dev.afterRead (d : Dev) (key : Nat) : Dev :=
  if key == Reg.chargeFaultLatched.key then (d.readChargeFault).2
  else if key == Reg.logDropped.key then { d with stor := { d.stor with droppedRead := true } }
  else d

/-- "YL24". -/
def defaultName : List Nat := [0x59, 0x4C, 0x32, 0x34]

/-- The bytes of BufferData (R98, R99). -/
def Dev.bufferBytes (d : Dev) : List Nat :=
  (List.range (27 * bufferFrames)).flatMap (fun w => leBytes 4 (({ d with free := d.free + w } : Dev).bufferWord w))

/-- The bytes of a snapshot bank. -/
def Dev.bankBytes (d : Dev) (g : Nat) : List Nat := (List.range (groupWords g)).flatMap (fun w => leBytes 4 (d.bankWord g w))

/-- The content of a VSTR or DOMAIN object, snapshot banks apart. -/
def Dev.bulkValue (d : Dev) (r : ObjRow) (i sub : Nat) : Except Nat (List Nat) × Dev :=
  let key := i * 256 + sub
  if key == Reg.bufferData.key then
    (if d.nat Reg.bufferState == 3 then (.ok d.bufferBytes, { d with free := d.free + 27 * bufferFrames })
     else (.error commandRefused, d))
  else if key == Reg.logPageData.key then d.readLogPage
  else if key == Reg.logOpenPage.key then (.ok d.openPageBytes, d)
  else if key == Reg.deviceName.key then (.ok (d.blob key defaultName), d)
  else if 0x20A1 ≤ i && i ≤ 0x20A3 then (.ok (gaugeBytes (factorySet (i - 0x20A1))), d)
  else if 0x8010 ≤ i && i ≤ 0x801F && sub == 1 then
    (.ok ((List.range 1024).flatMap (fun p => leBytes 4 (d.pageEntry (i - 0x8010) p))), d)
  else match r.ty with
    | .domain n => (.ok (d.blob key (List.replicate n 0)), d)
    | _ => (.ok (d.blob key []), d)

/-- What a Read finds. -/
inductive Found where
  | fixed (bytes : List Nat)
  | bulk (data : List Nat)
  deriving DecidableEq, Repr

/-- A Read (R247, R249). A snapshot bank's bytes are taken segment by segment. -/
def Dev.readObject (d : Dev) (agent : Bool) (i sub : Nat) : Except Nat Found × Dev :=
  match locate agent i sub with
  | .error e => (.error e, d)
  | .ok r =>
    if r.acc == .wo then (.error writeOnly, d)
    else if d.crossingFails agent i then (.error hardwareFault, d.crossingTimedOut)
    else if r.ty.bulk then
      (match bankOf i with
       | some g => (.ok (.bulk (d.bankBytes g)), d)
       | none =>
         match d.bulkValue r i sub with
         | (.ok b, d) => (.ok (.bulk b), d)
         | (.error e, d) => (.error e, d))
    else (.ok (.fixed (r.ty.bytes (d.fixedValue agent (i * 256 + sub)))), d.afterRead (i * 256 + sub))

/-! ## Latch clears (R240) -/

/-- A write to a latch object. -/
def Dev.clearLatch (d : Dev) (key v : Nat) : Dev :=
  let r := regAt key
  if key == Reg.ovLatched.key then d.andNot r (clearBits v (d.nat Reg.ovLive))
  else if key == Reg.uvLatched.key then d.andNot r (clearBits v (d.nat Reg.uvLive))
  else if key == Reg.openWireLatched.key then d.latchWires (clearBits (d.nat r) (v &&& d.nat Reg.openWireLastPass))
  else if key == Reg.balFaultLatched.key then d.clearSwitchFaults v
  else if key == Reg.linkStatus.key then d.andNot r (v &&& 0x20)
  else if key == Reg.kaFaultLatched.key then d.clearKaFault v
  else if key == Reg.tripCause.key || key == Reg.faultLatched.key then d.clearFaults r v
  else if key == Reg.safetyResetCause.key then (if v == 0 then d.set r 0 else d)
  else if key == Reg.framStatus.key then d.andNot r (v &&& 0xF)
  else if key == Reg.calendarStatus.key then d.andNot r (v &&& 4)
  else if key == Reg.monSelfTestStatus.key then d.andNot r (v &&& 3)
  else d.andNot r v

/-! ## Commissioning (R241 to R243) -/

/-- A wrong code (R241): counted; three in a row lock the three objects. -/
def Dev.wrongCodeWritten (d : Dev) : Dev :=
  let d := d.bump Reg.codeFailures
  let n := d.svc.wrongInRow + 1
  { d with svc := { d.svc with
    wrongInRow := if 3 ≤ n then 0 else n, codeLocked := d.svc.codeLocked || 3 ≤ n } }

/-- An accepted code resets the count of wrong codes in a row. -/
def Dev.codeAccepted (d : Dev) : Dev := { d with svc := { d.svc with wrongInRow := 0 } }

/-- What a write does, with the device it leaves when it is refused. -/
abbrev WriteResult := Except (Nat × Dev) Dev

def Dev.orRefuse (d : Dev) : Written → WriteResult
  | .ok d' => .ok d'
  | .error e => .error (e, d)

/-- CommissioningEnter (R241). -/
def Dev.writeEnter (d : Dev) (rt : Rights) (code : Nat) : WriteResult :=
  let held := d.nat Reg.commissioningState
  if d.nat Reg.powerMode != 1 || rt.channel == 0 || (held != 0 && held != rt.channel) || d.svc.codeLocked then
    .error (commandRefused, d)
  else if code != d.svc.code then .error (wrongCode, d.wrongCodeWritten)
  else .ok (d.codeAccepted.setNat Reg.commissioningState rt.channel)

/-- The unlock closes. -/
def Dev.closeUnlock (d : Dev) : Dev :=
  ({ d with svc := { d.svc with unlockUsed := false } } : Dev).set Reg.safetyUnlockState 0

/-- SafetyUnlock (R242). -/
def Dev.writeUnlock (d : Dev) (rt : Rights) (code : Nat) : WriteResult :=
  if !rt.commissioned || rt.channel == 0 then .error (commissioningRequired, d)
  else if code == 0 then .ok d.closeUnlock
  else if d.svc.codeLocked then .error (commandRefused, d)
  else if code != d.svc.code then .error (wrongCode, d.wrongCodeWritten)
  else if d.on Reg.safetyUnlockState then .ok d.codeAccepted
  else .ok (({ d.codeAccepted with svc := { d.codeAccepted.svc with unlockUsed := false } } : Dev).set
    Reg.safetyUnlockState 1)

/-- CommissioningCode (R241): it takes effect at the commit of page 55 (R397). -/
def Dev.writeCode (d : Dev) (rt : Rights) (code : Nat) : WriteResult :=
  if !rt.commissioned || rt.channel == 0 then .error (commissioningRequired, d)
  else .ok { d with stor := { d.stor with jobs := d.stor.jobs ++ [.code code] } }

/-- The commissioning state ends without a reset: the unlock closes and the configuration is stored (R241 to R243). -/
def Dev.endCommissioning (d : Dev) : Dev :=
  if d.on Reg.commissioningState then (d.closeUnlock.set Reg.commissioningState 0).startStore else d

def Dev.writeExit (d : Dev) (rt : Rights) : WriteResult :=
  if !rt.commissioned || rt.channel == 0 then .error (commissioningRequired, d) else .ok d.endCommissioning

/-- An accepted RWS write (R242, R385): the first after the unlock opens withdraws the confirmation; the check value is to
be formed anew. -/
def Dev.rwsAccepted (d : Dev) : Dev :=
  let first := !d.svc.unlockUsed
  let d : Dev := { d with
    svc := { d.svc with unlockUsed := true }, safe := { d.safe with checkDue := true } }
  if first then d.withdraw else d

/-- Every kept object of the device and of the member images takes its default (R243). Settings whose change acts in another
place act there as a write of the default does. -/
def Dev.restoreDefaults (d : Dev) : Dev :=
  let before := d
  let polarity := d.on Reg.sdFbPolarity
  let d := (((d.writeSyncEnable 0).writeFrsEnable 0).takeImage isKept .defaults).settingsInForce before
  let d : Dev := { d with
    svc := { d.svc with pubStart := [], pubLatches := [] },
    stor := { d.stor with working := d.stor.working.map (fun e => (e.1, Image.defaults)) } }
  let d := (((d.refreshSetsInUse.tableTaken before).refreshPhases).limitsWritten).refreshKa
  ((d.followPolarity polarity).notePending).refreshSafety

/-- ConfigDefaults (R243). -/
def Dev.writeDefaults (d : Dev) (rt : Rights) : WriteResult :=
  if !rt.commissioned then .error (commissioningRequired, d)
  else if !rt.unlocked then .error (unlockRequired, d)
  else .ok (d.restoreDefaults.rwsAccepted.withdraw)

/-- CheckValueConfirm (R387, R241): the lock refuses it; a wrong code counts. -/
def Dev.writeCheckConfirm (d : Dev) (rt : Rights) (bytes : List Nat) : WriteResult :=
  if !rt.commissioned then .error (commissioningRequired, d)
  else if d.svc.codeLocked then .error (commandRefused, d)
  else match d.writeConfirm rt.commissioned bytes with
    | .ok d => .ok d.codeAccepted
    | .error (e, d) => .error (e, if e == wrongCode then d.wrongCodeWritten else d)

/-! ## Writes with a behaviour of their own, by chapter -/

def refuseIf (c : Bool) (reason : Nat) (d d' : Dev) : WriteResult := if c then .error (reason, d) else .ok d'

/-- Identity, power modes, commissioning, transports and publications (indices below 0x1A00). -/
def Dev.applyService (d : Dev) (rt : Rights) (i sub : Nat) (v : Int) : WriteResult :=
  let key := i * 256 + sub
  let n := v.toNat
  if key == Reg.powerModeRequest.key then d.orRefuse (if n == 2 then d.sleepRequest else d.shipRequest)
  else if key == Reg.softReset.key then .ok d
  else if key == Reg.commissioningEnter.key then d.writeEnter rt n
  else if key == Reg.safetyUnlock.key then d.writeUnlock rt n
  else if key == Reg.commissioningCode.key then d.writeCode rt n
  else if key == Reg.configStore.key then .ok d.startStore
  else if key == Reg.configDefaults.key then d.writeDefaults rt
  else if key == Reg.commissioningExit.key then d.writeExit rt
  else if 0x1501 ≤ i && i ≤ 0x1540 then
    let p := i - 0x1500
    if sub == 1 then .ok { d.setNat (regAt key) n with svc := { d.svc with
      pubStart := Tab.put p d.row d.svc.pubStart, pubLatches := d.svc.pubLatches.dropIf (fun k => k == p) } }
    else refuseIf (3 ≤ sub && d.on (Reg.pubMode p)) commandRefused d (d.set (regAt key) v)
  else .ok (d.set (regAt key) v)

/-- Snapshots, cell path, auxiliary converters, supervision, gauge sets, link and monitor-die power (0x1A00 to 0x2FFF). -/
def Dev.applyMeasure (d : Dev) (agent : Bool) (i sub : Nat) (v : Int) : WriteResult :=
  let key := i * 256 + sub
  let n := v.toNat
  if key == Reg.snapLatch.key then .ok (d.requestLatches n)
  else if key == Reg.snapAuto.key then .ok (d.setNat Reg.snapAuto (if agent then n &&& 0x37 else n))
  else if key == Reg.filterCorner.key then
    .ok { d.setNat Reg.filterCorner n with samp := { d.samp with corner := some n } }
  else if key == Reg.streamRate.key then
    .ok { d.setNat Reg.streamRate n with samp := { d.samp with stream := some n } }
  else if key == Reg.auxMode.key then .ok (d.writeAuxMode n)
  else if key == Reg.auxRefA.key then .ok (d.writeAuxRef false n)
  else if key == Reg.auxRefB.key then .ok (d.writeAuxRef true n)
  else if key == Reg.auxStart.key then d.orRefuse d.writeAuxStart
  else if key == Reg.auxUrgent.key then d.orRefuse (d.writeAuxUrgent n)
  else if key == Reg.selfCalCommand.key then d.orRefuse d.writeSelfCal
  else if key == Reg.bufferMode.key then .ok (d.bufferModeWritten n)
  else if key == Reg.bufferCommand.key then .ok (if n == 1 then d.bufferTriggered 0 else d.bufferRearmed)
  else if key == Reg.ovCode.key || key == Reg.uvCode.key || key == Reg.ovUvDeglitch.key then
    .ok (if d.reg (regAt key) == v then d else (d.set (regAt key) v).restartCounts)
  else if key == Reg.comparatorTest.key then d.orRefuse (d.writeComparatorTest n)
  else if key == Reg.openWireCommand.key then d.orRefuse d.writeOpenWire
  else if 0x20B1 ≤ i && i ≤ 0x20B6 && sub == 2 then .ok (d.writeGaugeValid (i - 0x20B0) n)
  else if key == Reg.linkRate.key then d.orRefuse (d.writeLinkRate n)
  else if 0x2E01 ≤ i && i ≤ 0x2E03 && sub == 0x10 then .ok (d.clearStats (i - 0x2E01))
  else if key == Reg.monDieTempRequest.key then .ok (d.requestTemp false)
  else .ok (d.set (regAt key) v)

/-- Auxiliary inputs, balancing, impedance and counters (0x3000 to 0x3FFF). -/
def Dev.applyBalance (d : Dev) (i sub : Nat) (v : Int) : WriteResult :=
  let key := i * 256 + sub
  let n := v.toNat
  if 0x3101 ≤ i && i ≤ 0x3108 && sub == 5 then .ok (d.writeAinConfig (i - 0x3100) n)
  else if key == Reg.balRequest.key then .ok (d.writeBalRequest n)
  else if key == Reg.balMode.key then .ok (d.writeBalMode n)
  else if key == Reg.wireGaugeCommand.key then d.orRefuse d.writeWireGauge
  else if key == Reg.impCommand.key then d.orRefuse d.writeImpCommand
  else if key == Reg.impSource.key then refuseIf (d.sourceBlocked n) commandRefused d (d.setNat Reg.impSource n)
  else if key == Reg.impShunt.key then
    let d' := d.setNat Reg.impShunt n
    refuseIf (d'.sourceBlocked (d.nat Reg.impSource)) commandRefused d d'
  else if key == Reg.counterSource.key then .ok ((d.setNat Reg.counterSource n).refreshSource)
  else if key == Reg.counterClear.key then
    .ok (if n == 0 then d else { d with bal := { d.bal with clear := some ((d.bal.clear.getD 0) ||| n) } })
  else .ok (d.set (regAt key) v)

/-- Converter, power path, charging, keep-alive and USB-C (0x4000 to 0x4FFF). -/
def Dev.applyPower (d : Dev) (i sub : Nat) (v : Int) : WriteResult :=
  let key := i * 256 + sub
  let n := v.toNat
  if key == Reg.phaseExcludedClear.key then d.orRefuse (d.writeExcludedClear n)
  else if key == Reg.converterFaultClear.key then d.orRefuse d.writeFaultClear
  else if key == Reg.phasePopulated.key then d.orRefuse (d.writePopulated n)
  else if key == Reg.hbSyncEnable.key then .ok (d.writeSyncEnable n)
  else if key == Reg.converterCurrentLimit.key || key == Reg.powerLimit.key || key == Reg.phaseCurrentLimit.key
      || key == Reg.reversePowerLimit.key then .ok ((d.set (regAt key) v).limitsWritten)
  else if key == Reg.dockCurrentLimit.key then .ok (d.writeDockLimit n)
  else if key == Reg.kaOutEnable.key || key == Reg.kaChargeEnable.key || key == Reg.kaCapacity.key then .ok ((d.set (regAt key) v).refreshKa)
  else if key == Reg.portEnable.key then .ok (d.writePortEnable n)
  else if key == Reg.frsEnable.key then .ok (d.writeFrsEnable n)
  else .ok (d.set (regAt key) v)

/-- Safety, storage, calendar, chain, events, translation, DMA and self-test (0x5000 and above). -/
def Dev.applySystem (d : Dev) (rt : Rights) (i sub : Nat) (v : Int) : WriteResult :=
  let key := i * 256 + sub
  let n := v.toNat
  if key == Reg.disconnectCommand.key then (if n == 1 then d.writeClose else .ok d.openDisconnect)
  else if key == Reg.sdDriveMode.key then
    refuseIf (1 < d.nat Reg.safetyState) commandRefused d (d.set (regAt key) v).refreshSafety
  else if key == Reg.sdFbPolarity.key then .ok ((d.set (regAt key) v).followPolarity (d.on Reg.sdFbPolarity))
  else if i == 0x5000 then .ok ((d.set (regAt key) v).refreshSafety)
  else if key == Reg.logCommand.key then d.orRefuse (d.writeLogCommand rt.commissioned n)
  else if key == Reg.logReadSequence.key then d.orRefuse (d.writeReadSequence n)
  else if key == Reg.calendarTime.key then d.orRefuse (d.writeCalendarTime n)
  else if key == Reg.ctrlDieTempRequest.key then .ok (d.requestTemp true)
  else if key == Reg.chainCommand.key then
    refuseIf (d.chainBusy || !d.drivesRows || (n != 1 && d.rowsEnded)) commandRefused d
      (if n == 1 then d.beginFullCastOn else if n == 2 then d.beginIncremental else d.startBindOff 0)
  else if 0x7000 ≤ i && i ≤ 0x707F then
    (if sub == 1 then .ok (d.clearFlag (i - 0x7000) n) else d.orRefuse (d.writeEventSetting (i - 0x7000) (regAt key) n))
  else if 0x8010 ≤ i && i ≤ 0x801F then d.orRefuse (d.writeTableLength (rt.channel != 0) (i - 0x8010) n)
  else if 0x8020 ≤ i && i ≤ 0x802F then
    let host := rt.channel != 0
    d.orRefuse (if sub == 1 then d.writeChannelCommand host (i - 0x8020) n
      else if sub == 3 then d.writeFirstDescriptor host (i - 0x8020) n
      else d.writeChannelPriority host (i - 0x8020) n)
  else if key == Reg.swatchControl.key then .ok (d.writeSwatchControl false n)
  else if key == Reg.monSwatchControl.key then .ok (d.writeSwatchControl true n)
  else .ok (d.set (regAt key) v)

/-- A write to an object of fixed size, its class, length, range and relations tested. -/
def Dev.applyFixed (d : Dev) (agent : Bool) (rt : Rights) (i sub : Nat) (v : Int) : WriteResult :=
  if isLatch (i * 256 + sub) then .ok (d.clearLatch (i * 256 + sub) v.toNat)
  else if i < 0x1A00 then d.applyService rt i sub v
  else if i < 0x3000 then d.applyMeasure agent i sub v
  else if i < 0x4000 then d.applyBalance i sub v
  else if i < 0x5000 then d.applyPower i sub v
  else d.applySystem rt i sub v

/-- A write to a VSTR or DOMAIN object, as one update (R250). -/
def Dev.applyBulk (d : Dev) (rt : Rights) (i sub : Nat) (b : List Nat) : WriteResult :=
  let key := i * 256 + sub
  if key == Reg.deviceName.key then
    refuseIf (b.any (fun c => c < 0x20 || 0x7E < c)) outOfRange d (d.setBlob key b)
  else if 0x20B1 ≤ i && i ≤ 0x20B6 then d.orRefuse (d.writeGaugeField (i - 0x20B0) b)
  else if key == Reg.counterRestore.key then
    refuseIf (!d.bit Reg.counterStatus 5 || d.bal.restore.isSome) commandRefused d
      { d with bal := { d.bal with restore := some b } }
  else if 0x8010 ≤ i && i ≤ 0x801F then
    d.orRefuse (d.writePageTable (rt.channel != 0) (i - 0x8010) ((List.range 1024).map (fun p => ofLe ((b.drop (4 * p)).take 4))))
  else if key == Reg.checkValueConfirm.key then d.writeCheckConfirm rt b
  else if key == Reg.logWrite.key then .ok (d.writeLog b)
  else .ok (d.setBlob key b)

/-- What an accepted write leads to on the head: changes to store (R243) and the check value (R242, R385). -/
def Dev.accepted (d : Dev) (agent : Bool) (r : ObjRow) (key : Nat) : Dev :=
  if agent then d
  else
    let d := if isKept key then d.notePending else d
    if r.acc == .rws then d.rwsAccepted else d

/-- The tests common to every write before its value: existence, class, reach. -/
def mayWrite (agent : Bool) (rt : Rights) (i sub : Nat) : Except Nat ObjRow :=
  match locate agent i sub with
  | .error e => .error e
  | .ok r =>
    match classRefuses r.acc (isLatch (i * 256 + sub)) rt with
    | some e => .error e
    | none => .ok r

/-- A write whose handshake with the monitor die times out (R25). -/
def Dev.reachOr (d : Dev) (agent : Bool) (i : Nat) (w : WriteResult) : WriteResult :=
  if d.crossingFails agent i then .error (hardwareFault, d.crossingTimedOut) else w

/-- An expedited Write (R247): class, length, range, relations, then what the object's chapter states. -/
def Dev.writeFixed (d : Dev) (agent : Bool) (rt : Rights) (i sub : Nat) (bytes : List Nat) : WriteResult :=
  match mayWrite agent rt i sub with
  | .error e => .error (e, d)
  | .ok r =>
    if r.ty.bulk || bytes.length < r.ty.size then .error (lengthMismatch, d)
    else
      let v := r.ty.value bytes
      if isLatch (i * 256 + sub) then d.reachOr agent i (d.applyFixed agent rt i sub v)
      else match inRange r i v with
        | none => .error (outOfRange, d)
        | some w =>
          if !d.relationHolds agent (i * 256 + sub) w || !d.ruleAllows i sub w then .error (outOfRange, d)
          else d.reachOr agent i ((d.applyFixed agent rt i sub w).map (fun d => d.accepted agent r (i * 256 + sub)))

/-- The size of a segmented write fits the object (R250). -/
def ObjType.sizeFits : ObjType → Nat → Bool
  | .vstr m, n => n ≤ m
  | .domain m, n => n == m
  | _, _ => false

/-- The whole value of a segmented write (R250). -/
def Dev.writeBulk (d : Dev) (agent : Bool) (rt : Rights) (i sub : Nat) (bytes : List Nat) : WriteResult :=
  match mayWrite agent rt i sub with
  | .error e => .error (e, d)
  | .ok r =>
    if !r.ty.sizeFits bytes.length then .error (lengthMismatch, d)
    else d.reachOr agent i ((d.applyBulk rt i sub bytes).map (fun d => d.accepted agent r (i * 256 + sub)))

end Sys2Proof.Machine
end

