-- ==== Sys2Proof/Machine/Server.lean ====
section
/-! DEFINITION. The object service (R246 to R252): messages, channels, segmented transfers, local answers, and the single
entry by which a request of any requester reaches the device. -/

namespace Sys2Proof.Machine

/-! ## Messages (Tables 9.5, 9.6) -/

/-- What a client asks. -/
inductive Op where
  | read
  | write (value : List Nat)
  | readSegment (n : Nat)
  | writeInitiate (size : Nat)
  | writeSegment (n : Nat) (last : Bool) (data : List Nat)
  | clientAbort
  /-- a code that Table 9.6 does not list for a client, with the bytes from 6 on -/
  | unknown (code : Nat) (tail : List Nat)
  /-- a message too short for its command, as sent -/
  | short (message : List Nat)
  deriving DecidableEq, Repr

/-- A request: target, object and command. -/
structure Ask where
  target : Nat
  index : Nat
  sub : Nat
  op : Op
  deriving DecidableEq, Repr

/-- The command of a message of 6 bytes or more, from its code and the bytes from 6 on. -/
def parseOp (m : List Nat) : Op :=
  let tail := m.drop 6
  match nth m 0 with
  | 1 => .read
  | 2 => .write tail
  | 3 => if tail.length < 2 then .short m else .readSegment (ofLe (tail.take 2))
  | 4 => if tail.length < 4 then .short m else .writeInitiate (ofLe (tail.take 4))
  | 5 => if tail.length < 4 then .short m
         else .writeSegment (ofLe (tail.take 2)) ((nth tail 2).testBit 0) (tail.drop 4)
  | 0x7F => .clientAbort
  | c => .unknown c tail

def targetWord (m : List Nat) : Nat := ofLe ((m.drop 4).take 2)

def parseAsk (m : List Nat) : Ask :=
  ⟨targetWord m % 4096, ofLe ((m.drop 2).take 2), nth m 1, if m.length < 6 then .short m else parseOp m⟩

/-- Code and bytes from 6 on of a command. -/
def Op.code : Op → Nat
  | .read => 1
  | .write _ => 2
  | .readSegment _ => 3
  | .writeInitiate _ => 4
  | .writeSegment _ _ _ => 5
  | .clientAbort => 0x7F
  | .unknown c _ => c
  | .short m => nth m 0

def Op.tail : Op → List Nat
  | .read => []
  | .write v => v
  | .readSegment n => leBytes 2 n
  | .writeInitiate n => leBytes 4 n
  | .writeSegment n last data => leBytes 2 n ++ [if last then 1 else 0, 0] ++ data
  | .clientAbort => leBytes 4 (0x0405 * 65536)
  | .unknown _ t => t
  | .short m => m.drop 6

/-- Bytes 1 to 5 of the answer: the target word's bits [15:12] are cleared. -/
def Ask.header (a : Ask) : List Nat := [a.sub] ++ leBytes 2 a.index ++ leBytes 2 (a.target % 4096)

/-- The request as a message with privilege bits (R259). -/
def Ask.bytes (a : Ask) (rt : Rights) : List Nat :=
  [a.op.code, a.sub] ++ leBytes 2 a.index
    ++ leBytes 2 (a.target % 4096 + (if rt.commissioned then 0x1000 else 0) + (if rt.unlocked then 0x2000 else 0)) ++ a.op.tail

def Ask.key (a : Ask) : Nat := a.index * 256 + a.sub

/-- An answer with command `cmd`. -/
def Ask.reply (a : Ask) (cmd : Nat) (payload : List Nat) : List Nat := cmd :: (a.header ++ payload)

/-- An abort code (R252); bit [12] where the head raises it for a member target. -/
def abortCode (agent : Bool) (target reason : Nat) : Nat :=
  reason * 65536
    + (if agent then target % 4096 else if 2 ≤ target && target ≤ 4094 then target + 0x1000 else if target ≤ 1 then 1 else target)

def Ask.abort (a : Ask) (agent : Bool) (reason : Nat) : List Nat := a.reply 0xFF (leBytes 4 (abortCode agent a.target reason))

/-! ## Channels (R251) -/

def Dev.channel (d : Dev) : Requester → Channel
  | .canA => d.svc.canA
  | .canB => d.svc.canB
  | .spi => d.svc.spi
  | .float _ _ => d.svc.agent
  | .firmware => .reset

def Dev.setChannel (d : Dev) (who : Requester) (c : Channel) : Dev :=
  match who with
  | .canA => { d with svc := { d.svc with canA := c } }
  | .canB => { d with svc := { d.svc with canB := c } }
  | .spi => { d with svc := { d.svc with spi := c } }
  | .float _ _ => { d with svc := { d.svc with agent := c } }
  | .firmware => d

def Dev.transfer (d : Dev) (who : Requester) : Transfer := (d.channel who).transfer
def Dev.setTransfer (d : Dev) (who : Requester) (t : Transfer) : Dev := d.setChannel who { d.channel who with transfer := t }

/-- A host channel: CAN_A, CAN_B or SPI. -/
def isHost : Requester → Bool
  | .canA | .canB | .spi => true
  | _ => false

/-- The code of a host channel among member requests. -/
def originOf : Requester → Nat
  | .canA => 0
  | .canB => 1
  | .spi => 2
  | _ => 3

def requesterOf (origin : Nat) : Requester :=
  if origin == 0 then .canA else if origin == 1 then .canB else if origin == 2 then .spi else .firmware

/-! ## Sending an answer -/

/-- The next data length that ISO 11898-1 allows (R254). -/
def fdLength (n : Nat) : Nat := ([0, 1, 2, 3, 4, 5, 6, 7, 8, 12, 16, 20, 24, 32, 48].find? (fun l => n ≤ l)).getD 64

def padFrame (m : List Nat) : List Nat := m ++ List.replicate (fdLength m.length - m.length) 0

/-- A frame with the settings of its controller (R253): an FD frame that asks for it switches the bit rate unless DataRate is
0, and the transmitter delay is compensated above 1 Mbit/s. -/
def CanPort.frame (c : CanPort) (ident : Nat) (data : List Nat) (fd brs : Bool) : CanFrame :=
  let fast := fd && brs && c.dataRate != 0
  ⟨ident, data, fd, fast, fast && 1000 < c.dataRate⟩

/-- A frame leaves by a CAN controller. -/
def Dev.sendCan (d : Dev) (b : Bool) (ident : Nat) (data : List Nat) (fd brs : Bool) : Dev :=
  { d with svc := if b then { d.svc with portB := { d.svc.portB with lastTx := some (d.svc.portB.frame ident data fd brs) } }
    else { d.svc with portA := { d.svc.portA with lastTx := some (d.svc.portA.frame ident data fd brs) } } }

/-- The object service's answer on a CAN controller, in FD format (R254); with bit-rate switching where the controller has a
data rate (DEDUCED, assumption 118). -/
def Dev.sendService (d : Dev) (b : Bool) (m : List Nat) : Dev :=
  let d := d.sendCan b (d.nat Reg.responseIdBase + d.nat Reg.nodeId) (padFrame m) true true
  { d with svc := if b then { d.svc with portB := { d.svc.portB with serviceFrame := padFrame m } }
    else { d.svc with portA := { d.svc.portA with serviceFrame := padFrame m } } }

/-- An abort on a host channel is counted (Table 9.15). -/
def Dev.countAbort (d : Dev) (m : List Nat) : Dev :=
  if nth m 0 == 0xFF then (d.bump Reg.abortsSent).setNat Reg.lastAbort (ofLe ((m.drop 6).take 4)) else d

/-- A member's answer becomes the stored response of its request and joins the float queue (R193). -/
def Dev.sendFloat (d : Dev) (m : List Nat) : Dev :=
  let f := frameContent 2 (d.svc.agentSeq.getD 0) m
  ({ d with
    svc := { d.svc with agentAnswer := f },
    link := { d.link with upResponse := some f } } : Dev).refreshFloat

/-- A message goes out on a channel. -/
def Dev.sendOn (d : Dev) (who : Requester) (m : List Nat) : Dev :=
  let d := match who with
    | .canA => (d.countAbort m).sendService false m
    | .canB => (d.countAbort m).sendService true m
    | .spi => let d := d.countAbort m; { d with svc := { d.svc with spiResponse := some (0x21, m) } }
    | .float _ _ => d.sendFloat m
    | .firmware => d
  if isHost who then d.setChannel who { d.channel who with sent := m } else d

/-- The answer to a request. -/
def Dev.answer (d : Dev) (who : Requester) (m : List Nat) : Dev :=
  let d := if isHost who then d.bump Reg.requestsServed else d
  (d.setChannel who { d.channel who with waiting := false }).sendOn who m

/-! ## Transfers (R248 to R251) -/

/-- Segment size of a channel with the device itself (Table 9.7). -/
def segmentSize (who : Requester) : Nat := if who == .spi then 242 else 54

/-- Whether a transfer is of this request's object; targets 0 and 1 are both the head. -/
def Ask.names (a : Ask) (t i s : Nat) : Bool := max 1 a.target == max 1 t && a.index == i && a.sub == s

/-- A transfer ends; the read of a snapshot bank that it has opened closes (R33). -/
def Dev.endTransfer (d : Dev) (who : Requester) : Dev :=
  let d := match d.transfer who with
    | .reading _ i s _ next false =>
      if 0 < next && s == 1 then (match bankOf i with | some g => d.closeRead g (originOf who) | none => d) else d
    | _ => d
  d.setTransfer who .idle

/-- The object of a transfer that is not finished. -/
def Transfer.open : Transfer → Option (Nat × Nat × Nat)
  | .reading t i s _ _ false => some (t, i, s)
  | .writing t i s _ _ _ none => some (t, i, s)
  | .relayed t i s => some (t, i, s)
  | _ => none

/-- A transfer that is over and only serves repeats of its last segment. -/
def Transfer.finished : Transfer → Bool
  | .reading _ _ _ _ _ true => true
  | .writing _ _ _ _ _ _ (some _) => true
  | _ => false

/-- The server ends an unfinished transfer with an abort (R251). -/
def Dev.abortTransfer (d : Dev) (who : Requester) (reason : Nat) : Dev :=
  match (d.transfer who).open with
  | some (t, i, s) =>
    let d := d.endTransfer who
    if isHost who then d.sendOn who ((⟨t, i, s, .read⟩ : Ask).abort false reason) else d
  | none => d

/-- What a request that goes to a member, or to no device, does to the channel's own transfer (R249, R251): it ends the repeats
of a finished one, and a Read or Write initiate supersedes an unfinished one. -/
def Dev.beforeRelay (d : Dev) (who : Requester) (op : Op) : Dev :=
  if (d.transfer who).finished then d.setTransfer who .idle
  else match op with
    | .read | .writeInitiate _ => d.abortTransfer who superseded
    | _ => d

/-- What a request does to the channel's transfer before it is served (R249, R251). -/
def Dev.beforeServing (d : Dev) (who : Requester) (op : Op) : Dev :=
  match op with
  | .readSegment _ | .writeSegment _ _ _ => d
  | .read | .writeInitiate _ =>
    if (d.transfer who).finished then d.setTransfer who .idle else d.abortTransfer who superseded
  | _ => if (d.transfer who).finished then d.setTransfer who .idle else d

/-- Read (R247, R249). -/
def Dev.serveRead (d : Dev) (who : Requester) (a : Ask) : List Nat × Dev :=
  match d.readObject (byAgent who) a.index a.sub with
  | (.error e, d) => (a.abort (byAgent who) e, d)
  | (.ok (.fixed b), d) => (a.reply 0x81 b, d)
  | (.ok (.bulk data), d) => (a.reply 0x86 (leBytes 4 data.length),
      if data.isEmpty then d else d.setTransfer who (.reading a.target a.index a.sub data 0 false))

/-- The request breaks the sequence of its transfer, which ends. -/
def Dev.breakSequence (d : Dev) (who : Requester) (a : Ask) : List Nat × Dev :=
  (a.abort (byAgent who) outOfSequence, d.endTransfer who)

/-- The bytes of a transfer from segment n on are taken from the bank now; the read opens at segment 0 (R33, R249). -/
def Dev.bankData (d : Dev) (who : Requester) (i sub n size : Nat) (data : List Nat) : List Nat × Dev :=
  match bankOf i with
  | some g =>
    if sub == 1 then
      let d := if n == 0 then d.openRead g (originOf who) else d
      (data.take (n * size) ++ (d.bankBytes g).drop (n * size), d)
    else (data, d)
  | none => (data, d)

/-- Read segment (R249). -/
def Dev.serveSegment (d : Dev) (who : Requester) (a : Ask) (n : Nat) : List Nat × Dev :=
  let size := segmentSize who
  match d.transfer who with
  | .reading t i s data next fin =>
    if !a.names t i s then d.breakSequence who a
    else if n + 1 == next then
      (a.reply 0x83 (leBytes 2 n ++ [if data.length ≤ (n + 1) * size then 1 else 0, 0] ++ (data.drop (n * size)).take size), d)
    else if n == next && !fin then
      let (data, d) := d.bankData who i s n size data
      let last : Bool := data.length ≤ (n + 1) * size
      let d := if last && s == 1 then (match bankOf i with | some g => d.closeRead g (originOf who) | none => d) else d
      (a.reply 0x83 (leBytes 2 n ++ [if last then 1 else 0, 0] ++ (data.drop (n * size)).take size),
        d.setTransfer who (.reading t i s data (n + 1) last))
    else d.breakSequence who a
  | _ => d.breakSequence who a

/-- Write initiate (R250): class, then size. -/
def Dev.serveInitiate (d : Dev) (who : Requester) (a : Ask) (size : Nat) : List Nat × Dev :=
  match mayWrite (byAgent who) (d.rights who) a.index a.sub with
  | .error e => (a.abort (byAgent who) e, d)
  | .ok r =>
    if !r.ty.sizeFits size then (a.abort (byAgent who) lengthMismatch, d)
    else (a.reply 0x84 [], d.setTransfer who (.writing a.target a.index a.sub size 0 [] none))

/-- The answer to a write and the device after it. -/
def Ask.written (a : Ask) (agent : Bool) : WriteResult → List Nat × Dev
  | .ok d => (a.reply 0x82 [], d)
  | .error (e, d) => (a.abort agent e, d)

/-- Write segment (R250): repeats are acknowledged again, the last one writes the object. -/
def Dev.serveWriteSegment (d : Dev) (who : Requester) (a : Ask) (n : Nat) (last : Bool) (data : List Nat) : List Nat × Dev :=
  match d.transfer who with
  | .writing t i s size next acc answered =>
    if !a.names t i s then d.breakSequence who a
    else match answered with
      | some m => if n + 1 == next then (m, d) else d.breakSequence who a
      | none =>
        if n + 1 == next then (a.reply 0x85 (leBytes 2 n), d)
        else if n != next then d.breakSequence who a
        else
          let want := min (segmentSize who) (size - acc.length)
          let acc := acc ++ data.take want
          if data.length < want || last != (acc.length == size) then
            (a.abort (byAgent who) lengthMismatch, d.endTransfer who)
          else if last then
            let (m, d) := a.written (byAgent who) (d.writeBulk (byAgent who) (d.rights who) i s acc)
            (m, d.setTransfer who (.writing t i s size (n + 1) acc (some m)))
          else (a.reply 0x85 (leBytes 2 n), d.setTransfer who (.writing t i s size (n + 1) acc none))
  | _ => d.breakSequence who a

/-- A request that the device serves itself: its answer, none for a Client abort. -/
def Dev.serveLocal (d : Dev) (who : Requester) (a : Ask) : Option (List Nat) × Dev :=
  let d := d.beforeServing who a.op
  let served := fun (r : List Nat × Dev) => (some r.1, r.2)
  match a.op with
  | .read => served (d.serveRead who a)
  | .write v => served (a.written (byAgent who) (d.writeFixed (byAgent who) (d.rights who) a.index a.sub v))
  | .readSegment n => served (d.serveSegment who a n)
  | .writeInitiate n => served (d.serveInitiate who a n)
  | .writeSegment n last data => served (d.serveWriteSegment who a n last data)
  | .clientAbort => (none, d.endTransfer who)
  | .unknown _ _ => (some (a.abort (byAgent who) unknownCommand), d)
  | .short _ => (some (a.abort (byAgent who) lengthMismatch), d)

end Sys2Proof.Machine
end

