-- ==== Sys2Proof/Machine/Relay.lean ====
section
/-! DEFINITION. Member access by float message (R189, R191 to R193, R259, R260, R439): the head's relay, its own requests and
their answers, and the entry by which a request of any requester reaches the device. -/

namespace Sys2Proof.Machine

/-! ## Images as the head holds them (R80, R81, R260) -/

/-- The working image of a member. -/
def Dev.memberImage (d : Dev) (a : Nat) : Option Image :=
  (d.stor.working.find? (fun (e : Nat × Image) => e.1 == d.nat (Reg.memberSerial a))).map (fun (e : Nat × Image) => e.2)

/-- The images with one changed. -/
def Dev.changeImage (d : Dev) (serial : Nat) (f : Image → Image) : Dev :=
  { d with stor := { d.stor with
    working := d.stor.working.map (fun (e : Nat × Image) => if e.1 == serial then (e.1, f e.2) else e) } }

/-- A segmented write as messages of the head's own (R248, R250). -/
def bulkMessages (member index sub : Nat) (bytes : List Nat) : List (List Nat) :=
  let count := (bytes.length + 53) / 54
  let rt : Rights := ⟨true, true, 0⟩
  (⟨member, index, sub, .writeInitiate bytes.length⟩ : Ask).bytes rt ::
    (List.range count).map (fun n =>
      (⟨member, index, sub, .writeSegment n (n + 1 == count) ((bytes.drop (54 * n)).take 54)⟩ : Ask).bytes rt)

/-- A chain of the head's own messages to one member. -/
def Dev.queueChain (d : Dev) (member : Nat) : List (List Nat) → Dev
  | [] => d
  | m :: more => d.queueOwn member m more

/-- The image of a member is created (R81, R170): the all-zero record goes to its CounterRestore first. -/
def Dev.createImage (d : Dev) (a : Nat) : Dev :=
  if (d.memberImage a).isSome then d
  else
    let serial := d.nat (Reg.memberSerial a)
    let d : Dev := { d with stor := { d.stor with
      working := d.stor.working ++ [(serial, .defaults)],
      members := (d.stor.placeFor 48 (fun _ => true) serial d.stor.members).1 } }
    d.queueChain a (bulkMessages a 0x3600 8 (List.replicate 128 0))

/-- The value of a kept object as an image takes it. A set's GaugeFieldValid only clears by a write (R132). -/
def Image.take (m : Image) (i sub : Nat) (v : Int) : Image :=
  let key := i * 256 + sub
  if 0x20B1 ≤ i && i ≤ 0x20B6 && v != 0 then m else { m with regs := m.regs.assign (regAt key) v }

def Image.takeBytes (m : Image) (i sub : Nat) (b : List Nat) : Image :=
  let m : Image := { m with strings := putBlob (i * 256 + sub) b m.strings }
  if 0x20B1 ≤ i && i ≤ 0x20B6 then { m with regs := m.regs.assign (Reg.gaugeFieldValid (i - 0x20B0)) 1 } else m

/-- A member has answered Write done to a write of a kept object (R260). Its serial number is known by then (R439). -/
def Dev.recordWrite (d : Dev) (a i sub : Nat) (bytes : List Nat) (bulk : Bool) : Dev :=
  let key := i * 256 + sub
  match findRow i sub with
  | some r =>
    if !inMonImage key then d
    else
      let d := (d.createImage a).notePending
      let d := if r.acc == .rws then d.rwsAccepted else d
      let serial := d.nat (Reg.memberSerial a)
      if bulk then d.changeImage serial (fun m => m.takeBytes i sub bytes)
      else match inRange r i (r.ty.value bytes) with
        | some v => d.changeImage serial (fun m => m.take i sub v)
        | none => d
  | none => d

/-! ## Windows of a member that changes (R189) -/

/-- The writes that change a member's stream mode or channel count. -/
def changesWindows (i sub : Nat) : Bool :=
  (i == 0x2000 && (sub == 1 || sub == 4)) || ((i == 0x2011 || i == 0x2012) && sub == 5)

/-- A write of one of the objects of R189 in range. -/
def windowWrite (q : Ask) : Option Int :=
  match q.op with
  | .write bytes =>
    if changesWindows q.index q.sub then
      match findRow q.index q.sub with
      | some r => if bytes.length < r.ty.size then none else inRange r q.index (r.ty.value bytes)
      | none => none
    else none
  | _ => none

/-- The values that the writes of R189 which wait for a member will give it, oldest first. -/
def Dev.shapeWrites (d : Dev) (a : Nat) : List (Nat × Int) :=
  (d.svc.requests.filter (fun r => r.origin < 3 && r.member == a)).filterMap (fun r =>
    (windowWrite (parseAsk r.message)).map (fun v => ((parseAsk r.message).key, v)))

/-- Cells, current inputs and stream mode of an image with some objects replaced, the later ones last. -/
def Image.shape (m : Image) (writes : List (Nat × Int)) : Nat × Nat :=
  let val := fun (r : Reg) => match writes.reverse.find? (fun e => e.1 == r.key) with
    | some e => e.2.toNat
    | none => (m.regs.val r).toNat
  (val Reg.cellCount + val (Reg.currentEnable 1) + val (Reg.currentEnable 2), min 2 (val Reg.streamRate))

/-- The windows that a member of c channels needs in a mode, where it will hold `wa` before: none where they are not to be
had. -/
def Dev.newWindows (d : Dev) (wa c mode : Nat) : Option Nat :=
  if windowShare wa != mode then d.allocWindows c mode
  else if c ≤ 24 then some (field wa 0 11 + 4096 * 0x7F)
  else if field wa 12 18 != 0x7F then some wa
  else (d.allocWindow mode (some (field wa 0 6))).map (fun (w : Nat × Nat) => field wa 0 11 + 4096 * w.1 + 2 ^ 19 * w.2)

/-- The first element that satisfies `p` is replaced. -/
def replaceFirst {α : Type} (p : α → Bool) (v : α) : List α → List α
  | [] => []
  | h :: t => if p h then v :: t else h :: replaceFirst p v t

def dropFirst {α : Type} (p : α → Bool) : List α → List α
  | [] => []
  | h :: t => if p h then t else h :: dropFirst p t

/-- A change set aside for a member that has not answered its write yet. -/
def changeOpen (a : Nat) (e : Nat × Nat × Nat × Bool) : Bool := e.1 == a && !e.2.2.2

/-- The member's oldest open change is dropped: its write has not been accepted. -/
def Dev.dropChange (d : Dev) (a : Nat) : Dev :=
  { d with chain := { d.chain with windowChanges := dropFirst (changeOpen a) d.chain.windowChanges } }

/-- The windows for a shape are set aside; none where they are exhausted. The requests of a member are answered in order, and so
each write's change stands in the order of the writes: after those that the member has accepted and the first `before` of those
that it has not answered. -/
def Dev.planWindows (d : Dev) (a : Nat) (shape : Nat × Nat) (before : Nat) : Option Dev :=
  let l := d.chain.windowChanges
  let waiting := l.filter (changeOpen a)
  let first := l.filter (fun e => !changeOpen a e) ++ waiting.take before
  let wa := match first.reverse.find? (fun (e : Nat × Nat × Nat × Bool) => e.1 == a) with
    | some e => e.2.1
    | none => d.nat (Reg.memberWindows a)
  (d.newWindows wa shape.1 shape.2).map (fun wa =>
    { d with chain := { d.chain with windowChanges := first ++ (a, wa, shape.1, false) :: waiting.drop before } })

/-- The writes of R189 in a member's load are planned one after another, ahead of those that wait in its queue, from the default
shape on: the keys of those that windows could be set aside for. The member takes each change at its own multiple-of-64 row. -/
def Dev.planLoad (a : Nat) : List (Nat × Int) → List (Nat × Int) → Dev → List Nat × Dev
  | [], _, d => ([], d)
  | e :: t, done, d =>
    match d.planWindows a (Image.defaults.shape (done ++ [e])) done.length with
    | some d => let r := planLoad a t (done ++ [e]) d; (e.1 :: r.1, r.2)
    | none => planLoad a t done d

/-- The member has accepted the write: the change takes effect at a multiple-of-64 row. -/
def Dev.acceptChange (d : Dev) (a : Nat) : Dev :=
  match d.chain.windowChanges.find? (changeOpen a) with
  | some e =>
    { d with chain := { d.chain with
      windowChanges := replaceFirst (changeOpen a) (e.1, e.2.1, e.2.2.1, true) d.chain.windowChanges } }
  | none => d

/-! ## The queue of each member (R259) -/

def Dev.inFlight (d : Dev) (a : Nat) : Option MemberRequest :=
  d.svc.requests.find? (fun r => r.inFlight && r.member == a)

def Dev.setRequests (d : Dev) (l : List MemberRequest) : Dev :=
  ({ d with svc := { d.svc with requests := l } } : Dev).refreshWaiting

/-- A member asked under R221 is within tick reach, or does not answer: it may be asked again 64 rows later. -/
def Dev.dropAsked (d : Dev) (a : Nat) : Dev :=
  { d with chain := { d.chain with
    asked := d.chain.asked.filter (fun x => x != a),
    timingRows := if (Tab.find a d.chain.timingRows).isSome then Tab.put a d.row d.chain.timingRows else d.chain.timingRows } }

/-- A request ends without a member's answer: a host's is answered with an abort, the head's own is dropped. A step of the latent
cycle stays open then, so that the cycle does not complete (R381). -/
def Dev.endRequest (d : Dev) (r : MemberRequest) (reason : Nat) : Dev :=
  let q := parseAsk r.message
  let d := ((r.message :: r.more).filter (fun m => (windowWrite (parseAsk m)).isSome)).foldl (fun d _ => d.dropChange r.member) d
  if r.origin != 3 then d.answer (requesterOf r.origin) (q.abort false reason)
  else if q.index == 0x2E00 then d.dropAsked r.member
  else d

/-- Every request to a member that is absent, a hole or unassigned ends (R259). -/
def Dev.endMember (d : Dev) (a : Nat) : Dev :=
  let gone := d.svc.requests.filter (fun r => r.member == a)
  let d : Dev := { d with safe := { d.safe with
    latent := d.safe.latent.filter (fun x => x.1 != a), passes := d.safe.passes.filter (fun x => x != a) } }
  gone.foldl (fun d r => d.endRequest r memberNotPresent) (d.setRequests (d.svc.requests.filter (fun r => r.member != a)))

/-- The messages of a request; the load of an image begins with FieldConfigState and MonResetCause (R439). -/
def MemberRequest.ready (r : MemberRequest) : MemberRequest :=
  if r.message.isEmpty then { r with message := readMessage r.member 0x2F00 4, more := [readMessage r.member 0x2F00 2] } else r

/-- The frame of a request joins the member's downstream float bits (R191, R192). -/
def Dev.sendDown (d : Dev) (r : MemberRequest) : Dev :=
  let before := ((d.link.downBits.find? (fun e => e.1 == r.member)).map (·.2)).getD []
  { d with link := { d.link with
    downBits := d.link.downBits.filter (fun e => e.1 != r.member)
      ++ [(r.member, before ++ frameBits (frameContent 1 r.sequence r.message))] } }

/-- A request that begins a write of a kept object of a member. -/
def keptWrite (a : Ask) : Bool :=
  match a.op with
  | .write _ | .writeInitiate _ => inMonImage a.key
  | _ => false

/-- Members beside `a` without an image for which a write of a kept object, on its way or in segments, may create one (R80,
R260). -/
def Dev.imagesToCome (d : Dev) (a : Nat) : List Nat :=
  let sent := (d.svc.requests.filter (fun r => r.origin < 3 && r.inFlight && keptWrite (parseAsk r.message))).map (·.member)
  let segmented := [Requester.canA, .canB, .spi].flatMap (fun who => match d.transfer who with
    | .writing t i s _ _ _ _ => if 2 ≤ t && inMonImage (i * 256 + s) then [t] else []
    | _ => [])
  ((sent ++ segmented).filter (fun m => m != a && (d.memberImage m).isNone)).eraseDups

/-- A host's write of a kept object would need an image beyond the 48th (R81, R260). It is tested when the request's turn comes,
since the member's serial number is known by then (R439). -/
def Dev.imagesFull (d : Dev) (r : MemberRequest) : Bool :=
  r.origin < 3 && keptWrite (parseAsk r.message) && (d.memberImage r.member).isNone
    && 48 ≤ d.stor.working.length + (d.imagesToCome r.member).length

/-- The oldest request of a member goes out. -/
def Dev.sendOldest (d : Dev) (r : MemberRequest) : Dev :=
  let a := r.member
  let seq := ((Tab.find a d.svc.sequences).getD 0).toNat % 16
  let r' : MemberRequest := { r.ready with sequence := seq, inFlight := true, retries := 0 }
  let d := d.setRequests (replaceFirst (fun x => x.member == a) r' d.svc.requests)
  ({ d with svc := { d.svc with
    sequences := Tab.put a ((seq + 1) % 16 : Nat) d.svc.sequences } } : Dev).sendDown r'

/-- The oldest request of a member that needs no image beyond the 48th goes out; those before it are refused. -/
def Dev.launchOldest (a : Nat) : Nat → Dev → Dev
  | 0, d => d
  | n + 1, d =>
    match d.svc.requests.find? (fun r => r.member == a) with
    | some r =>
      if d.imagesFull r then
        launchOldest a n ((d.setRequests (dropFirst (fun x => x.member == a) d.svc.requests)).endRequest r resourceExhausted)
      else d.sendOldest r
    | none => d

/-- The oldest request of a member goes out unless one is in flight. -/
def Dev.launchMember (d : Dev) (a : Nat) : Dev :=
  if (d.inFlight a).isSome then d
  else if d.nat (Reg.mirrorState a) != 1 then d.endMember a
  else d.launchOldest a d.svc.requests.length

/-- Requests go out while the head drives rows and no bind-off runs (R231, R259). -/
def Dev.launch (d : Dev) : Dev :=
  if !d.drivesRows || d.nat Reg.chainState == 5 then d
  else (d.svc.requests.map (·.member)).eraseDups.foldl Dev.launchMember d

/-- Why a request of a host to a member is refused on arrival (R259, R438). Eight requests wait in all, the head's own among
them; those the head queues all the same (DESIGN CHOICE, assumption 68). -/
def Dev.relayRefusal (d : Dev) (who : Requester) (a : Ask) : Option Nat :=
  let st := d.nat Reg.chainState
  let busy := d.svc.requests.any (fun r => r.member == a.target)
  if d.nat (Reg.mirrorState a.target) != 1 then some memberNotPresent
  else if st == 1 || st == 2 || st == 5 then some commandRefused
  else if 64 < (a.bytes (d.rights who)).length then some lengthMismatch
  else if busy && 8 ≤ (d.svc.requests.filter (fun r => !r.inFlight)).length then some resourceExhausted
  else match a.op with
    | .write v => if a.key == Reg.ovCode.key && !d.ovAllowed (ofLe (v.take 1) : Nat) then some outOfRange else none
    | _ => none

/-- A host's request to a member: refused at once, or queued and sent when its turn comes (R259). -/
def Dev.relay (d : Dev) (who : Requester) (a : Ask) : Dev :=
  match d.relayRefusal who a with
  | some e => d.answer who (a.abort false e)
  | none =>
    let planned := match windowWrite a with
      | some v => d.planWindows a.target
        (((d.memberImage a.target).getD .defaults).shape (d.shapeWrites a.target ++ [(a.key, v)]))
        d.chain.windowChanges.length
      | none => some d
    match planned with
    | none => d.answer who (a.abort false resourceExhausted)
    | some d =>
      let d := d.setRequests (d.svc.requests
        ++ [⟨a.target, originOf who, a.bytes (d.rights who), [], 0, false, 0⟩])
      (d.setChannel who { d.channel who with waiting := true }).launch

/-! ## The entry of every request -/

/-- A channel that cannot take another request (R251, Table 9.10). -/
def Dev.refuseBusy (d : Dev) (who : Requester) : Dev :=
  match who with
  | .spi => let d := d.bump Reg.spiRefused; { d with svc := { d.svc with spiRefused := true } }
  | _ => d.bump Reg.requestsDiscarded

/-- An accepted SPI frame discards the held response (R258). -/
def Dev.acceptFrame (d : Dev) (who : Requester) : Dev :=
  if who == .spi then
    { d.bump Reg.spiFramesAccepted with svc := { d.svc with spiResponse := none, spiRefused := false } } else d

/-- An SPI frame that the port turns down, where the port runs (Table 9.10). -/
def Dev.unserved (d : Dev) (who : Requester) : Dev :=
  if who == .spi && d.transportsOn && d.svc.spiEnabled then d.refuseBusy who else d

/-- A request that is taken: the device serves it itself, refuses it, or relays it (R246, R259). -/
def Dev.serve (d : Dev) (who : Requester) (a : Ask) : Dev :=
  if !isHost who || a.target ≤ 1 then
    match d.serveLocal who a with
    | (some m, d) => d.answer who m
    | (none, d) => d
  else
    let d := d.beforeRelay who a.op
    if a.target == 4095 then d.answer who (a.abort false outOfRange)
    else match a.op with
      | .unknown _ _ => d.answer who (a.abort false unknownCommand)
      | .short _ => d.answer who (a.abort false lengthMismatch)
      | _ => d.relay who a

/-- A request of a host channel, of the head's firmware, or of the head at a member's segment agent. -/
def Dev.request (d : Dev) (who : Requester) (a : Ask) : Dev :=
  if !d.serves who then d.unserved who
  else if a.op == .clientAbort && who != .spi then d.endTransfer who
  else if (d.channel who).waiting then d.refuseBusy who
  else if a.op == .clientAbort then (d.acceptFrame who).endTransfer who
  else (d.acceptFrame who).serve who a

/-- The value that makes SoftReset act (Table 3.9). -/
def Ask.softResets (a : Ask) : Bool :=
  match a.op with
  | .write v => a.key == Reg.softReset.key && a.target ≤ 1 && ofLe (v.take 4) == 0xA5A5 && 4 ≤ v.length
  | _ => false

/-- A request reaches the device. An accepted SoftReset resets the logic field (R66). -/
def State.request (s : State) (who : Requester) (a : Ask) : State :=
  let d := s.dev
  if a.softResets && d.serves who && !byAgent who && !(d.channel who).waiting then
    s.logicReset 4 .inReset
  else s.onDev (·.request who a)

/-- A Write to one of the device's own objects. -/
def State.hostWrite (s : State) (who : Requester) (index sub : Nat) (value : List Nat) : State :=
  s.request who ⟨1, index, sub, .write value⟩

def State.hostRead (s : State) (who : Requester) (index sub : Nat) : State := s.request who ⟨1, index, sub, .read⟩

/-- The firmware writes a VSTR or DOMAIN object of the head at once: it needs no segments. -/
def Dev.firmwareWrite (d : Dev) (index sub : Nat) (bytes : List Nat) : Dev :=
  if d.serves .firmware then
    match d.writeBulk false (d.rights .firmware) index sub bytes with
    | .ok d => d
    | .error (_, d) => d
  else d

/-- A whole segmented write of the device's own object: initiate, then every segment (R250). -/
def State.hostWriteBulk (s : State) (who : Requester) (index sub : Nat) (bytes : List Nat) : State :=
  if who == .firmware then s.onDev (·.firmwareWrite index sub bytes)
  else
    let size := segmentSize who
    let count := max 1 ((bytes.length + size - 1) / size)
    (List.range count).foldl
      (fun s n => s.request who
        ⟨1, index, sub, .writeSegment n (n + 1 == count) ((bytes.drop (size * n)).take size)⟩)
      (s.request who ⟨1, index, sub, .writeInitiate bytes.length⟩)

/-! ## Answers of members (R259, R260, R439) -/

/-- What a member's answer does to the transfer of the channel that asked (R249, R250). -/
def Dev.relayTransfer (d : Dev) (who : Requester) (q : Ask) (m : List Nat) : Dev :=
  let cmd := nth m 0
  match q.op with
  | .read => if cmd == 0x86 && ofLe ((m.drop 6).take 4) != 0 then d.setTransfer who (.relayed q.target q.index q.sub) else d
  | .readSegment _ => if cmd == 0xFF || (nth m 8).testBit 0 then d.setTransfer who .idle else d
  | .writeInitiate n =>
    if cmd == 0x84 then d.setTransfer who (.writing q.target q.index q.sub n 0 [] none) else d
  | .writeSegment n _ data =>
    match d.transfer who with
    | .writing t i s size next acc none =>
      if !q.names t i s then d
      else if cmd == 0xFF then d.setTransfer who .idle
      else if n != next then d
      else
        let acc := acc ++ data.take (min 54 (size - acc.length))
        if cmd == 0x82 then (d.setTransfer who .idle).recordWrite t i s acc true
        else d.setTransfer who (.writing t i s size (n + 1) acc none)
    | _ => d
  | .write v => if cmd == 0x82 then d.recordWrite q.target q.index q.sub v false else d
  | _ => d

/-- The kept monitor-die objects with their rows, ascending. NtcValidMax also goes ahead of NtcValidMin, so that neither is
refused under R438. -/
def loadKeys : List (ObjRow × Nat × Nat) :=
  let all := objectRows.flatMap (fun r => (List.range (r.hi + 1 - r.lo)).flatMap (fun i =>
    (List.range (r.subHi + 1 - r.subLo)).map (fun s => (r, r.lo + i, r.subLo + s))))
  (all.filter (fun (e : ObjRow × Nat × Nat) => inMonImage (e.2.1 * 256 + e.2.2))).flatMap
    (fun (e : ObjRow × Nat × Nat) => if e.2.1 == 0x2090 && e.2.2 == 1 then
      (match findRow 0x2090 2 with | some r => [(r, 0x2090, 2), e] | none => [e]) else [e])

/-- The messages that load an image into a member, its counter record where it has a valid one (R170, R398), and the read of
FieldConfigState that ends it. -/
def loadMessages (a : Nat) (m : Image) (record : Option (List Nat)) (planned : List Nat) : List (List Nat) :=
  loadKeys.flatMap (fun (e : ObjRow × Nat × Nat) =>
    let key := e.2.1 * 256 + e.2.2
    if 0x20B1 ≤ e.2.1 && e.2.1 ≤ 0x20B6 then
      (if e.1.ty.bulk && m.regs.val (Reg.gaugeFieldValid (e.2.1 - 0x20B0)) == 1 then
        bulkMessages a e.2.1 e.2.2 ((findBlob key m.strings).getD []) else [])
    else if e.1.ty.bulk then (match findBlob key m.strings with | some b => bulkMessages a e.2.1 e.2.2 b | none => [])
    else if changesWindows e.2.1 e.2.2 && !planned.contains key then []
    else [writeMessage a e.2.1 e.2.2 (e.1.ty.bytes (m.regs.val (regAt key)))])
    ++ (match record with | some b => bulkMessages a 0x3600 8 b | none => []) ++ [readMessage a 0x2F00 4]

/-- A member holds its configuration: in step 7 by its FieldConfigState (R83), outside start-up with MonResetCause bit [0] clear
as well (R75, R439). -/
def Dev.holdsConfig (d : Dev) (a monResetCause : Nat) : Bool :=
  d.nat (Reg.memberConfigState a) == 1 && (d.nat Reg.startupState == 7 || !monResetCause.testBit 0)

/-- The counter record of a serial number, where one is valid. -/
def Dev.recordOf (d : Dev) (serial : Nat) : Option (List Nat) :=
  match d.stor.counterRecords.find? (fun (e : Nat × DualImage) => e.1 == serial) with
  | some (_, x) => (x.inForce d.stor.generation).map (fun im => (findBlob 0 im.strings).getD (List.replicate 128 0))
  | none => none

/-- The head decides on a member's load (R81, R83, R439): unconfigured without an image, skipped where the member holds its
configuration, else its image. The windows of each write that changes its shape are set aside first (R189); a write that finds
none is left out (assumption 200). -/
def Dev.decideLoad (d : Dev) (a monResetCause : Nat) : Dev :=
  match d.memberImage a with
  | none => (d.set (Reg.memberConfigState a) 0).raise 35
  | some m =>
    if d.holdsConfig a monResetCause then d
    else
      let writes := (loadKeys.filter (fun (e : ObjRow × Nat × Nat) => changesWindows e.2.1 e.2.2)).map
        (fun (e : ObjRow × Nat × Nat) => (e.2.1 * 256 + e.2.2, m.regs.val (regAt (e.2.1 * 256 + e.2.2))))
      let (planned, d) := Dev.planLoad a writes [] d
      match loadMessages a m (d.recordOf (d.nat (Reg.memberSerial a))) planned with
      | [] => d
      | first :: more => d.setRequests (⟨a, 3, first, more, 0, false, 0⟩ :: d.svc.requests)

/-- A counter read for a member's record (R170); the last one requests the commit. The 128 bytes are the four 64-bit
counters and the 24 balance counters, in the order of CounterRestore. -/
def Dev.takeCounters (d : Dev) (a : Nat) (bytes : List Nat) (last : Bool) : Dev :=
  let was := ((d.stor.counterReads.find? (fun e => e.1 == a)).map (·.2)).getD []
  let rest := d.stor.counterReads.filter (fun e => e.1 != a)
  if last then
    { d with stor := { d.stor with
      counterReads := rest, jobs := d.stor.jobs ++ [.counters (d.nat (Reg.memberSerial a)) (was ++ bytes)] } }
  else { d with stor := { d.stor with counterReads := rest ++ [(a, was ++ bytes)] } }

/-- A member has thermistor inputs configured; an even input that its odd partner's pair takes is not converted (R102). -/
def Dev.memberThermistors (d : Dev) (a : Nat) : Bool :=
  match d.memberImage a with
  | some m =>
    let config := fun (n : Nat) => (m.regs.val (Reg.ainConfig n)).toNat
    (upTo 8).any (fun n => (config n).testBit 0 && (config n).testBit 3 && !(n % 2 == 0 && (config (n - 1)).testBit 1))
  | none => false

/-- The D of a member that the head has asked for it (R221); it asks again while the timing bit stays set. -/
def Dev.takeDelay (d : Dev) (a v : Nat) : Dev :=
  (d.tickAlignUpdate a v).dropAsked a

/-- A value that the head has read from a member for itself. -/
def Dev.takeOwnRead (d : Dev) (a i sub : Nat) (b : List Nat) (last : Bool) : Dev :=
  let v := ofLe b
  if i == 0x1000 && sub == 5 then d.setNat (Reg.memberSerial a) v
  else if i == 0x2F00 && sub == 4 then d.setNat (Reg.memberConfigState a) v
  else if i == 0x2F00 && sub == 2 then d.decideLoad a v
  else if i == 0x2090 && sub == 4 then d.takeTemp a (ofCode 16 v) (d.memberThermistors a)
  else if (i == 0x3600 && 1 ≤ sub && sub ≤ 4) || i == 0x3610 then d.takeCounters a b last
  else if i == 0x9040 && sub == 3 then d.latentSwatch a v
  else if i == 0x2070 && sub == 4 then d.passSeen a (v.testBit 6)
  else if i == 0x2E00 && sub == 5 then d.takeDelay a v
  else if 0x3001 ≤ i && i ≤ 0x3018 && sub == 7 then
    (if v.testBit 5 then d
     else
       let was := ((d.safe.balRead.find? (fun e => e.1 == a)).map (·.2)).getD 0
       (({ d with safe := { d.safe with
         balRead := d.safe.balRead.filter (fun e => e.1 != a) ++ [(a, withBit was (i - 0x3001) true)] } } : Dev).judge 16).refreshSafety)
  else d

/-- A member refuses a step of the latent cycle by its state, the cell's comparator tripped or a pass of the open-wire test at
work: the step is passed over (R381). Any other abort leaves it open (DEDUCED, assumption 203). -/
def Dev.stepAborted (d : Dev) (a : Nat) (q : Ask) (m : List Nat) : Dev :=
  if ofLe ((m.drop 6).take 4) / 65536 != commandRefused then d
  else if q.index == 0x2060 && q.sub == 8 then d.dropStep a (ofLe q.op.tail)
  else if q.index == 0x2070 && q.sub == 3 then d.dropStep a 25
  else d

/-- The answer to a request of the head's own; a chain goes on with its next message. -/
def Dev.ownAnswer (d : Dev) (r : MemberRequest) (m : List Nat) : Dev :=
  let q := parseAsk r.message
  let a := r.member
  let aborted := nth m 0 == 0xFF
  let tested := q.index == 0x2060 && q.sub == 8
  let windows := (windowWrite q).isSome
  let d :=
    if aborted then (if windows then d.dropChange a else d.stepAborted a q m)
    else if nth m 0 == 0x81 then
      (if q.index == 0x2060 && q.sub == 9 then d.latentResult a (nth m 6) (ofLe ((m.drop 6).take 2))
       else d.takeOwnRead a q.index q.sub (m.drop 6) r.more.isEmpty)
    else if q.index == 0x2070 && q.sub == 3 then (d.passSeen a true).dropStep a 25
    else if windows then d.acceptChange a
    else d
  let reach := q.index == 0x2E00 && q.sub == 7 && nth m 0 == 0x81 && !(ofLe (m.drop 6)).testBit 2
  let d := if reach || (aborted && q.index == 0x2E00) then d.dropAsked a else d
  let stop := (aborted && (q.op == .read || tested)) || reach
  match r.more with
  | next :: more =>
    if stop then d else d.setRequests (⟨a, 3, next, more, 0, false, 0⟩ :: d.svc.requests)
  | [] => d

/-- The answer to a request of a host: the transfer and the image follow it, and it goes back on the channel. -/
def Dev.hostAnswer (d : Dev) (r : MemberRequest) (m : List Nat) : Dev :=
  let q := parseAsk r.message
  let who := requesterOf r.origin
  let d := if (windowWrite q).isSome then (if nth m 0 == 0x82 then d.acceptChange r.member else d.dropChange r.member) else d
  (d.relayTransfer who q m).answer who m

/-- A response from a member (R191, R259): it must answer the request in flight. -/
def Dev.memberResponse (d : Dev) (a seq : Nat) (m : List Nat) : Dev :=
  if !d.drivesRows then d
  else match d.inFlight a with
    | some r =>
      if r.sequence != seq then d.bump Reg.floatFrameErrors
      else
        let d := d.setRequests (dropFirst (fun x => x.inFlight && x.member == a) d.svc.requests)
        (if r.origin == 3 then d.ownAnswer r m else d.hostAnswer r m).launch
    | none => d.bump Reg.floatFrameErrors

def execMemberResponse (a seq : Nat) (m : List Nat) (s : State) : Res := .next (s.together (s.onDev (·.memberResponse a seq m)))

/-- The response timeout expires (R259): retry, or the end. -/
def Dev.responseTimeout (d : Dev) (a : Nat) : Dev :=
  match d.inFlight a with
  | some r =>
    if !d.drivesRows then d
    else if r.retries < d.nat Reg.floatRetries then
      let r' : MemberRequest := { r with retries := r.retries + 1 }
      ((d.bump Reg.memberTimeouts).setRequests
        (replaceFirst (fun x => x.inFlight && x.member == a) r' d.svc.requests)).sendDown r'
    else
      let d := d.setRequests (dropFirst (fun x => x.inFlight && x.member == a) d.svc.requests)
      let d := if r.origin < 3 then d.bump Reg.memberNoResponse else d
      (d.endRequest r memberNoResponse).launch
  | none => d

def execMemberResponseTimeout (a : Nat) (s : State) : Res := .next (s.together (s.onDev (·.responseTimeout a)))

/-- A cast-on hole or an absent member (R224, R225): its requests end at once (R259). -/
def Dev.lostMember (d : Dev) (a : Nat) : Dev := if d.nat (Reg.mirrorState a) == 1 then d else d.endMember a

def execCastOnHole (a : Nat) (s : State) : Res := .next (s.together (s.onDev (fun d => (d.castOnHole a).lostMember a)))
def execMemberAbsent (a : Nat) (s : State) : Res :=
  .next (s.together (s.together (s.onDev (fun d => (d.memberAbsent a).lostMember a))))

/-- ROW_START: the row leaves, and requests whose turn has come go with it. -/
def execRowStart (s : State) : Res := .next (s.together (s.onDev (fun d => d.rowStart.launch)))

/-! ## Float frames (R191 to R193) -/

/-- A request frame at a member (R193): executed once, a repeat is answered with the stored response. -/
def Dev.agentFrame (d : Dev) (seq : Nat) (payload : List Nat) : Dev :=
  if d.svc.agentSeq == some seq && d.svc.agent.sent == payload then
    ({ d with link := { d.link with upResponse := some d.svc.agentAnswer } } : Dev).refreshFloat
  else
    let d : Dev := { d with svc := { d.svc with agentSeq := some seq, agent := { d.svc.agent with sent := payload } } }
    let w := targetWord payload
    d.request (.float (w.testBit 12) (w.testBit 13)) (parseAsk payload)

/-- A frame received by a member: executed if intact and a request, else counted (R191, R193). -/
def Dev.downFrame (d : Dev) (frame : Option (List Nat)) : Dev :=
  match frame.bind parseFrame with
  | some (1, seq, payload) => d.agentFrame seq payload
  | _ => d.bump Reg.floatFrameErrors

/-- STITCH_INSERT: the stitch goes into the window, and the window's float bit into the member's receiver (R185, R191). -/
def Dev.insertWindow (d : Dev) (w : RxWindow) : Dev :=
  let bit := d.downBit w
  let d := d.stitchInsert w
  match bit with
  | some b =>
    let r := d.link.rx.take b
    let d : Dev := { d with link := { d.link with rx := r.1 } }
    match r.2 with
    | some f => d.downFrame f
    | none => d
  | none => d

def execStitchInsert (w : RxWindow) (s : State) : Res := .next (s.together (s.onDev (·.insertWindow w)))

/-- FLOAT_FRAME_MEMBER (R191, R193): a whole frame, as its bits have brought it. -/
def Dev.frameAtMember (d : Dev) (bytes : List Nat) (intact : Bool) : Dev :=
  if !d.monLive || d.monHead || d.link.address == 0 then d
  else d.downFrame (if intact then some bytes else none)

def execFloatFrameMember (bytes : List Nat) (intact : Bool) (s : State) : Res :=
  .next (s.together (s.onDev (·.frameAtMember bytes intact)))

/-- A diagnostic report (R193, R365): new BalFault bits have their BalState read at once. -/
def Dev.takeReport (d : Dev) (a : Nat) (payload : List Nat) : Dev :=
  let old := d.reportField a 16 4
  let d := d.setBlob (Reg.diagnosticReport a).key payload
  let rose := clearBits (d.reportField a 16 4) old
  let was := ((d.safe.balRead.find? (fun e => e.1 == a)).map (·.2)).getD 0
  let d : Dev := { d with safe := { d.safe with
    balRead := d.safe.balRead.filter (fun e => e.1 != a) ++ [(a, clearBits was rose &&& d.reportField a 16 4)] } }
  ((upTo 24).filter (fun k => rose.testBit (k - 1))).foldl (fun d k => d.queueOwn a (readMessage a (0x3000 + k) 7) []) d

/-- A frame received from a member (R192, R193, R259): a response, a report, or discarded and counted. -/
def Dev.upFrame (d : Dev) (a : Nat) (frame : Option (List Nat)) : Dev :=
  match frame.bind parseFrame with
  | some (2, seq, payload) => d.memberResponse a seq payload
  | some (3, _, payload) =>
    if payload.length == 27 && d.on (Reg.mirrorState a) && a != 1 then (d.takeReport a payload).launch
    else d.bump Reg.floatFrameErrors
  | _ => d.bump Reg.floatFrameErrors

/-- FLOAT_FRAME_HEAD: a whole frame, as its bits have brought it. -/
def Dev.frameAtHead (d : Dev) (a : Nat) (bytes : List Nat) (intact : Bool) : Dev :=
  if d.drivesRows then d.upFrame a (if intact then some bytes else none) else d

/-- The frames that the bits of a return have ended are taken, and members whose timing bit stays set are asked (R191,
R221). -/
def Dev.takeUpFrames (d : Dev) : Dev :=
  let frames := d.chain.upFrames
  frames.foldl (fun d e => d.upFrame e.1 e.2) { d with chain := { d.chain with upFrames := [] } }

/-- A member whose nibble bit [1] stays set for 64 rows is asked for LinkStatus and then its D (R221). -/
def Dev.askDelays (d : Dev) : Dev :=
  let late := (d.chain.timingRows.filter (fun (e : Nat × Int) =>
    64 ≤ (d.row + 2 ^ 32 - e.2.toNat) % 2 ^ 32 && !d.chain.asked.contains e.1 && d.nat (Reg.mirrorState e.1) == 1)).map
    (·.1)
  if d.drivesRows && d.nat Reg.chainState == 4 then
    (late.foldl (fun (d : Dev) a => d.queueOwn a (readMessage a 0x2E00 7) [readMessage a 0x2E00 5])
      { d with chain := { d.chain with asked := d.chain.asked ++ late } }).launch
  else d

def execRowReturn (p : Port) (row : Nat) (headerOk periodOk : Bool) (timing : MarkTiming) (windows : List RxWindow)
    (slots : List ServiceSlot) (s : State) : Res :=
  .next (s.together ((s.rowReturn p row headerOk periodOk timing windows slots).onDev (fun d => d.takeUpFrames.askDelays)))

/-- RETURN_LIMIT_EXPIRY (R182): the bits that did not come may end frames. -/
def execReturnLimitExpiry (p : Port) (s : State) : Res :=
  .next (s.together (((s.onDev (·.returnLimit p)).closeRing s.dev.row).onDev (·.takeUpFrames)))

def execFloatFrameHead (a : Nat) (bytes : List Nat) (intact : Bool) (s : State) : Res :=
  .next (s.together (s.onDev (·.frameAtHead a bytes intact)))

end Sys2Proof.Machine
end

