-- ==== Sys2Proof/Machine/Transports.lean ====
section
/-! DEFINITION. The transports (R246, R251, R253 to R258): object service requests by channel, CAN frames, publications and
emergencies, SPI frames, and the timers of the service. -/

namespace Sys2Proof.Machine

/-! ## Object service requests (R247 to R251) -/

def execRead (who : Requester) (t i sub : Nat) (s : State) : Res := .next (s.together (s.request who ⟨t, i, sub, .read⟩))

def execWrite (who : Requester) (t i sub : Nat) (v : List Nat) (s : State) : Res :=
  .next (s.together (s.request who ⟨t, i, sub, .write v⟩))

def execReadSegment (who : Requester) (t i sub n : Nat) (s : State) : Res :=
  .next (s.together (s.request who ⟨t, i, sub, .readSegment n⟩))

def execWriteInitiate (who : Requester) (t i sub size : Nat) (s : State) : Res :=
  .next (s.together (s.request who ⟨t, i, sub, .writeInitiate size⟩))

def execWriteSegment (who : Requester) (t i sub n : Nat) (last : Bool) (data : List Nat) (s : State) : Res :=
  .next (s.together (s.request who ⟨t, i, sub, .writeSegment n last data⟩))

def execClientAbort (who : Requester) (t i sub : Nat) (s : State) : Res :=
  .next (s.together (s.request who ⟨t, i, sub, .clientAbort⟩))

/-- A message whose command Table 9.6 does not list; a listed command is served as what it is. -/
def execUnknownCommand (who : Requester) (m : List Nat) (s : State) : Res := .next (s.together (s.request who (parseAsk m)))

/-- A request for a member (R259), given as a message whose target, index and subindex are those named. -/
def execMemberRequestRelay (who : Requester) (t i sub : Nat) (m : List Nat) (s : State) : Res :=
  .next (s.together (s.request who { parseAsk m with target := t, index := i, sub := sub }))

/-- ServiceTimeout passes without a request on a channel that holds a transfer (R251). A finished one goes on serving repeats
of its last segment (R249, R250). -/
def execServiceTimeout (who : Requester) (s : State) : Res :=
  .next (s.onDev (fun d =>
    if !isHost who || !d.serves who || (d.channel who).waiting then d else d.abortTransfer who timedOut))

/-- CommissioningTimeout passes with no accepted write from the holding channel (R241). -/
def execCommissioningTimeout (s : State) : Res := .next (s.onDev (fun d => if d.cpuLive then d.endCommissioning else d))

/-- The 60 s lock ends (R241). -/
def execCodeLockExpiry (s : State) : Res :=
  .next (s.onDev (fun d => { d with svc := { d.svc with codeLocked := false } }))

/-! ## CAN (R253, R254) -/

def canChannel (b : Bool) : Requester := if b then .canB else .canA

/-- A controller reaches bus-off (R253). Its transmit counter has passed the 255 that TxErrorCount can show. -/
def Dev.busOff (d : Dev) (c : Nat) : Dev :=
  ((d.set (Reg.busState c) 2).set (Reg.txErrorCount c) 255).bump (Reg.busOffCount c)

/-- The error counters and BusState of a controller that is not in bus-off, after one step on its bus (ISO 11898-1; PRESUMED,
assumption 162): an error adds 8 to the transmit counter or 1 to the receive counter, a frame that passes takes 1 from it, and
a counter above 127 makes the controller error-passive. -/
def Dev.canStep (b : Bool) (d : Dev) (e : CanStep) : Dev :=
  let c := if b then 1 else 0
  let tx := d.nat (Reg.txErrorCount c)
  let rx := d.nat (Reg.rxErrorCount c)
  let (tx, rx) := match e with
    | .sent => (tx - 1, rx)
    | .sendError => (tx + 8, rx)
    | .received => (tx, if 127 < rx then 127 else rx - 1)
    | .receiveError => (tx, min 255 (rx + 1))
  if !d.canLive b then d
  else if 255 < tx then d.busOff c
  else ((d.setNat (Reg.txErrorCount c) tx).setNat (Reg.rxErrorCount c) rx).setNat (Reg.busState c)
    (if 127 < tx || 127 < rx then 1 else 0)

/-- CAN_FRAME_RECEIVED (R254), after what the bus brought since the last one; `ident` holds the format in bit [29], as
RequestIdBase does. -/
def State.canFrame (s : State) (b : Bool) (ident : Nat) (fd : Bool) (data : List Nat) (bus : List CanStep) : State :=
  let s := s.onDev (fun d => (bus ++ [CanStep.received]).foldl (Dev.canStep b) d)
  let d := s.dev
  if !d.canLive b || ident != d.nat Reg.requestIdBase + d.nat Reg.nodeId then s
  else if !fd then s.onDev (fun d => d.bump (Reg.framesIgnored (if b then 1 else 0)))
  else s.request (canChannel b) (parseAsk data)

def execCanFrameReceived (b : Bool) (ident : Nat) (fd : Bool) (data : List Nat) (bus : List CanStep) (s : State) : Res :=
  .next (s.together (s.canFrame b ident fd data bus))

/-- CAN_BUS_OFF (R253). -/
def execCanBusOff (b : Bool) (s : State) : Res :=
  .next (s.onDev (fun d =>
    if d.canLive b then d.busOff (if b then 1 else 0) else d))

/-- Recovery under ISO 11898-1 ends in error-active with the counters at 0. -/
def execCanBusOffRecovery (b : Bool) (s : State) : Res :=
  .next (s.onDev (fun d =>
    let c := if b then 1 else 0
    if d.transportsOn && d.nat (Reg.busState c) == 2 then
      ((d.set (Reg.busState c) 0).set (Reg.txErrorCount c) 0).set (Reg.rxErrorCount c) 0 else d))

/-! ## Publications and emergencies (R255, R256) -/

/-- The bytes that a map entry contributes. -/
def Dev.entryBytes (d : Dev) (e : Nat) : List Nat :=
  match findRow (field e 16 31) (field e 8 15) with
  | some r =>
    let key := field e 16 31 * 256 + field e 8 15
    if e.testBit 7 then
      match bankPlace key with
      | some (g, w, b) =>
        let v := (d.bankWord g w + 2 ^ 32 * d.bankWord g (w + 1)) / 2 ^ b
        leBytes r.ty.size (if bankWidth key == 0 then v else v % 2 ^ bankWidth key)
      | none => []
    else r.ty.bytes (d.fixedValue false key)
  | none => []

/-- The map entries in use, in order. -/
def Dev.pubEntriesOf (d : Dev) (p : Nat) : List Nat := (upTo (d.nat (Reg.pubEntries p))).map (fun k => d.nat (Reg.pubMap p k))

/-- The snapshot groups that entries read from. -/
def entryGroups (es : List Nat) : List Nat :=
  (List.range 7).filter (fun g => es.any (fun e => e.testBit 7
    && ((bankPlace (field e 16 31 * 256 + field e 8 15)).map (·.1)) == some g))

/-- A publication falls due (R255): at the row mark of every 8 × PubPeriod-th row from the one at which the mode was written,
across a wrap of the row number. -/
def Dev.pubDue (d : Dev) (p : Nat) : Bool :=
  let mode := d.nat (Reg.pubMode p)
  if mode == 1 then
    let since := (d.row : Int) - (Tab.find p d.svc.pubStart).getD 0
    since != 0 && since % (8 * d.nat (Reg.pubPeriod p) : Nat) == 0
  else if mode == 2 then d.nat (Reg.pubDivider p) ≤ ((Tab.find p d.svc.pubLatches).getD 0).toNat
  else false

/-- The enabled controllers that PubController names. -/
def Dev.pubControllers (d : Dev) (p : Nat) : List Bool :=
  let ctl := d.nat (Reg.pubController p)
  [false, true].filter (fun b => (if b then d.svc.portB.enabled else d.svc.portA.enabled) && (ctl == 2 || (ctl == 1) == b))

/-- The frame is queued on the controllers named; one still queued is replaced (R255). -/
def Dev.queueFrame (d : Dev) (p : Nat) (data : List Nat) : Dev :=
  let old := d.svc.pubQueue.any (fun e => e.1 == p)
  let d : Dev := { d with svc := { d.svc with
    pubQueue := d.svc.pubQueue.filter (fun e => e.1 != p) ++ [(p, data, d.pubControllers p)],
    pubLatches := d.svc.pubLatches.dropIf (fun k => k == p) } }
  if old then d.bump (Reg.pubOverruns p) else d

def Dev.publish (d : Dev) (p : Nat) : Dev :=
  if 1 ≤ p && p ≤ 64 && d.transportsOn && d.pubDue p then
    let es := d.pubEntriesOf p
    let gs := entryGroups es
    let d := gs.foldl (fun d g => d.openRead g 4) d
    let data := padFrame (es.flatMap d.entryBytes)
    (gs.foldl (fun d g => d.closeRead g 4) d).queueFrame p data
  else d

def execPublicationDue (p : Nat) (s : State) : Res := .next (s.onDev (·.publish p))

/-- The 8 bytes of an emergency frame. -/
def emergencyBytes (priority source row : Nat) : List Nat := [source, priority % 4 + 128, 0, 0] ++ leBytes 4 row

/-- Controllers that can send now. -/
def Dev.liveControllers (d : Dev) : List Bool := [false, true].filter d.canLive

/-- A queued publication leaves by its controllers that can send, in the format of PubFormat; one in bus-off keeps it to
send (R255). -/
def Dev.sendPublication (d : Dev) (p : Nat) (data : List Nat) (cs : List Bool) : Dev :=
  let left := cs.filter (fun b => !d.canLive b)
  let format := d.nat (Reg.pubFormat p)
  let d : Dev := { d with svc := { d.svc with
    pubQueue := d.svc.pubQueue.flatMap (fun e => if e.1 != p then [e] else if left.isEmpty then [] else [(p, data, left)]) } }
  (cs.filter d.canLive).foldl (fun d b => d.sendCan b (d.nat (Reg.pubIdentifier p)) data (format != 0) (format == 2)) d

/-- The next waiting frame leaves: emergencies first, classical and past a controller in bus-off (R256, R284), then the first
publication that a controller can send. -/
def Dev.transmit (d : Dev) : Dev :=
  if !d.transportsOn then d
  else match d.svc.emergencies with
    | (priority, e, row) :: rest =>
      let d : Dev := { d with svc := { d.svc with emergencies := rest } }
      d.liveControllers.foldl (fun d b =>
        d.sendCan b (d.nat Reg.emergencyIdBase + d.nat Reg.nodeId) (emergencyBytes priority e row) false false) d
    | [] =>
      match d.svc.pubQueue.find? (fun e => e.2.2.isEmpty || e.2.2.any d.canLive) with
      | some (p, data, cs) => d.sendPublication p data cs
      | none => d

/-! ## SPI (R257, R258) -/

def Dev.spiRuns (d : Dev) : Bool := d.transportsOn && d.svc.spiEnabled

/-- The status byte at the falling edge of SPI_CS_N (Table 9.10). -/
def Dev.spiStatus (d : Dev) : Nat :=
  (if d.svc.spiResponse.isSome then 1 else 0) + (if d.svc.spi.waiting then 2 else 0) + (if d.svc.spiRefused then 4 else 0)
    + (if d.irqLow then 8 else 0) + (if 3 ≤ d.nat Reg.startupState then 16 else 0)

/-- What SPI_SDO carries in a fetch frame. -/
def Dev.fetchBytes (d : Dev) : List Nat :=
  let (t, payload) := d.svc.spiResponse.getD (0, [])
  let body := [t, payload.length] ++ payload
  [d.spiStatus, 255 - d.spiStatus] ++ body ++ [crc8Spi body]

/-- SPI_SDO over a frame of `n` bytes (R257): the status byte, its complement, and 0xFF; in a fetch frame the response, and
0xFF after its CRC. -/
def Dev.sdoBytes (d : Dev) (fetch : Bool) (n : Nat) : List Nat :=
  let body := if fetch then d.fetchBytes else [d.spiStatus, 255 - d.spiStatus]
  (body ++ List.replicate (n - body.length) 0xFF).take n

/-- A frame of `n` bytes is clocked while the port runs. -/
def Dev.clockOut (d : Dev) (fetch : Bool) (n : Nat) : Dev :=
  if d.spiRuns then { d with svc := { d.svc with spiSent := d.sdoBytes fetch n } } else d

/-- A host frame is refused. -/
def Dev.refuseFrame (d : Dev) (crcFailed : Bool) : Dev :=
  if d.spiRuns then (if crcFailed then d.bump Reg.spiCrcErrors else d).refuseBusy .spi else d

/-- A type 0x11 frame of `n` clocked bytes. -/
def State.spiObject (s : State) (m : List Nat) (n : Nat) : State :=
  let s := s.onDev (·.clockOut false n)
  if 252 < m.length then s.onDev (·.refuseFrame false) else s.request .spi (parseAsk m)

def execSpiObjectRequest (m : List Nat) (s : State) : Res := .next (s.together (s.spiObject m (m.length + 3)))

/-- A type 0x12 frame long enough for the response. It never consumes the response; the refusal it reports was that of the
frame before it. -/
def Dev.spiFetched (d : Dev) (n : Nat) : Dev :=
  let d := d.clockOut true n
  if d.spiRuns then { d with svc := { d.svc with spiRefused := false } } else d

def execSpiFetch (s : State) : Res := .next (s.onDev (fun d => d.spiFetched d.fetchBytes.length))

/-- A window frame is accepted (R258, Table 9.17). -/
def Dev.windowOpen (d : Dev) : Bool := d.spiRuns && d.on Reg.spiWindowEnable && !d.svc.spi.waiting

/-- A window frame's fault: its record, the abort, and the end of the bank reads that the host port has open (R265, R280). -/
def Dev.windowFault (d : Dev) (v : Nat) (write : Bool) (kind phys : Nat) : Dev :=
  ((d.closeReader 27).translationFault 11 v write kind phys).windowAbort protectionFault

/-- The words of a window read from `v` on. -/
def State.windowWords (s : State) (v : Nat) : Nat → List Nat → State
  | 0, acc => s.onDev (fun d => { d with svc := { d.svc with spiResponse := some (0x23, acc) } })
  | n + 1, acc =>
    match s.dev.translate 11 v false with
    | .error (k, phys) => s.onDev (·.windowFault v false k phys)
    | .ok phys => (s.physRead 27 phys).2.windowWords (v + 4) n (acc ++ leBytes 4 (s.physRead 27 phys).1)

/-- A type 0x13 frame of `clocked` bytes. -/
def State.windowRead (s : State) (v n clocked : Nat) : State :=
  let s := s.onDev (·.clockOut false clocked)
  if !s.dev.windowOpen then s.onDev (·.refuseFrame false)
  else
    let s := s.onDev (·.acceptFrame .spi)
    if v % 4 != 0 || n == 0 || 60 < n then s.onDev (·.windowAbort outOfRange) else s.windowWords v n []

def execSpiWindowRead (v n : Nat) (s : State) : Res := .next (s.together (s.windowRead v n 8))

/-- The words of a window write from `v` on; words before a fault stand. -/
def State.windowStore (s : State) (v : Nat) : List Nat → State
  | [] => s.onDev (fun d => { d with svc := { d.svc with spiResponse := some (0x24, []) } })
  | w :: rest =>
    match s.dev.translate 11 v true with
    | .error (k, phys) => s.onDev (·.windowFault v true k phys)
    | .ok phys => (s.physWrite phys w).windowStore (v + 4) rest

/-- A type 0x14 frame of `clocked` bytes. -/
def State.windowWrite (s : State) (v : Nat) (words : List Nat) (clocked : Nat) : State :=
  let s := s.onDev (·.clockOut false clocked)
  if !s.dev.windowOpen then s.onDev (·.refuseFrame false)
  else
    let s := s.onDev (·.acceptFrame .spi)
    if v % 4 != 0 || words.isEmpty || 62 < words.length then s.onDev (·.windowAbort outOfRange) else s.windowStore v words

def execSpiWindowWrite (v : Nat) (words : List (BitVec 32)) (s : State) : Res :=
  .next (s.together (s.windowWrite v (words.map BitVec.toNat) (7 + 4 * words.length)))

/-! ## Host frames as bytes (R257, R258) -/

/-- What a host frame is. -/
inductive HostFrame where
  | request (m : List Nat)
  | fetch
  | windowRead (v n : Nat)
  | windowWrite (v : Nat) (words : List Nat)
  | refused (crcFailed : Bool)
  deriving DecidableEq, Repr

/-- Little-endian words of a payload. -/
def leWords : List Nat → List Nat
  | a :: b :: c :: e :: t => ofLe [a, b, c, e] :: leWords t
  | _ => []

/-- The bytes clocked while SPI_CS_N is low: type, length L, L bytes of payload, and CRC-8; bytes beyond these are ignored. A
frame is refused where fewer were clocked, where its CRC fails, or where its type is unknown. -/
def parseHostFrame (b : List Nat) : HostFrame :=
  let size := nth b 1
  let payload := (b.drop 2).take size
  if b.length < size + 3 || 252 < size then .refused false
  else if crc8Spi (b.take (size + 2)) != nth b (size + 2) then .refused true
  else match nth b 0 with
    | 0x11 => .request payload
    | 0x12 => .fetch
    | 0x13 => .windowRead (ofLe (payload.take 4)) (nth payload 4)
    | 0x14 => .windowWrite (ofLe (payload.take 4)) (leWords (payload.drop 4))
    | _ => .refused false

/-- A host frame given as its bytes: what it is decides what happens. A fetch is served as soon as byte 0 reads 0x12, whatever
the rest of the frame. -/
def State.hostFrame (s : State) (b : List Nat) : State :=
  match parseHostFrame b with
  | .request m => s.spiObject m b.length
  | .fetch => s.onDev (·.spiFetched b.length)
  | .windowRead v n => s.windowRead v n b.length
  | .windowWrite v words => s.windowWrite v words b.length
  | .refused crcFailed => s.onDev (fun d => (d.clockOut (nth b 0 == 0x12) b.length).refuseFrame crcFailed)

/-- SPI_FRAME_REFUSED (R257, R258), the frame as clocked. -/
def execSpiFrameRefused (b : List Nat) (s : State) : Res := .next (s.together (s.hostFrame b))

/-! ## VIO (R62) -/

/-- The transports fall back to their idle state: transfers end, requests that wait are dropped, and the answer to one in
flight has nowhere to go. -/
def Dev.idleTransports (d : Dev) : Dev :=
  let d := ((d.endTransfer .canA).endTransfer .canB).endTransfer .spi
  let keep := d.svc.requests.filter (fun r => r.origin == 3 || r.inFlight)
  let d := (d.svc.requests.filter (fun r => r.origin < 3 && !r.inFlight && (windowWrite (parseAsk r.message)).isSome)).foldl
    (fun d r => d.dropChange r.member) d
  let d := d.setRequests (keep.map (fun r => if r.origin < 3 then { r with origin := 4 } else r))
  { d with svc := { d.svc with canA := .reset, canB := .reset, spi := .reset, spiResponse := none, spiRefused := false } }

def execVioChange (mv : Nat) (s : State) : Res :=
  if 3600 < mv then .fault (.beyondAbsoluteMaximum "VIO")
  else .next (s.together (s.onDev (fun d =>
    let d' := d.vioChange mv
    if d.pwr.vio && !d'.pwr.vio then d'.idleTransports else d')))

/-! ## Crossings that fail (R25) -/

/-- CROSSING_TIMEOUT: counted and raised; a read returns no data, and a write may or may not have taken effect. Either is
answered with the hardware-fault abort. A DMA transfer's own fault is DMA_FAULT. -/
def Dev.crossingTimeout (d : Dev) (use : CrossingUse) (who : Requester) (i sub : Nat) (value : List Nat) : Dev :=
  let q : Ask := ⟨1, i, sub, match use with | .write => .write value | _ => .read⟩
  let timed := d.crossingTimedOut
  match use with
  | .dma => timed
  | .read => if timed.serves who && isHost who then timed.answer who (q.abort false hardwareFault) else timed
  | .write =>
    let (took, timed) := timed.freeBool
    let after := if took then
        (match timed.writeFixed (byAgent who) (timed.rights who) i sub value with
         | .ok d => d
         | .error _ => timed)
      else timed
    if after.serves who && isHost who then after.answer who (q.abort false hardwareFault) else after

def execCrossingTimeout (use : CrossingUse) (who : Requester) (i sub : Nat) (value : List Nat) (s : State) : Res :=
  .next (s.together (s.onDev (fun d => if d.monLive || d.cpuLive then d.crossingTimeout use who i sub value else d)))

end Sys2Proof.Machine
end

