-- ==== Sys2Proof/Machine/HostCommands.lean ====
section
/-! DEFINITION. The commands that are accesses to one named object: each is a Write, a segmented write or a Read of the
device's own object by a requester, with the object's type giving the bytes that the value takes (R239, R247, R250). -/

namespace Sys2Proof.Machine

/-- The bytes that carry a value of an object. -/
def objectBytes (r : Reg) (v : Int) : List Nat :=
  match findRow (r.key / 256) (r.key % 256) with
  | some row => row.ty.bytes v
  | none => []

/-- A Write of an object's value. -/
def State.writeObject (s : State) (who : Requester) (r : Reg) (v : Int) : State :=
  s.hostWrite who (r.key / 256) (r.key % 256) (objectBytes r v)

/-- A segmented write of an object. -/
def State.writeBytes (s : State) (who : Requester) (r : Reg) (b : List Nat) : State :=
  s.hostWriteBulk who (r.key / 256) (r.key % 256) b

/-! ## Power modes and snapshots -/

/-- SoftReset (R66): 0xA5A5 resets the logic field. -/
def execSoftReset (who : Requester) (value : Nat) (s : State) : Res :=
  .next (s.together (s.writeObject who Reg.softReset value))

/-- PowerModeRequest 2 (R73). -/
def execSleepRequest (who : Requester) (s : State) : Res := .next (s.together (s.writeObject who Reg.powerModeRequest 2))

/-- PowerModeRequest 3 (R328). -/
def execShipRequest (who : Requester) (s : State) : Res := .next (s.together (s.writeObject who Reg.powerModeRequest 3))

/-- SnapLatch (R36). -/
def execSnapLatch (who : Requester) (value : Nat) (s : State) : Res :=
  .next (s.together (s.writeObject who Reg.snapLatch value))

/-! ## Sampling -/

/-- BufferCommand 2 (R99). -/
def execBufferRearm (who : Requester) (s : State) : Res := .next (s.together (s.writeObject who Reg.bufferCommand 2))

/-- AuxStart (R104). -/
def execAuxStart (who : Requester) (value : Nat) (s : State) : Res := .next (s.together (s.writeObject who Reg.auxStart value))

/-- AuxRefA or AuxRefB (R103). -/
def execAuxRefSelect (who : Requester) (converter value : Nat) (s : State) : Res :=
  .next (s.together (s.writeObject who (if converter == 0 then Reg.auxRefA else Reg.auxRefB) value))

/-- AuxUrgent (R106). -/
def execAuxUrgent (who : Requester) (input : Nat) (s : State) : Res :=
  .next (s.together (s.writeObject who Reg.auxUrgent input))

/-- SelfCalCommand (R108). -/
def execSelfCalCommand (who : Requester) (value : Nat) (s : State) : Res :=
  .next (s.together (s.writeObject who Reg.selfCalCommand value))

/-! ## Supervision and gauge sets -/

/-- A write to a supervision object of 0x2060 (R117). -/
def execThresholdWrite (who : Requester) (sub value : Nat) (s : State) : Res :=
  .next (s.together (s.writeObject who (regAt (0x206000 + sub)) value))

/-- ComparatorTest (R120). -/
def execComparatorTest (who : Requester) (cell : Nat) (s : State) : Res :=
  .next (s.together (s.writeObject who Reg.comparatorTest cell))

/-- OpenWireCommand (R122). -/
def execOpenWireCommand (who : Requester) (value : Nat) (s : State) : Res :=
  .next (s.together (s.writeObject who Reg.openWireCommand value))

/-- GaugeField of a set (R132). -/
def execGaugeFieldWrite (who : Requester) (set : Nat) (bytes : List Nat) (s : State) : Res :=
  .next (s.together (s.writeBytes who (Reg.gaugeField set) bytes))

/-- GaugeFieldValid of a set (R132). -/
def execGaugeFieldRemove (who : Requester) (set value : Nat) (s : State) : Res :=
  .next (s.together (s.writeObject who (Reg.gaugeFieldValid set) value))

/-! ## Balancing, impedance, counters, link -/

/-- BalRequest (R141). -/
def execBalRequestWrite (who : Requester) (value : Nat) (s : State) : Res :=
  .next (s.together (s.writeObject who Reg.balRequest value))

/-- WireGaugeCommand (R153). -/
def execWireGaugeCommand (who : Requester) (value : Nat) (s : State) : Res :=
  .next (s.together (s.writeObject who Reg.wireGaugeCommand value))

/-- ImpCommand (R158). -/
def execImpCommand (who : Requester) (value : Nat) (s : State) : Res :=
  .next (s.together (s.writeObject who Reg.impCommand value))

/-- CounterClear (R169). -/
def execCounterClear (who : Requester) (value : Nat) (s : State) : Res :=
  .next (s.together (s.writeObject who Reg.counterClear value))

/-- CounterRestore (R170). -/
def execCounterRestore (who : Requester) (bytes : List Nat) (s : State) : Res :=
  .next (s.together (s.writeBytes who Reg.counterRestore bytes))

/-- StatsClear of a port (R209). -/
def execStatsClear (who : Requester) (port : Port) (value : Nat) (s : State) : Res :=
  .next (s.together (s.writeObject who (Reg.statsClear port.num) value))

/-! ## Registers, latches and commissioning -/

/-- A write to an object with no behaviour of its own (R240). -/
def execRegisterWrite (who : Requester) (index sub : Nat) (value : List Nat) (s : State) : Res :=
  .next (s.together (s.hostWrite who index sub value))

/-- A write to a latch object (R240). -/
def execLatchClearWrite (who : Requester) (index sub : Nat) (value : List Nat) (s : State) : Res :=
  .next (s.together (s.hostWrite who index sub value))

/-- CommissioningEnter (R241). -/
def execCommissioningEnter (who : Requester) (code : Nat) (s : State) : Res :=
  .next (s.together (s.writeObject who Reg.commissioningEnter code))

/-- SafetyUnlock (R242). -/
def execSafetyUnlock (who : Requester) (code : Nat) (s : State) : Res :=
  .next (s.together (s.writeObject who Reg.safetyUnlock code))

/-- CommissioningCode (R241). -/
def execCommissioningCode (who : Requester) (code : Nat) (s : State) : Res :=
  .next (s.together (s.writeObject who Reg.commissioningCode code))

/-- CommissioningExit (R241). -/
def execCommissioningExit (who : Requester) (value : Nat) (s : State) : Res :=
  .next (s.together (s.writeObject who Reg.commissioningExit value))

/-- ConfigStore (R243). -/
def execConfigStore (who : Requester) (value : Nat) (s : State) : Res :=
  .next (s.together (s.writeObject who Reg.configStore value))

/-- ConfigDefaults (R243). -/
def execConfigDefaults (who : Requester) (value : Nat) (s : State) : Res :=
  .next (s.together (s.writeObject who Reg.configDefaults value))

/-! ## Translation, DMA and events -/

/-- PageTable of a requestor (R271). -/
def execPageTableWrite (who : Requester) (requestor : Nat) (entries : List (BitVec 32)) (s : State) : Res :=
  .next (s.together (s.writeBytes who (Reg.pageTable requestor) (entries.flatMap (fun e => leBytes 4 e.toNat))))

/-- ChannelCommand 1 (R282). -/
def execDmaStart (who : Requester) (channel : Nat) (s : State) : Res :=
  .next (s.together (s.writeObject who (Reg.channelCommand channel) 1))

/-- ChannelCommand 2 (R282). -/
def execDmaHalt (who : Requester) (channel : Nat) (s : State) : Res :=
  .next (s.together (s.writeObject who (Reg.channelCommand channel) 2))

/-- ChannelCommand 3 (R282). -/
def execDmaResume (who : Requester) (channel : Nat) (s : State) : Res :=
  .next (s.together (s.writeObject who (Reg.channelCommand channel) 3))

/-- ChannelCommand 4 (R282). -/
def execDmaAbort (who : Requester) (channel : Nat) (s : State) : Res :=
  .next (s.together (s.writeObject who (Reg.channelCommand channel) 4))

/-- EventFlag (R283). -/
def execEventFlagClear (who : Requester) (source value : Nat) (s : State) : Res :=
  .next (s.together (s.writeObject who (Reg.eventFlag source) value))

/-- EventEnable (R284). -/
def execEventEnableWrite (who : Requester) (source value : Nat) (s : State) : Res :=
  .next (s.together (s.writeObject who (Reg.eventEnable source) value))

/-! ## Converter and power path -/

/-- ConverterFaultClear (R303). -/
def execConverterFaultClear (who : Requester) (value : Nat) (s : State) : Res :=
  .next (s.together (s.writeObject who Reg.converterFaultClear value))

/-- PhaseExcludedClear (R301). -/
def execPhaseExcludedClear (who : Requester) (value : Nat) (s : State) : Res :=
  .next (s.together (s.writeObject who Reg.phaseExcludedClear value))

/-- PhasePopulated (R311). -/
def execPhasePopulatedWrite (who : Requester) (value : Nat) (s : State) : Res :=
  .next (s.together (s.writeObject who Reg.phasePopulated value))

/-- A Read of ChargeFaultLatched (R327). -/
def execChargeFaultRead (who : Requester) (s : State) : Res :=
  .next (s.together (s.hostRead who (Reg.chargeFaultLatched.key / 256) (Reg.chargeFaultLatched.key % 256)))

/-! ## Safety -/

/-- DisconnectCommand 1, or SdAutoClose with every condition met (R371). -/
def execDisconnectClose (who : Requester) (auto : Bool) (s : State) : Res :=
  .next (s.together (if auto then s.onDev (·.autoClose) else s.writeObject who Reg.disconnectCommand 1))

/-- DisconnectCommand 2 (R375). -/
def execDisconnectOpen (who : Requester) (s : State) : Res := .next (s.together (s.writeObject who Reg.disconnectCommand 2))

/-- How the commit goes that the write at hand makes. -/
def Dev.withRun (d : Dev) (run : Option CommitRun) : Dev := { d with stor := { d.stor with hostRun := run } }

/-- CheckValueConfirm (R387). -/
def execCheckValueConfirm (who : Requester) (value code : Nat) (run : CommitRun) (s : State) : Res :=
  .next (s.together (((s.onDev (·.withRun (some run))).writeBytes who Reg.checkValueConfirm (leBytes 4 value ++ leBytes 4 code)).onDev
    (·.withRun none)))

/-! ## Log, calendar, die temperature and self-test -/

/-- LogCommand 1 (R401). -/
def execLogFormat (who : Requester) (s : State) : Res := .next (s.together (s.writeObject who Reg.logCommand 1))

/-- LogCommand 2 (R404). -/
def execLogClosePage (who : Requester) (s : State) : Res := .next (s.together (s.writeObject who Reg.logCommand 2))

/-- LogWrite (R402). -/
def execLogWrite (who : Requester) (bytes : List Nat) (s : State) : Res :=
  .next (s.together (s.writeBytes who Reg.logWrite bytes))

/-- What the NAND device answers for the selected page: whether its CRC holds (R406). -/
def Dev.markPage (d : Dev) (seq : Nat) (crcOk : Bool) : Dev :=
  if d.nat Reg.logReadSequence == seq then
    { d with stor := { d.stor with
      pages := d.stor.pages.map (fun (g : LogPage) => if g.seq == seq then { g with crcOk := crcOk } else g) } }
  else d

/-- LogReadSequence (R406). -/
def execLogReadSequence (who : Requester) (sequence : Nat) (crcOk : Bool) (s : State) : Res :=
  .next (s.together ((s.writeObject who Reg.logReadSequence sequence).onDev (·.markPage sequence crcOk)))

/-- CalendarTime (R408). -/
def execCalendarTimeWrite (who : Requester) (value : Nat) (s : State) : Res :=
  .next (s.together (s.writeObject who Reg.calendarTime value))

/-- CtrlDieTempRequest or MonDieTempRequest (R412). -/
def execDieTempRequest (controller : Bool) (who : Requester) (s : State) : Res :=
  .next (s.together (s.writeObject who (if controller then Reg.ctrlDieTempRequest else Reg.monDieTempRequest) 1))

/-- SwatchControl or MonSwatchControl (R417). -/
def execSwatchControl (who : Requester) (monitor : Bool) (value : Nat) (s : State) : Res :=
  .next (s.together (s.writeObject who (if monitor then Reg.monSwatchControl else Reg.swatchControl) value))

end Sys2Proof.Machine
end

