-- ==== Sys2Proof/Machine/Dispatch.lean ====
section
/-! DEFINITION. One arm per command: a direct call of its meaning. -/

namespace Sys2Proof.Machine

def exec (i : Instr) (s : State) : Host.Outcome State Fault Refusal :=
  match i with
  | .hvPowerOn vstkMv => Sys2Proof.Machine.execHvPowerOn vstkMv s
  | .hvReset => Sys2Proof.Machine.execHvReset s
  | .vlogRise vlogMv => Sys2Proof.Machine.execVlogRise vlogMv s
  | .vlogLowWarning => Sys2Proof.Machine.execVlogLowWarning s
  | .vlogLoss => Sys2Proof.Machine.execVlogLoss s
  | .vioChange vioMv => Sys2Proof.Machine.execVioChange vioMv s
  | .kaSupplyChangeover kaBatMv => Sys2Proof.Machine.execKaSupplyChangeover kaBatMv s
  | .kaPowerOnReset => Sys2Proof.Machine.execKaPowerOnReset s
  | .externalReset => Sys2Proof.Machine.execExternalReset s
  | .resetRelease headEn vlogMv => Sys2Proof.Machine.execResetRelease headEn vlogMv s
  | .roleChangeReset => Sys2Proof.Machine.execRoleChangeReset s
  | .softReset who value => Sys2Proof.Machine.execSoftReset who value s
  | .laneHLoss => Sys2Proof.Machine.execLaneHLoss s
  | .laneFLoss => Sys2Proof.Machine.execLaneFLoss s
  | .kaReferenceMark monCycles => Sys2Proof.Machine.execKaReferenceMark monCycles s
  | .monReferenceLost => Sys2Proof.Machine.execMonReferenceLost s
  | .crossingRequest src dst word => Sys2Proof.Machine.execCrossingRequest src dst word s
  | .crossingTimeout use who index sub value => Sys2Proof.Machine.execCrossingTimeout use who index sub value s
  | .startupSelfTest romOk sramOk => Sys2Proof.Machine.execStartupSelfTest romOk sramOk s
  | .framScan logDevice => Sys2Proof.Machine.execFramScan logDevice s
  | .monitorDieReady => Sys2Proof.Machine.execMonitorDieReady s
  | .monLock => Sys2Proof.Machine.execMonLock s
  | .crystalTimeout => Sys2Proof.Machine.execCrystalTimeout s
  | .fieldConfigLoad => Sys2Proof.Machine.execFieldConfigLoad s
  | .startupComplete elapsedUs => Sys2Proof.Machine.execStartupComplete elapsedUs s
  | .sleepRequest who => Sys2Proof.Machine.execSleepRequest who s
  | .shipRequest who => Sys2Proof.Machine.execShipRequest who s
  | .wakeSource bit => Sys2Proof.Machine.execWakeSource bit s
  | .warmWake => Sys2Proof.Machine.execWarmWake s
  | .rowLossSleep => Sys2Proof.Machine.execRowLossSleep s
  | .lineActivityWake port => Sys2Proof.Machine.execLineActivityWake port s
  | .shipExit bit => Sys2Proof.Machine.execShipExit bit s
  | .snapLatch who value => Sys2Proof.Machine.execSnapLatch who value s
  | .snapshotLatchInstant group => Sys2Proof.Machine.execSnapshotLatchInstant group s
  | .snapshotReadOpen group reader => Sys2Proof.Machine.execSnapshotReadOpen group reader s
  | .snapshotHoldExpiry group => Sys2Proof.Machine.execSnapshotHoldExpiry group s
  | .sampleTick => Sys2Proof.Machine.execSampleTick s
  | .tickLost => Sys2Proof.Machine.execTickLost s
  | .tickReturn row withinHalf => Sys2Proof.Machine.execTickReturn row withinHalf s
  | .decimatorOutput raw mirrorUa vdsUv => Sys2Proof.Machine.execDecimatorOutput raw mirrorUa vdsUv s
  | .filterCornerApply => Sys2Proof.Machine.execFilterCornerApply s
  | .streamRateApply => Sys2Proof.Machine.execStreamRateApply s
  | .channelSetApply => Sys2Proof.Machine.execChannelSetApply s
  | .settlingEnd channel => Sys2Proof.Machine.execSettlingEnd channel s
  | .bufferTrigger trigger => Sys2Proof.Machine.execBufferTrigger trigger s
  | .bufferRearm who => Sys2Proof.Machine.execBufferRearm who s
  | .bufferFreeze => Sys2Proof.Machine.execBufferFreeze s
  | .auxStart who value => Sys2Proof.Machine.execAuxStart who value s
  | .auxPaceTick => Sys2Proof.Machine.execAuxPaceTick s
  | .auxConversionDone input code pulledCode => Sys2Proof.Machine.execAuxConversionDone input code pulledCode s
  | .auxScanComplete => Sys2Proof.Machine.execAuxScanComplete s
  | .auxRefSelect who converter value => Sys2Proof.Machine.execAuxRefSelect who converter value s
  | .auxRefSettled converter refinInRange => Sys2Proof.Machine.execAuxRefSettled converter refinInRange s
  | .auxUrgent who input => Sys2Proof.Machine.execAuxUrgent who input s
  | .auxUrgentDone converter code => Sys2Proof.Machine.execAuxUrgentDone converter code s
  | .selfCalCommand who value => Sys2Proof.Machine.execSelfCalCommand who value s
  | .selfCalDone offsetA gainA offsetB gainB => Sys2Proof.Machine.execSelfCalDone offsetA gainA offsetB gainB s
  | .checkSarSlot slot code => Sys2Proof.Machine.execCheckSarSlot slot code s
  | .comparatorRawChange cell ov active => Sys2Proof.Machine.execComparatorRawChange cell ov active s
  | .comparatorTrip cell ov => Sys2Proof.Machine.execComparatorTrip cell ov s
  | .comparatorRelease cell ov => Sys2Proof.Machine.execComparatorRelease cell ov s
  | .thresholdWrite who sub value => Sys2Proof.Machine.execThresholdWrite who sub value s
  | .faultStateChange merged => Sys2Proof.Machine.execFaultStateChange merged s
  | .alarmReinject merged => Sys2Proof.Machine.execAlarmReinject merged s
  | .comparatorTest who cell => Sys2Proof.Machine.execComparatorTest who cell s
  | .comparatorTestDone ovTripped uvTripped => Sys2Proof.Machine.execComparatorTestDone ovTripped uvTripped s
  | .openWireCommand who value => Sys2Proof.Machine.execOpenWireCommand who value s
  | .openWireInterval => Sys2Proof.Machine.execOpenWireInterval s
  | .openWireWindowStart => Sys2Proof.Machine.execOpenWireWindowStart s
  | .openWirePullOn => Sys2Proof.Machine.execOpenWirePullOn s
  | .openWirePullOff => Sys2Proof.Machine.execOpenWirePullOff s
  | .openWireEvaluate => Sys2Proof.Machine.execOpenWireEvaluate s
  | .openWireWindowEnd => Sys2Proof.Machine.execOpenWireWindowEnd s
  | .groupTrip wire ov tripped => Sys2Proof.Machine.execGroupTrip wire ov tripped s
  | .shuntCommonMode channel beyond => Sys2Proof.Machine.execShuntCommonMode channel beyond s
  | .legacyWakeCheck cellCodes ain1 ain2 => Sys2Proof.Machine.execLegacyWakeCheck cellCodes ain1 ain2 s
  | .gaugeFieldWrite who set bytes => Sys2Proof.Machine.execGaugeFieldWrite who set bytes s
  | .gaugeFieldRemove who set value => Sys2Proof.Machine.execGaugeFieldRemove who set value s
  | .gaugeTempInterval => Sys2Proof.Machine.execGaugeTempInterval s
  | .gaugeFactorsApply => Sys2Proof.Machine.execGaugeFactorsApply s
  | .balanceFrameStart => Sys2Proof.Machine.execBalanceFrameStart s
  | .balRequestWrite who value => Sys2Proof.Machine.execBalRequestWrite who value s
  | .balHoldExpiry => Sys2Proof.Machine.execBalHoldExpiry s
  | .switchFaultLatch cell stuck => Sys2Proof.Machine.execSwitchFaultLatch cell stuck s
  | .blankHold => Sys2Proof.Machine.execBlankHold s
  | .wireGaugeCommand who value => Sys2Proof.Machine.execWireGaugeCommand who value s
  | .wireGaugeStep => Sys2Proof.Machine.execWireGaugeStep s
  | .wireGaugeDone => Sys2Proof.Machine.execWireGaugeDone s
  | .impCommand who value => Sys2Proof.Machine.execImpCommand who value s
  | .impRunStart => Sys2Proof.Machine.execImpRunStart s
  | .impLeadInEnd => Sys2Proof.Machine.execImpLeadInEnd s
  | .impWindowEnd => Sys2Proof.Machine.execImpWindowEnd s
  | .impRunAbandon forPower => Sys2Proof.Machine.execImpRunAbandon forPower s
  | .counterRowMark => Sys2Proof.Machine.execCounterRowMark s
  | .counterClear who value => Sys2Proof.Machine.execCounterClear who value s
  | .counterRestore who bytes => Sys2Proof.Machine.execCounterRestore who bytes s
  | .counterSave => Sys2Proof.Machine.execCounterSave s
  | .portTrainingDone port ok rate25 forwardPs => Sys2Proof.Machine.execPortTrainingDone port ok rate25 forwardPs s
  | .portSignalLoss port => Sys2Proof.Machine.execPortSignalLoss port s
  | .portSignalReturn port => Sys2Proof.Machine.execPortSignalReturn port s
  | .rowStart => Sys2Proof.Machine.execRowStart s
  | .rowMarkReceived port row flags headerOk periodOk timing slots => Sys2Proof.Machine.execRowMarkReceived port row flags headerOk periodOk timing slots s
  | .stitchInsert window => Sys2Proof.Machine.execStitchInsert window s
  | .windowForward port window => Sys2Proof.Machine.execWindowForward port window s
  | .rowReturn port row headerOk periodOk timing windows slots => Sys2Proof.Machine.execRowReturn port row headerOk periodOk timing windows slots s
  | .returnLimitExpiry port => Sys2Proof.Machine.execReturnLimitExpiry port s
  | .deadEndMark port => Sys2Proof.Machine.execDeadEndMark port s
  | .alarmSymbolReceived port merged => Sys2Proof.Machine.execAlarmSymbolReceived port merged s
  | .floatFrameMember bytes intact => Sys2Proof.Machine.execFloatFrameMember bytes intact s
  | .floatFrameHead member bytes intact => Sys2Proof.Machine.execFloatFrameHead member bytes intact s
  | .diagnosticReport => Sys2Proof.Machine.execDiagnosticReport s
  | .delayProbe => Sys2Proof.Machine.execDelayProbe s
  | .probeAnswer roundTripPs turnaroundPs => Sys2Proof.Machine.execProbeAnswer roundTripPs turnaroundPs s
  | .delayReport reportPs => Sys2Proof.Machine.execDelayReport reportPs s
  | .delayApply => Sys2Proof.Machine.execDelayApply s
  | .tickAlignReceived atRow valuePs crcOk => Sys2Proof.Machine.execTickAlignReceived atRow valuePs crcOk s
  | .beyondTickReach => Sys2Proof.Machine.execBeyondTickReach s
  | .statsClear who port value => Sys2Proof.Machine.execStatsClear who port value s
  | .fullCastOn => Sys2Proof.Machine.execFullCastOn s
  | .incrementalPass => Sys2Proof.Machine.execIncrementalPass s
  | .bindOff sleep => Sys2Proof.Machine.execBindOff sleep s
  | .passOpen pass full => Sys2Proof.Machine.execPassOpen pass full s
  | .call nonce => Sys2Proof.Machine.execCall nonce s
  | .claim pass nonce => Sys2Proof.Machine.execClaim pass nonce s
  | .assign address windows nonce => Sys2Proof.Machine.execAssign address windows nonce s
  | .assignAccepted accepted => Sys2Proof.Machine.execAssignAccepted accepted s
  | .passClose => Sys2Proof.Machine.execPassClose s
  | .presenceCode fragment => Sys2Proof.Machine.execPresenceCode fragment s
  | .castOnHole address => Sys2Proof.Machine.execCastOnHole address s
  | .memberAbsent address => Sys2Proof.Machine.execMemberAbsent address s
  | .memberReturned address => Sys2Proof.Machine.execMemberReturned address s
  | .rateFallback => Sys2Proof.Machine.execRateFallback s
  | .ringBreak => Sys2Proof.Machine.execRingBreak s
  | .ringBreakReceived port row => Sys2Proof.Machine.execRingBreakReceived port row s
  | .bindOffEffect => Sys2Proof.Machine.execBindOffEffect s
  | .mirrorSetWrite address => Sys2Proof.Machine.execMirrorSetWrite address s
  | .tickAlignUpdate address delayPs => Sys2Proof.Machine.execTickAlignUpdate address delayPs s
  | .read who target index sub => Sys2Proof.Machine.execRead who target index sub s
  | .write who target index sub value => Sys2Proof.Machine.execWrite who target index sub value s
  | .readSegment who target index sub n => Sys2Proof.Machine.execReadSegment who target index sub n s
  | .writeInitiate who target index sub size => Sys2Proof.Machine.execWriteInitiate who target index sub size s
  | .writeSegment who target index sub n last data => Sys2Proof.Machine.execWriteSegment who target index sub n last data s
  | .clientAbort who target index sub => Sys2Proof.Machine.execClientAbort who target index sub s
  | .unknownCommand who message => Sys2Proof.Machine.execUnknownCommand who message s
  | .registerWrite who index sub value => Sys2Proof.Machine.execRegisterWrite who index sub value s
  | .latchClearWrite who index sub value => Sys2Proof.Machine.execLatchClearWrite who index sub value s
  | .serviceTimeout who => Sys2Proof.Machine.execServiceTimeout who s
  | .commissioningEnter who code => Sys2Proof.Machine.execCommissioningEnter who code s
  | .safetyUnlock who code => Sys2Proof.Machine.execSafetyUnlock who code s
  | .commissioningCode who code => Sys2Proof.Machine.execCommissioningCode who code s
  | .commissioningExit who value => Sys2Proof.Machine.execCommissioningExit who value s
  | .commissioningTimeout => Sys2Proof.Machine.execCommissioningTimeout s
  | .codeLockExpiry => Sys2Proof.Machine.execCodeLockExpiry s
  | .configStore who value => Sys2Proof.Machine.execConfigStore who value s
  | .configDefaults who value => Sys2Proof.Machine.execConfigDefaults who value s
  | .canFrameReceived controllerB ident fd data bus => Sys2Proof.Machine.execCanFrameReceived controllerB ident fd data bus s
  | .canBusOff controllerB => Sys2Proof.Machine.execCanBusOff controllerB s
  | .canBusOffRecovery controllerB => Sys2Proof.Machine.execCanBusOffRecovery controllerB s
  | .publicationDue p => Sys2Proof.Machine.execPublicationDue p s
  | .spiObjectRequest message => Sys2Proof.Machine.execSpiObjectRequest message s
  | .spiFetch => Sys2Proof.Machine.execSpiFetch s
  | .spiWindowRead address count => Sys2Proof.Machine.execSpiWindowRead address count s
  | .spiWindowWrite address words => Sys2Proof.Machine.execSpiWindowWrite address words s
  | .spiFrameRefused bytes => Sys2Proof.Machine.execSpiFrameRefused bytes s
  | .memberRequestRelay who target index sub message => Sys2Proof.Machine.execMemberRequestRelay who target index sub message s
  | .memberResponse address sequence message => Sys2Proof.Machine.execMemberResponse address sequence message s
  | .memberResponseTimeout address => Sys2Proof.Machine.execMemberResponseTimeout address s
  | .pageTableWrite who requestor entries => Sys2Proof.Machine.execPageTableWrite who requestor entries s
  | .translationFault requestor address write fetch => Sys2Proof.Machine.execTranslationFault requestor address write fetch s
  | .sramEccError requestor address double => Sys2Proof.Machine.execSramEccError requestor address double s
  | .dmaStart who channel => Sys2Proof.Machine.execDmaStart who channel s
  | .dmaHalt who channel => Sys2Proof.Machine.execDmaHalt who channel s
  | .dmaResume who channel => Sys2Proof.Machine.execDmaResume who channel s
  | .dmaAbort who channel => Sys2Proof.Machine.execDmaAbort who channel s
  | .descriptorFetch channel => Sys2Proof.Machine.execDescriptorFetch channel s
  | .dmaTrigger source => Sys2Proof.Machine.execDmaTrigger source s
  | .dmaElement channel => Sys2Proof.Machine.execDmaElement channel s
  | .dmaWriteBack channel => Sys2Proof.Machine.execDmaWriteBack channel s
  | .dmaFault channel kind stage wordsDone => Sys2Proof.Machine.execDmaFault channel kind stage wordsDone s
  | .eventRaise source => Sys2Proof.Machine.execEventRaise source s
  | .eventFlagClear who source value => Sys2Proof.Machine.execEventFlagClear who source value s
  | .eventEnableWrite who source value => Sys2Proof.Machine.execEventEnableWrite who source value s
  | .outerLoopUpdate vSourceMv vNodeMv loopDemandsMa => Sys2Proof.Machine.execOuterLoopUpdate vSourceMv vNodeMv loopDemandsMa s
  | .shedComplete => Sys2Proof.Machine.execShedComplete s
  | .turnOnGrant phase sinceLastGrantNs => Sys2Proof.Machine.execTurnOnGrant phase sinceLastGrantNs s
  | .risingPortionEnd phase length sensedMa => Sys2Proof.Machine.execRisingPortionEnd phase length sensedMa s
  | .fallingPortionEnd phase length sensedMa => Sys2Proof.Machine.execFallingPortionEnd phase length sensedMa s
  | .portionForced phase rising => Sys2Proof.Machine.execPortionForced phase rising s
  | .phaseCycleEnd phase meanMa => Sys2Proof.Machine.execPhaseCycleEnd phase meanMa s
  | .bootstrapRefresh phase portionLength => Sys2Proof.Machine.execBootstrapRefresh phase portionLength s
  | .converterRun vdrvMv nodeMv => Sys2Proof.Machine.execConverterRun vdrvMv nodeMv s
  | .converterStartDone => Sys2Proof.Machine.execConverterStartDone s
  | .converterStop => Sys2Proof.Machine.execConverterStop s
  | .converterStopped => Sys2Proof.Machine.execConverterStopped s
  | .converterFault cause => Sys2Proof.Machine.execConverterFault cause s
  | .converterFaultClear who value => Sys2Proof.Machine.execConverterFaultClear who value s
  | .phaseExcludedClear who value => Sys2Proof.Machine.execPhaseExcludedClear who value s
  | .phasePopulatedWrite who value => Sys2Proof.Machine.execPhasePopulatedWrite who value s
  | .throttleInterval => Sys2Proof.Machine.execThrottleInterval s
  | .throttleCompute => Sys2Proof.Machine.execThrottleCompute s
  | .converterTelemetry vdrvMv vSourceMv vNodeMv sensed => Sys2Proof.Machine.execConverterTelemetry vdrvMv vSourceMv vNodeMv sensed s
  | .hbCurrentLimitFault hb2 => Sys2Proof.Machine.execHbCurrentLimitFault hb2 s
  | .hbRestart hb2 => Sys2Proof.Machine.execHbRestart hb2 s
  | .syncAcquired periodsPs slewUs => Sys2Proof.Machine.execSyncAcquired periodsPs slewUs s
  | .syncLost periodPs slewUs => Sys2Proof.Machine.execSyncLost periodPs slewUs s
  | .dockQualified dockMv => Sys2Proof.Machine.execDockQualified dockMv s
  | .dockPresent dockMv => Sys2Proof.Machine.execDockPresent dockMv s
  | .sourceLost vbus senseMv sourceMa => Sys2Proof.Machine.execSourceLost vbus senseMv sourceMa s
  | .sourceSelect noLoadMv => Sys2Proof.Machine.execSourceSelect noLoadMv s
  | .searchStep currentLoopHeld => Sys2Proof.Machine.execSearchStep currentLoopHeld s
  | .searchEnd sag => Sys2Proof.Machine.execSearchEnd sag s
  | .handOverComplete elapsedUs => Sys2Proof.Machine.execHandOverComplete elapsedUs s
  | .reverseEntry => Sys2Proof.Machine.execReverseEntry s
  | .disconnectOpenInSource => Sys2Proof.Machine.execDisconnectOpenInSource s
  | .batfetDiodeOn => Sys2Proof.Machine.execBatfetDiodeOn s
  | .batfetFault => Sys2Proof.Machine.execBatfetFault s
  | .chargeEvaluation packMv sysMv elapsedMs => Sys2Proof.Machine.execChargeEvaluation packMv sysMv elapsedMs s
  | .chargeFault bit => Sys2Proof.Machine.execChargeFault bit s
  | .chargeDone byTimer => Sys2Proof.Machine.execChargeDone byTimer s
  | .chargeFaultRead who => Sys2Proof.Machine.execChargeFaultRead who s
  | .kaChargerTransition kaBatMv ntcCode elapsedS => Sys2Proof.Machine.execKaChargerTransition kaBatMv ntcCode elapsedS s
  | .kaTermination cause => Sys2Proof.Machine.execKaTermination cause s
  | .kaFault bit => Sys2Proof.Machine.execKaFault bit s
  | .kaOutFault limitMs => Sys2Proof.Machine.execKaOutFault limitMs s
  | .kaOutRestart => Sys2Proof.Machine.execKaOutRestart s
  | .typecTransition cc1 cc2 vbusMv elapsedUs => Sys2Proof.Machine.execTypecTransition cc1 cc2 vbusMv elapsedUs s
  | .detach => Sys2Proof.Machine.execDetach s
  | .vbusUsable vbusMv => Sys2Proof.Machine.execVbusUsable vbusMv s
  | .vbusLost => Sys2Proof.Machine.execVbusLost s
  | .policyEngineStart => Sys2Proof.Machine.execPolicyEngineStart s
  | .sourceCapsTimeout => Sys2Proof.Machine.execSourceCapsTimeout s
  | .sourceCapabilities epr pdos raw => Sys2Proof.Machine.execSourceCapabilities epr pdos raw s
  | .ppsRerequest => Sys2Proof.Machine.execPpsRerequest s
  | .unsupportedMessage m => Sys2Proof.Machine.execUnsupportedMessage m s
  | .bistCarrierMode => Sys2Proof.Machine.execBistCarrierMode s
  | .sourceAttach vconnRa => Sys2Proof.Machine.execSourceAttach vconnRa s
  | .discoverIdentity answered fiveAmp eprCable farEnd => Sys2Proof.Machine.execDiscoverIdentity answered fiveAmp eprCable farEnd s
  | .sendSourceCapabilities acknowledged => Sys2Proof.Machine.execSendSourceCapabilities acknowledged s
  | .eprModeEnter capable succeeded => Sys2Proof.Machine.execEprModeEnter capable succeeded s
  | .eprKeepAlive => Sys2Proof.Machine.execEprKeepAlive s
  | .eprKeepAliveLost => Sys2Proof.Machine.execEprKeepAliveLost s
  | .eprModeExit => Sys2Proof.Machine.execEprModeExit s
  | .sinkAccept => Sys2Proof.Machine.execSinkAccept s
  | .sinkPsRdy vbusMeanMv => Sys2Proof.Machine.execSinkPsRdy vbusMeanMv s
  | .psRdyTimeout => Sys2Proof.Machine.execPsRdyTimeout s
  | .sourceRequest position currentMa => Sys2Proof.Machine.execSourceRequest position currentMa s
  | .sourceRampStart => Sys2Proof.Machine.execSourceRampStart s
  | .sourcePsRdy vbusMv => Sys2Proof.Machine.execSourcePsRdy vbusMv s
  | .transitionWatchdog => Sys2Proof.Machine.execTransitionWatchdog s
  | .envelopeFault vbusMv => Sys2Proof.Machine.execEnvelopeFault vbusMv s
  | .sinkOvervoltage vbusMv => Sys2Proof.Machine.execSinkOvervoltage vbusMv s
  | .endSourcing => Sys2Proof.Machine.execEndSourcing s
  | .dischargeDone elapsedMs => Sys2Proof.Machine.execDischargeDone elapsedMs s
  | .dischargeTimeout => Sys2Proof.Machine.execDischargeTimeout s
  | .hardReset why => Sys2Proof.Machine.execHardReset why s
  | .hardResetSourceRestart => Sys2Proof.Machine.execHardResetSourceRestart s
  | .frsSignal => Sys2Proof.Machine.execFrsSignal s
  | .frsSourceStart => Sys2Proof.Machine.execFrsSourceStart s
  | .frsComplete => Sys2Proof.Machine.execFrsComplete s
  | .frsAbandon => Sys2Proof.Machine.execFrsAbandon s
  | .safetyCycle => Sys2Proof.Machine.execSafetyCycle s
  | .watchdogExpiry => Sys2Proof.Machine.execWatchdogExpiry s
  | .lockstepDisagreement => Sys2Proof.Machine.execLockstepDisagreement s
  | .safetyReset => Sys2Proof.Machine.execSafetyReset s
  | .shortCircuit => Sys2Proof.Machine.execShortCircuit s
  | .cellTempRead member ainTempMax hasThermistor => Sys2Proof.Machine.execCellTempRead member ainTempMax hasThermistor s
  | .safetyFaultDetect bit active => Sys2Proof.Machine.execSafetyFaultDetect bit active s
  | .enableToggleLost => Sys2Proof.Machine.execEnableToggleLost s
  | .disconnectClose who auto => Sys2Proof.Machine.execDisconnectClose who auto s
  | .disconnectOpen who => Sys2Proof.Machine.execDisconnectOpen who s
  | .sdFbChange level elapsedUs => Sys2Proof.Machine.execSdFbChange level elapsedUs s
  | .sdCloseTimeout => Sys2Proof.Machine.execSdCloseTimeout s
  | .sdOpenTimeout => Sys2Proof.Machine.execSdOpenTimeout s
  | .testPulse step => Sys2Proof.Machine.execTestPulse step s
  | .dcinSample levels => Sys2Proof.Machine.execDcinSample levels s
  | .degradedTick => Sys2Proof.Machine.execDegradedTick s
  | .degradedReset => Sys2Proof.Machine.execDegradedReset s
  | .degradedDischargeLimit => Sys2Proof.Machine.execDegradedDischargeLimit s
  | .latentCycle => Sys2Proof.Machine.execLatentCycle s
  | .latentOverdue => Sys2Proof.Machine.execLatentOverdue s
  | .checkValueRecompute => Sys2Proof.Machine.execCheckValueRecompute s
  | .checkValueConfirm who value code run => Sys2Proof.Machine.execCheckValueConfirm who value code run s
  | .framCommit cresMv sourceEcc stopRow => Sys2Proof.Machine.execFramCommit cresMv sourceEcc stopRow s
  | .cresMeasure voltageMv dropUv => Sys2Proof.Machine.execCresMeasure voltageMv dropUv s
  | .logEntry sourceEcc run => Sys2Proof.Machine.execLogEntry sourceEcc run s
  | .logPageProgram result first second => Sys2Proof.Machine.execLogPageProgram result first second s
  | .logFormat who => Sys2Proof.Machine.execLogFormat who s
  | .logClosePage who => Sys2Proof.Machine.execLogClosePage who s
  | .logWrite who bytes => Sys2Proof.Machine.execLogWrite who bytes s
  | .skeinErase failed => Sys2Proof.Machine.execSkeinErase failed s
  | .blockRetire block => Sys2Proof.Machine.execBlockRetire block s
  | .logReadSequence who sequence crcOk => Sys2Proof.Machine.execLogReadSequence who sequence crcOk s
  | .calendarTick => Sys2Proof.Machine.execCalendarTick s
  | .calendarTimeWrite who value => Sys2Proof.Machine.execCalendarTimeWrite who value s
  | .compensationStep => Sys2Proof.Machine.execCompensationStep s
  | .dieTempRequest controller who => Sys2Proof.Machine.execDieTempRequest controller who s
  | .dieTempDone controller reading => Sys2Proof.Machine.execDieTempDone controller reading s
  | .swatch monitor failed => Sys2Proof.Machine.execSwatch monitor failed s
  | .swatchControl who monitor value => Sys2Proof.Machine.execSwatchControl who monitor value s
  | .laneFReturn => Sys2Proof.Machine.execLaneFReturn s
  | .hbSyncSlewEnd => Sys2Proof.Machine.execHbSyncSlewEnd s
  | .batfetDiodeOff => Sys2Proof.Machine.execBatfetDiodeOff s
  | .kaBatThreshold kaBatMv => Sys2Proof.Machine.execKaBatThreshold kaBatMv s
  | .sinkCapabilitiesReceived frsCurrentMa => Sys2Proof.Machine.execSinkCapabilitiesReceived frsCurrentMa s

end Sys2Proof.Machine
end

