-- ==== Sys2Proof/Machine/Step.lean ====
section
/-! DEFINITION. One step: the command at the front of the queue, or, with an empty queue, the next waiting frame. -/

namespace Sys2Proof.Machine

/-- Take the command at the front and run it; with nothing pending a waiting frame leaves, else the block idles. -/
def step (s : State) : Host.Outcome State Fault Refusal :=
  match s.pending with
  | [] => .next (s.onDev (·.transmit))
  | c :: rest => exec c { s with pending := rest }

/-- The command that a word spells, put at the front of the queue: no row of the opcode table gives bits, so no word
spells one. -/
def State.withFetchWord (s : State) (nbits w : Nat) : State :=
  match decodeTableWord nbits w with
  | some c => { s with pending := c :: s.pending }
  | none => s

end Sys2Proof.Machine
end

