-- ==== Sys2Proof/Machine/Balls.lean ====
section
/-! DEFINITION. The balls (chapter 2): what each one shows is a function of the state (Tables 2.6 and 2.7), and the ball map
(Tables 2.2 to 2.4). -/

namespace Sys2Proof.Machine

/-! ## Ball map (R41, R42, R45, R46) -/

/-- Row letters from the A1 corner on. -/
def ballRows : List String :=
  ["A", "B", "C", "D", "E", "F", "G", "H", "J", "K", "L", "M", "N", "P", "T", "U", "V", "W", "Y", "AA", "AB", "AC"]

def named (l : List (Nat × String)) (row : Nat) (rest : String) : String :=
  ((l.find? (fun e => e.1 == row)).map (·.2)).getD rest

/-- The HV-field ball in row 0–21 (A–AC) and column 1–10 (Tables 2.2, 2.3). -/
def hvBall (row col : Nat) : String :=
  let rest := "HVGND"
  match col with
  | 1 => "VC" ++ toString (21 - row)
  | 2 => if row == 21 then rest else "BAL" ++ toString (21 - row)
  | 3 => if row < 3 then "VC" ++ toString (24 - row) else rest
  | 4 => if row < 3 then "BAL" ++ toString (24 - row) else rest
  | 5 => named [(11, "VREGM"), (12, "VREGM"), (20, "CS1P"), (21, "CS1N")] row rest
  | 6 => named [(0, "VSTK"), (1, "VSTK"), (11, "VREGD"), (12, "VREGD"), (20, "CS2P"), (21, "CS2N")] row rest
  | 8 => if row == 13 then "REFIN" else if 14 ≤ row && row ≤ 21 then "AIN" ++ toString (row - 13) else rest
  | 9 => named [(1, "LA_P"), (5, "LB_P"), (9, "LC_P")] row rest
  | 10 => named [(1, "LA_N"), (5, "LB_N"), (9, "LC_N"), (12, "FAULT_N"), (13, "WAKE_N"), (15, "TESTM")] row rest
  | _ => rest

/-- The logic-field ball in row 0–21 and column 11–22 (Table 2.4). -/
def logicBall (row col : Nat) : String :=
  let rest := "GND"
  let at_ := fun (l : List String) => (l[row]?).getD rest
  if 17 ≤ col then
    let p := toString (col - 16)
    at_ ["BST" ++ p, "GH" ++ p, "SW" ++ p, "GL" ++ p, "ISNS" ++ p, "ISNS" ++ p ++ "K", "GLO" ++ p, "SWO" ++ p, "GHO" ++ p,
      "BSTO" ++ p, "VDRV"]
  else if col == 16 then
    at_ ["SYS_SNS", "DOCK_SNS", "DOCK_G", "VBUS_SNS", "VBUS_G", "VBUS_DIS", "BATFET_G", "PACK_SNS", "CC1", "CC2"]
  else if col == 15 then
    at_ ["SD_DRV", "SD_SRC", "SD_FB", "DCIN1A", "DCIN1B", "DCIN2A", "DCIN2B", "DCIN3A", "DCIN3B", "DCIN4A", "DCIN4B"]
  else if col == 14 then at_ ["HB1_BST", "HB1_SW", "HB1_FB", "VDD33", "HB2_BST", "HB2_SW", "HB2_SW", "HB2_FB"]
  else if col == 13 then at_ ["VLOG", "VLOG", "VLOG", "VLOG", "SYNC_IN", "VCORE", "VCORE"]
  else if col == 12 then
    at_ ["NAND_SCK", "NAND_CS_N", "NAND_SI", "NAND_SO", "NAND_WP_N", "NAND_HOLD_N", "VIO", rest, rest, rest, rest, rest, rest,
      rest, "KA_BAT", "KA_NTC", "KA_OUT", "XTAL32_I", "XTAL32_O", "CRES", "CRES"]
  else
    at_ ["CAN_A_TX", "CAN_A_RX", "CAN_B_TX", "CAN_B_RX", "SPI_SCK", "SPI_CS_N", "SPI_SDI", "SPI_SDO", "IRQ_N", "VIO", "VIO",
      "RSTB_N", "HEAD_EN", "SHIP_WAKE", "TESTL"]

/-! ## States (R49 to R53) -/

/-- The column of Tables 2.6 and 2.7 that applies to a field; a member whose logic field is unpowered (R51); or the head's
active mode, where the ball does its function. -/
inductive BallColumn where
  | unpowered | reset | sleep | ship | member | active
  deriving DecidableEq, Repr

/-- The HV field is in reset while its power-on reset from VSTK holds. -/
def Dev.hvColumn (d : Dev) : BallColumn :=
  match d.pwr.hv with
  | .inReset => .reset
  | .sleep => .sleep
  | .ship => .ship
  | _ => if d.monHead then .active else .member

/-- The logic field is in reset while RSTB_N is low or its power-on reset from VLOG holds; before step 3 of start-up its balls
stay as in reset (R78). A powered member in member sleep shows the Sleep column. -/
def Dev.logicColumn (d : Dev) : BallColumn :=
  match d.pwr.logic with
  | .off | .keepAliveOnly => if d.pwr.role == .member then .unpowered else .reset
  | .inReset => .reset
  | .sleep => .sleep
  | .ship => .ship
  | _ =>
    if d.pwr.role == .member then if d.pwr.hv == .sleep then .sleep else .member
    else if d.nat Reg.startupState < 3 then .reset else .active

/-- The drivers of the logic field's gate balls have their supply: VLOG is there (R55, R69). -/
def Dev.driversSupplied (d : Dev) : Bool := d.pwr.logic != .off && d.pwr.logic != .keepAliveOnly

/-- What a ball shows to the board. -/
inductive BallLevel where
  /-- high impedance -/
  | z
  | low | high
  /-- the driver off, the gate held towards off by the passive 100 kΩ alone (R55) -/
  | passive
  /-- does its function: an output that a chapter's values drive, a switch or a sense input in use -/
  | works
  | off | on
  /-- a buck in pulse-skip mode -/
  | pulseSkip
  /-- the passive Rd clamp of CC1 and CC2 -/
  | rd
  /-- Rd on both lines, presented by the analog attach detector that watches them (R339) -/
  | rdWatched
  /-- the link driver off, its lines at common mode, the receiver off -/
  | commonMode
  /-- the link receiver detecting line activity, the driver sending alarm symbols alone -/
  | alarmsOnly
  /-- an input, not driven -/
  | input
  /-- an input that is not read -/
  | notRead
  /-- a regulator output that rises, and a reservoir that charges or is charged -/
  | rising | charging | charged
  deriving DecidableEq, Repr

def levelIf (b : Bool) (x y : BallLevel) : BallLevel := if b then x else y

/-- A ball that does its function in the head's active mode and shows `rest` in every other column. -/
def Dev.activeOr (d : Dev) (rest : BallLevel) : BallLevel := if d.logicColumn == .active then .works else rest

/-- A gate or switch driver: its level in the head's active mode, off in the other columns, and held only by the passive 100 kΩ
where the driver's supply is absent (R51, R55). -/
def Dev.gateOr (d : Dev) (level : BallLevel) : BallLevel :=
  if !d.driversSupplied then .passive
  else if d.logicColumn == .active then level
  else .off

/-- FAULT_N (R50, Table 2.6): low in reset, then while a comparator is tripped or the thresholds are not loaded. -/
def Dev.faultN (d : Dev) : BallLevel :=
  match d.hvColumn with
  | .unpowered | .ship => .z
  | .reset => .low
  | _ => levelIf (d.faultNow || !d.pwr.trimLoaded) .low .z

/-- WAKE_N: driven by the legacy wake check in sleep. -/
def Dev.wakeN (d : Dev) : BallLevel := levelIf (d.hvColumn == .sleep && d.sup.wakeLow) .low .z

/-- BALk by the owner of switch k (Table 6.1): at level 8 closed on the on-rows of R145, at level 7 under the excitation, at
level 3 as the test requires; open in every other column. -/
def Dev.balBall (d : Dev) (k : Nat) : BallLevel :=
  match d.hvColumn with
  | .active | .member => levelIf (d.switchClosed k) .on .off
  | _ => .off

/-- VC0 to VC24: connected to the comparators in sleep. -/
def Dev.cellInputs (d : Dev) : BallLevel :=
  match d.hvColumn with
  | .active | .member | .sleep => .works
  | _ => .z

/-- The shunt inputs and REFIN. -/
def Dev.shuntInputs (d : Dev) : BallLevel :=
  match d.hvColumn with
  | .active | .member => .works
  | _ => .z

/-- AIN1 to AIN8; in sleep only while the legacy wake check samples them. -/
def Dev.ainBalls (d : Dev) (checking : Bool) : BallLevel :=
  match d.hvColumn with
  | .active | .member => .works
  | .sleep => levelIf checking .works .z
  | _ => .z

/-- VREGM and VREGD. -/
def Dev.monRegulators (d : Dev) : BallLevel :=
  match d.hvColumn with
  | .ship | .unpowered => .off
  | .reset => .rising
  | _ => .on

/-- A link port's lines (Table 2.6, LA_P to LC_N). -/
def Dev.linkLines (d : Dev) : BallLevel :=
  match d.hvColumn with
  | .active | .member => .works
  | .sleep => .alarmsOnly
  | .reset => .commonMode
  | .ship | .unpowered => .z

/-- The leg of phase p on the source side or on the regulated side, in its portion: the high side of it is on (R288 to R290).
In the rising portion the source-side high side and, outside buck, the regulated-side low side conduct; in the falling portion
the regulated-side high side and, outside boost, the source-side low side. -/
def Dev.legHigh (d : Dev) (p : Nat) (source : Bool) : Bool :=
  let region := d.nat (Reg.phaseRegion p)
  if (d.phase p).portion == 1 then source || region == 0 else !source || region == 2

/-- The high side that R289 holds on in its region: the regulated side's in buck, the source side's in boost. -/
def Dev.heldHigh (d : Dev) (p : Nat) (source : Bool) : Bool := d.nat (Reg.phaseRegion p) == (if source then 2 else 0)

/-- A switch of a phase's leg conducts `since` CNV cycles into a portion: the switch that R288 to R290 ask for, turned on DeadTime
after its complement has turned off, so also a high side held on from this cycle on whose low side conducted before; a held-on
high side gives way to its low side for 150 ns where the portion began with a bootstrap refresh (R292). -/
def Dev.switchOn (d : Dev) (p since : Nat) (source high : Bool) : Bool :=
  let x := d.phase p
  let dead := d.nat Reg.deadTime
  if x.portion == 0 then false
  else if x.portion == 2 && x.refreshed && d.heldHigh p source && decide (since < 2 * dead + 60) then
    !high && decide (dead ≤ since) && decide (since < dead + 60)
  else
    let stays := d.heldHigh p source && !(source && x.portion == 1 && x.lowBefore)
    d.legHigh p source == high && (stays || decide (dead ≤ since))

/-- A gate of the converter's phase p, `since` CNV cycles into the portion: of the input leg (GHp, GLp) or the output leg (GHOp,
GLOp), which exchange their roles in reverse (R288). Low outside the head's active mode and while the phase does not switch. -/
def Dev.phaseGate (d : Dev) (p since : Nat) (output high : Bool) : BallLevel :=
  if !d.driversSupplied then .passive else
  match d.logicColumn with
  | .ship => .passive
  | .active => levelIf (d.switchOn p since (output == d.on Reg.directionInForce) high) .high .low
  | _ => .low

/-- SWp, SWOp, ISNSp, ISNSpK, SYS_SNS, PACK_SNS, SD_SRC and SD_FB: Z in every column of Table 2.7. -/
def Dev.senseBalls (d : Dev) : BallLevel := d.activeOr .z

/-- VDRV: off in every column of Table 2.7; the head's active mode drives the gates from it. -/
def Dev.vdrv (d : Dev) : BallLevel :=
  match d.logicColumn with
  | .unpowered => .z
  | _ => levelIf d.cnvRuns .on .off

/-- DOCK_SNS and VBUS_SNS: monitored, for wake in sleep and for exit in ship mode; Z on a member. -/
def Dev.inputSense (d : Dev) : BallLevel :=
  match d.logicColumn with
  | .unpowered | .member => .z
  | _ => .works

/-- DOCK_G and VBUS_G (R312, R314, R321): the selected source's gate in Source, VBUS_G in Reverse. -/
def Dev.sourceGate (d : Dev) (vbus : Bool) : BallLevel :=
  let path := d.nat Reg.pathState
  d.gateOr (levelIf ((path == 2 && d.nat Reg.selectedSource == (if vbus then 2 else 1)) || (path == 4 && vbus)) .on .off)

/-- BATFET_G (Table 12.3). -/
def Dev.batfetGate (d : Dev) : BallLevel :=
  let mode := d.nat Reg.batfetState
  d.gateOr (if mode == 2 && !d.path.diodeOn then .works else levelIf (mode == 3 || ((mode == 1 || mode == 2) && d.path.diodeOn)) .on .off)

/-- VBUS_DIS (R350), an open drain. -/
def Dev.vbusDis (d : Dev) : BallLevel :=
  match d.logicColumn with
  | .unpowered => .z
  | .active => levelIf d.pd.discharging .on .off
  | _ => .off

/-- Duty of SD_DRV in percent, `ms` after it turned on (R369): the whole drive in mode 0 and during SdPullInTime, then the hold
duty of the contactor coil at 20 kHz. -/
def Dev.driveDuty (d : Dev) (ms : Nat) : Nat :=
  if !d.driven then 0
  else if d.on Reg.sdDriveMode && d.nat Reg.sdPullInTime ≤ ms then d.nat Reg.sdHoldDuty
  else 100

/-- SD_DRV (R370). -/
def Dev.sdDrv (d : Dev) : BallLevel := d.gateOr (levelIf d.driven .on .off)

/-- CC1 and CC2: the Rd clamp wherever the port does not run; a Disabled port leaves it, ErrorRecovery opens both lines; in sleep
the attach detector presents Rd on both (R337, R339), on a powered member too (Table 2.7, assumption 188). -/
def Dev.ccBalls (d : Dev) : BallLevel :=
  match d.logicColumn with
  | .active => if d.pdState == 0 then .rd else if d.pdState == 7 then .z else .works
  | .sleep => .rdWatched
  | _ => .rd

/-- DCIN1A to DCIN4B: an input without wetting current in reset, sampled in the head's active mode, else not read. -/
def Dev.dcinBalls (d : Dev) : BallLevel :=
  match d.logicColumn with
  | .unpowered => .z
  | .reset => .input
  | .active => .works
  | _ => .notRead

/-- IRQ_N (R284); Z without VIO (R62). -/
def Dev.irqN (d : Dev) : BallLevel :=
  match d.logicColumn with
  | .active | .sleep => levelIf (d.pwr.vio && d.irqLow) .low .z
  | _ => .z

/-- CAN_A_TX and CAN_B_TX idle, recessive; Z without VIO. -/
def Dev.canTx (d : Dev) : BallLevel :=
  match d.logicColumn with
  | .unpowered | .ship => .z
  | _ => levelIf d.pwr.vio .high .z

/-- NAND_SCK, NAND_SI and NAND_WP_N rest low, NAND_CS_N and NAND_HOLD_N high; Z without VIO. -/
def Dev.nandBall (d : Dev) (restHigh : Bool) : BallLevel :=
  match d.logicColumn with
  | .unpowered | .ship => .z
  | _ => levelIf d.pwr.vio (levelIf restHigh .high .low) .z

/-- The logic field's digital inputs (CAN receive, SPI inputs, NAND_SO, RSTB_N, HEAD_EN, SYNC_IN). -/
def Dev.digitalInputs (d : Dev) : BallLevel :=
  match d.logicColumn with
  | .unpowered | .ship => .z
  | _ => .input

/-- SHIP_WAKE: an input in every column. -/
def Dev.shipWakeBall (d : Dev) : BallLevel :=
  match d.logicColumn with
  | .unpowered => .z
  | _ => .input

/-- The device rests in member sleep with its logic field powered: R51 and R69 give it the Sleep column of Table 2.7. -/
def Dev.memberSleeps (d : Dev) : Bool := d.pwr.role == .member && d.logicColumn == .sleep

/-- KA_OUT (R333, R53): on in the states KaOutState shows as on, state 3 at its limit; on in member sleep (DEDUCED, assumption
188: Table 0.5 leaves the ball states to Table 2.7, although R3 keeps a member's KA island inactive). -/
def Dev.kaOutBall (d : Dev) : BallLevel :=
  if d.memberSleeps then levelIf (d.pwr.ka != .none) .on .off else
  match d.logicColumn with
  | .unpowered => .z
  | _ =>
    let st := d.nat Reg.kaOutState
    levelIf (d.pwr.ka != .none && 1 ≤ st && st ≤ 3) .on .off

/-- KA_NTC, biased in Trickle, Fast and Maintenance alone (R330); unbiased in ship mode and on a member, unchanged through
logic-field reset, which leaves KaChargeState (R52). -/
def Dev.kaNtcBall (d : Dev) : BallLevel :=
  match d.logicColumn with
  | .unpowered => .z
  | .ship | .member => .off
  | _ => levelIf (d.kaActive && 1 ≤ d.nat Reg.kaChargeState && d.nat Reg.kaChargeState ≤ 3) .on .off

/-- XTAL32_I and XTAL32_O: off on a member, oscillating in member sleep (assumption 188). -/
def Dev.crystalBalls (d : Dev) : BallLevel :=
  match d.logicColumn with
  | .unpowered => .z
  | _ => levelIf (d.kaActive || (d.memberSleeps && d.pwr.ka != .none)) .works .off

/-- HB1 and HB2 (Table 2.7, R308); HB1 in pulse-skip mode in sleep. -/
def Dev.hb1Ball (d : Dev) : BallLevel :=
  match d.logicColumn with
  | .ship => .off
  | .unpowered => .z
  | .sleep => levelIf (d.pwr.vlog && !d.pwr.hb1Off) .pulseSkip .off
  | _ => levelIf (d.pwr.vlog && !d.pwr.hb1Off) .on .off

def Dev.hb2Ball (d : Dev) : BallLevel :=
  match d.logicColumn with
  | .unpowered => .z
  | _ => levelIf d.hb2On .on .off

/-- CRES, the commit reservoir. -/
def Dev.cresBall (d : Dev) : BallLevel :=
  match d.logicColumn with
  | .unpowered => .z
  | .reset => .charging
  | .ship => .off
  | _ => .charged

/-- SPI_SDO outside a frame is Z; in a fetch frame it carries `Dev.fetchBytes`. -/
def Dev.spiSdo (d : Dev) (selected : Bool) : BallLevel := levelIf (selected && d.spiRuns) .works .z

end Sys2Proof.Machine
end

