-- ==== Sys2Proof/Safety.lean ====
section
/-! DEFINITION. The words that claims about the machine use: a command runs to a state that satisfies a predicate, what two
states agree on, and what a sound SRAM is. -/

namespace Sys2Proof.Machine

/-- Command `c` completes at `s`, and the state it leaves satisfies `P`. -/
def Runs (c : Instr) (s : State) (P : State → Prop) : Prop := ∃ t, exec c s = .next t ∧ P t

/-- The voltage that a supply command carries lies within the absolute maximum ratings of Table 16.1; every other command
carries none. -/
def withinRatings : Instr → Bool
  | .hvPowerOn mv => decide (mv ≤ 135000)
  | .vlogRise mv => decide (mv ≤ 65000)
  | .vioChange mv => decide (mv ≤ 3600)
  | .kaSupplyChangeover mv => decide (mv ≤ 5500)
  | _ => true

/-- The SRAM holds its canonical form, and every listed byte lies in the SRAM of Table 10.1. -/
def MemoryOk (s : State) : Prop :=
  Memory.wf s.mem = true ∧ ∀ c ∈ s.mem, 0x10000000 ≤ c.1 ∧ c.1 ≤ 0x100FFFFF

/-- Registers that raising an event source may write: flag, count and row of a source (chapter 10), the state of a DMA
channel that waits for it (R277), EmergencyDropped (R256) and LogDropped (R403). -/
def eventKey (k : Nat) : Bool :=
  (0x7000 ≤ k / 256 && k / 256 ≤ 0x707F && (k % 256 == 1 || k % 256 == 5 || k % 256 == 6))
    || (0x8020 ≤ k / 256 && k / 256 ≤ 0x802F && k % 256 == 2) || k == Reg.emergencyDropped.key || k == Reg.logDropped.key

/-- Memory, queue, strings and every register but those that `touched` admits are as before. -/
def Keeps (touched : Nat → Bool) (s t : State) : Prop :=
  t.mem = s.mem ∧ t.pending = s.pending ∧ t.dev.blobs = s.dev.blobs
    ∧ ∀ r : Reg, touched r.key = false → t.dev.reg r = s.dev.reg r

/-- The registers of a list, and those that a raise may write. -/
def orEvents (l : List Reg) (k : Nat) : Bool := l.any (fun r => r.key == k) || eventKey k

/-- The registers of a list only. -/
def these (l : List Reg) (k : Nat) : Bool := l.any (fun r => r.key == k)

/-- Registers of ranges of indices, and single ones. -/
def within (spans : List (Nat × Nat)) (l : List Reg) (k : Nat) : Bool :=
  spans.any (fun x => x.1 ≤ k / 256 && k / 256 ≤ x.2) || l.any (fun r => r.key == k)

/-- The same, and those that a raise may write. -/
def withinEvents (spans : List (Nat × Nat)) (l : List Reg) (k : Nat) : Bool := within spans l k || eventKey k

/-- Registers that a trip may write (R366, R370): those of the faults, of the converter and its phases, of the power path
and its fast role swap, and those of a raise. -/
def tripKey (k : Nat) : Bool :=
  withinEvents [(0x4000, 0x4000), (0x4101, 0x4106), (0x4400, 0x4400)] [Reg.frsState, Reg.safetyState, Reg.dischargeLimitInForce,
    Reg.tripCause, Reg.activeFaults, Reg.faultLatched, Reg.lastTripRow, Reg.reactionTime] k

/-- Queue and every register but those that `touched` admits are as before; the memory is stated beside it. -/
def KeepsRegs (touched : Nat → Bool) (s t : State) : Prop :=
  t.pending = s.pending ∧ ∀ r : Reg, touched r.key = false → t.dev.reg r = s.dev.reg r

/-- Source `e` reads raised. -/
def Raised (e : Nat) (t : State) : Prop := t.dev.reg (Reg.eventFlag e) = 1

/-- The device takes the next message of this requester now: the channel is served and none of its requests waits (R251). -/
def Accepts (s : State) (who : Requester) : Prop := s.dev.serves who = true ∧ (s.dev.channel who).waiting = false

/-- This requester may write this object now: the message is taken, the object exists for it, its access class admits the
requester's rights (R240), and the monitor die answers where it holds the object (R25). -/
def MayWrite (s : State) (who : Requester) (r : Reg) : Prop :=
  Accepts s who ∧ (mayWrite (byAgent who) (s.dev.rights who) (r.key / 256) (r.key % 256)).isOk = true
    ∧ s.dev.crossingFails (byAgent who) (r.key / 256) = false

/-- Registers that taking and answering a request may write: the service's counters, and at a member LinkStatus, which shows
the answer in the float queue. -/
def answerKey (k : Nat) : Bool :=
  k == Reg.requestsServed.key || k == Reg.abortsSent.key || k == Reg.lastAbort.key || k == Reg.spiFramesAccepted.key
    || k == Reg.linkStatus.key

/-- The answer `m` to a request stands where its requester finds it: the last message of a host channel, or the response that
waits for the float bits (R251, R193). The head's own firmware takes no answer. -/
def Answers (who : Requester) (m : List Nat) (t : State) : Prop :=
  match who with
  | .canA => t.dev.svc.canA.sent = m
  | .canB => t.dev.svc.canB.sent = m
  | .spi => t.dev.svc.spi.sent = m
  | .float _ _ => t.dev.link.upResponse = some (frameContent 2 (t.dev.svc.agentSeq.getD 0) m)
  | .firmware => True

/-- The device as the request finds it: its frame is accepted, and a transfer that the request ends has ended (R249, R251,
R258). -/
def meets (s : State) (who : Requester) (op : Op) : Dev := (s.dev.acceptFrame who).beforeServing who op

/-- A served request leaves the device `d`, but for the answer and what counts it. -/
def Leaves (d : Dev) (s t : State) : Prop :=
  t.mem = s.mem ∧ t.pending = s.pending ∧ t.dev.blobs = d.blobs ∧ t.dev.pwr = d.pwr ∧ t.dev.snaps = d.snaps
    ∧ t.dev.samp = d.samp ∧ t.dev.sup = d.sup ∧ t.dev.bal = d.bal ∧ t.dev.chain = d.chain ∧ t.dev.ctl = d.ctl
    ∧ t.dev.conv = d.conv ∧ t.dev.path = d.path ∧ t.dev.pd = d.pd ∧ t.dev.safe = d.safe ∧ t.dev.stor = d.stor
    ∧ ∀ r : Reg, answerKey r.key = false → t.dev.reg r = d.reg r

/-- The abort reason of a refused write, and the device that it leaves. -/
def refusalOf : WriteResult → Option (Nat × Dev)
  | .ok _ => none
  | .error x => some x

/-- The physical address of word `k` of a window frame that starts at `v` (R258, R270); 0 where the table gives none. -/
def windowAt (s : State) (v : Nat) (write : Bool) (k : Nat) : Nat :=
  ((s.dev.translate 11 (v + 4 * k) write).toOption).getD 0

/-- The request is for the device that takes it, not for a member behind it (R246). -/
def ForSelf (who : Requester) (target : Nat) : Prop := isHost who = false ∨ target ≤ 1

/-- Objects of fixed size whose write does more than store the value: those that a row of their own chapter names. -/
def ownEffect (k : Nat) : Bool :=
  let i := k / 256
  isLatch k
    || [Reg.powerModeRequest, Reg.softReset, Reg.commissioningEnter, Reg.safetyUnlock, Reg.commissioningCode, Reg.configStore,
        Reg.configDefaults, Reg.commissioningExit, Reg.snapLatch, Reg.snapAuto, Reg.filterCorner, Reg.streamRate, Reg.auxMode,
        Reg.auxRefA, Reg.auxRefB, Reg.auxStart, Reg.auxUrgent, Reg.selfCalCommand, Reg.bufferMode, Reg.bufferCommand,
        Reg.comparatorTest, Reg.openWireCommand, Reg.ovCode, Reg.uvCode, Reg.ovUvDeglitch, Reg.linkRate,
        Reg.monDieTempRequest, Reg.balRequest, Reg.balMode,
        Reg.wireGaugeCommand, Reg.impCommand, Reg.impSource, Reg.impShunt, Reg.counterSource, Reg.counterClear,
        Reg.phaseExcludedClear, Reg.converterFaultClear, Reg.phasePopulated, Reg.hbSyncEnable, Reg.converterCurrentLimit,
        Reg.powerLimit, Reg.phaseCurrentLimit, Reg.reversePowerLimit, Reg.kaOutEnable, Reg.kaCapacity, Reg.kaChargeEnable, Reg.portEnable,
        Reg.frsEnable, Reg.dockCurrentLimit, Reg.disconnectCommand, Reg.logCommand, Reg.logReadSequence, Reg.calendarTime, Reg.ctrlDieTempRequest,
        Reg.chainCommand, Reg.swatchControl, Reg.monSwatchControl].any (fun r => r.key == k)
    || (0x1501 ≤ i && i ≤ 0x1540) || (0x20B1 ≤ i && i ≤ 0x20B6) || (0x2E01 ≤ i && i ≤ 0x2E03)
    || (0x3101 ≤ i && i ≤ 0x3108) || i == 0x5000 || (0x7000 ≤ i && i ≤ 0x707F) || (0x8010 ≤ i && i ≤ 0x802F)

/-- The registers of a list, and those that answering the request may write. -/
def orAnswer (l : List Reg) (k : Nat) : Bool := l.any (fun r => r.key == k) || answerKey k

/-- The registers of a list, and those that a raise or the answer may write. -/
def orBoth (l : List Reg) (k : Nat) : Bool := l.any (fun r => r.key == k) || answerKey k || eventKey k

/-- Registers of ranges and a list, and those that the answer may write. -/
def withinAnswer (spans : List (Nat × Nat)) (l : List Reg) (k : Nat) : Bool := within spans l k || answerKey k

/-- The same, and those that a raise may write. -/
def withinBoth (spans : List (Nat × Nat)) (l : List Reg) (k : Nat) : Bool :=
  within spans l k || answerKey k || eventKey k

/-- The status objects of the 26 channels. -/
def channelKey (k : Nat) : Bool := (List.range 26).any (fun c => (channelStatus c).key == k)

/-- The fault kind that a translation answers (Table 10.5), if any. -/
def faultKind : Except (Nat × Nat) Nat → Option Nat
  | .error x => some x.1
  | .ok _ => none

/-- A fault of a kind has stopped channel `c` in a stage (R279): no byte of memory changes, what was left stands in Remaining,
the fault is counted at the channel's requestor, recorded there and at the channel, and raised. -/
def Halted (c kind stage left : Nat) (s t : State) : Prop :=
  t.mem = s.mem ∧ t.dev.chanState c = 4 ∧ (t.dev.chan c).fault = kind ∧ (t.dev.chan c).faultStage = stage
    ∧ t.dev.nat (Reg.remaining c) = left
    ∧ t.dev.reg (Reg.faultCount (chanRequestor c)) = s.dev.reg (Reg.faultCount (chanRequestor c)) + 1
    ∧ t.dev.blob (Reg.faultRecord c).key [] = t.dev.blob (Reg.requestorFault (chanRequestor c)).key []
    ∧ (t.dev.blob (Reg.faultRecord c).key []).length = 32 ∧ Raised 44 t
    ∧ KeepsRegs (withinEvents [(0x8010, 0x802F)] []) s t

/-- The emergency frames that one command queues stand by priority, highest first, and then by source number (R284). -/
def FramesInOrder (s t : State) : Prop :=
  (t.dev.svc.emergencies.drop s.dev.svc.emergencies.length).Pairwise (fun a b => b.1 < a.1 ∨ a.1 = b.1 ∧ a.2.1 ≤ b.2.1)

/-- The fixed numbers of the device: 16 DMA channels (R274), 6 phases (R287), 7 snapshot groups (R31), 5 record parts. -/
def Shape (d : Dev) : Prop :=
  d.ctl.dma.length = 16 ∧ d.conv.phases.length = 6 ∧ d.snaps.length = 7 ∧ d.stor.record.length = 5

/-- At most 16 emergency frames wait (R256), and at most 64 log entries (R403); no address lies beyond 4094 (R219): the highest
that is assigned, the one being assigned and those of the pass in progress. -/
def Bounded (d : Dev) : Prop :=
  d.svc.emergencies.length ≤ 16 ∧ d.stor.logQueue.length ≤ 64 ∧ d.nat Reg.highestAddress ≤ 4094
    ∧ (∀ g ∈ d.chain.assigning, g.1 ≤ 4094) ∧ ∀ a ∈ d.chain.thisPass, a ≤ 4094

/-- Registers of the KA island that follow the role and the supplies, and so may change with a reset of the logic field: those
of KA_OUT and of the charger (R52, Table 12.5). -/
def kaFollows (k : Nat) : Bool := these [Reg.kaOutState, Reg.kaChargeState, Reg.kaChargeCurrent] k

/-- What a logic-field reset leaves (R66): the SRAM lists nothing; ResetCause shows the cause beside those before it; every
register of the controller die but the KA island's holds its default, but for SupplyStatus, which shows the supplies; the
monitor die keeps its registers, samples, supervision and balancing; the KA island keeps its registers
but for those of KA_OUT and its charger, which follow the supplies, and those of `written`; the requests, the
chain, the converter and the port start afresh; the images in FRAM stay; SD_DRV is off (R368). -/
def LogicReset (cause : Nat) (written : List Reg) (s t : State) : Prop :=
  t.mem = [] ∧ t.pending = s.pending
    ∧ (∀ n, t.dev.bit Reg.resetCause n = (s.dev.bit Reg.resetCause n || decide (n = cause)))
    ∧ (∀ r : Reg, survivesLogicReset r.key = false → r.key ≠ Reg.supplyStatus.key → t.dev.reg r = r.dflt)
    ∧ (∀ r : Reg, isMonKey r.key = true → t.dev.reg r = s.dev.reg r)
    ∧ (∀ r : Reg, isKaKey r.key = true → these written r.key = false → kaFollows r.key = false → t.dev.reg r = s.dev.reg r)
    ∧ (t.dev.samp = s.dev.samp ∧ t.dev.sup = s.dev.sup ∧ t.dev.bal = s.dev.bal)
    ∧ t.dev.svc.requests = [] ∧ t.dev.chain = .reset ∧ t.dev.conv = .reset ∧ t.dev.pd = .reset
    ∧ (t.dev.stor.headImage = s.dev.stor.headImage ∧ t.dev.stor.members = s.dev.stor.members)
    ∧ t.dev.safe.drive = false

/-- The objects of one cell: 0x3001 to 0x3018. -/
def cellKey (k : Nat) : Bool := 0x3001 ≤ k / 256 && k / 256 ≤ 0x3018

end Sys2Proof.Machine
end

