-- ==== Sys2Proof/Certificates/Slice0/Obligations.lean ====
section
/-! DEFINITION. The statements made of the machine, for the provers: which state each command leaves, what it keeps, and what
every step keeps. -/

open Sys2Proof Sys2Proof.Machine

/-! ## The machine as a whole -/

/-- A step with a command at the front is that command on the state whose queue is the rest. -/
def Obligations.StepTakesFront : Prop :=
  ∀ (c : Instr) (rest : List Instr) (s : State),
    Machine.step { s with pending := c :: rest } = Machine.exec c { s with pending := rest }

/-- With no command waiting a step completes, keeps the queue empty and the SRAM as it is, and with no frame waiting either
it changes nothing (the model's choice, assumption 5). -/
def Obligations.EmptyQueueIdles : Prop :=
  ∀ s : State, s.pending = [] →
    (∃ t, Machine.step s = .next t ∧ t.pending = [] ∧ t.mem = s.mem ∧ t.dev.regs = s.dev.regs) ∧
    (s.dev.svc.emergencies = [] → s.dev.svc.pubQueue = [] → Machine.step s = .next s)

/-- Every command whose measured voltage lies within Table 16.1 completes at every state, and no command changes the queue
behind it; one whose voltage lies beyond stops the machine (the model's choice, assumption 7). -/
def Obligations.CommandsKeepQueue : Prop :=
  (∀ (c : Instr) (s t : State), Machine.exec c s = .next t → t.pending = s.pending) ∧
  (∀ (c : Instr) (s : State), withinRatings c = true → ∃ t, Machine.exec c s = .next t ∧ t.pending = s.pending) ∧
  (∀ (c : Instr) (s : State), withinRatings c = false → ∃ ball, Machine.exec c s = .fault (.beyondAbsoluteMaximum ball))

/-- After reset the SRAM is sound, the queue is empty, no register holds anything but its reset value, and the numbers and
bounds that every step keeps hold. -/
def Obligations.AfterReset : Prop :=
  (MemoryOk State.reset ∧ State.reset.pending = [] ∧ ∀ r : Reg, State.reset.dev.reg r = r.dflt) ∧
    Shape State.reset.dev ∧ Bounded State.reset.dev

/-- Every step keeps the SRAM in its canonical form and within its addresses. -/
def Obligations.StepKeepsMemory : Prop :=
  ∀ s t : State, MemoryOk s → Machine.step s = .next t → MemoryOk t

/-- The device has 16 DMA channels, 6 converter phases, 7 snapshot groups and 5 parts of its record, and every step keeps
their numbers. -/
def Obligations.StepKeepsShape : Prop :=
  ∀ s t : State, Shape s.dev → Machine.step s = .next t → Shape t.dev

/-- The role in force holds until the next release of reset: no other command changes it. The role of the monitor die follows
lane H: it changes as VSTK rises, with the role-change reset, and to member with the loss of lane H and on the ways out of ship
mode; it becomes head only of a device in the head role whose lane H runs. -/
def Obligations.RoleOnlyAtRelease : Prop :=
  ∀ (c : Instr) (s t : State), (∀ (h : Bool) (mv : Nat), c ≠ .resetRelease h mv) → Machine.exec c s = .next t →
    t.dev.pwr.role = s.dev.pwr.role
      ∧ (t.dev.pwr.monRole ≠ s.dev.pwr.monRole → (∃ mv, c = .hvPowerOn mv) ∨ c = .roleChangeReset
          ∨ (c = .laneHLoss ∨ (∃ mv, c = .vlogRise mv) ∨ ∃ bit, c = .shipExit bit) ∧ t.dev.pwr.monRole = .member)
      ∧ (t.dev.pwr.monRole = .head → s.dev.pwr.monRole = .head ∨ s.dev.pwr.role = .head ∧ s.dev.pwr.laneH = true)

/-- The queues that the manual bounds stay bounded: 16 emergency frames and 64 log entries. No address that is assigned, that is
being assigned or that a pass has assigned lies beyond 4094. -/
def Obligations.StepKeepsBounds : Prop :=
  ∀ s t : State, Bounded s.dev → Machine.step s = .next t → Bounded t.dev

/-! ## Supplies, resets, roles and start-up (chapters 1 to 3) -/

/-- The supplies: VSTK, VLOG, VIO and the KA island come and go as measured, and a voltage beyond Table 16.1 stops the
machine (the model's choice, assumption 7). Where the manual leaves a point open it follows the model's choices (assumptions
13, 14, 19, 27, 89, 90, 105 and 133). -/
def Obligations.SupplyCommands : Prop :=
  ∀ s : State,
    (∀ mv, 7000 ≤ mv → mv ≤ 135000 → s.dev.pwr.vstk = false →
      Runs (.hvPowerOn mv) s fun t => t.dev.pwr.vstk = true ∧ t.dev.pwr.trimLoaded = true
        ∧ t.dev.pwr.hv = (if s.dev.pwr.laneH then .active else .rolePending)
        ∧ t.dev.pwr.laneU = true ∧ t.dev.reg Reg.monPowerMode = (if s.dev.pwr.laneH then 1 else 3) ∧ t.dev.bit Reg.monResetCause 0 = true
        ∧ t.mem = s.mem ∧ ∀ r : Reg, isMonKey r.key = false → r.key ≠ Reg.supplyStatus.key → t.dev.reg r = s.dev.reg r) ∧
    (∀ mv, 135000 < mv → Machine.exec (.hvPowerOn mv) s = .fault (.beyondAbsoluteMaximum "VSTK")) ∧
    (s.dev.pwr.vstk = true →
      Runs .hvReset s fun t => t.dev.pwr.vstk = false ∧ t.dev.pwr.hv = .inReset ∧ t.dev.pwr.trimLoaded = false
        ∧ t.mem = s.mem
        ∧ (∀ r : Reg, isMonKey r.key = true → r.key ≠ Reg.wireGaugeState.key → r.key ≠ Reg.impState.key →
            t.dev.reg r = r.dflt)
        ∧ (s.dev.nat Reg.wireGaugeState = 1 → t.dev.reg Reg.wireGaugeState = 3)
        ∧ (s.dev.bal.run.isSome = true → t.dev.reg Reg.impState = 6)
        ∧ ∀ r : Reg, isMonKey r.key = false → these [Reg.supplyStatus, Reg.startupState, Reg.chainState] r.key = false →
            t.dev.reg r = s.dev.reg r) ∧
    (∀ mv, 4400 ≤ mv → mv ≤ 65000 → s.dev.pwr.vlog = false → s.dev.pwr.shipLatched = false →
      Runs (.vlogRise mv) s fun t => t.dev.pwr.vlog = true ∧ t.dev.pwr.logic = .inReset ∧ t.dev.pwr.ka = .vlog
        ∧ t.dev.bit Reg.resetCause 0 = true ∧ Keeps (these [Reg.kaOutState, Reg.kaChargeState, Reg.kaChargeCurrent, Reg.resetCause, Reg.supplyStatus]) s t) ∧
    (∀ mv, 4400 ≤ mv → mv ≤ 65000 → s.dev.pwr.vlog = true →
      Runs (.vlogRise mv) s fun t => t.dev.pwr.vlogLow = false ∧ t.dev.bit Reg.supplyStatus 2 = false
        ∧ t.dev.pwr.logic = s.dev.pwr.logic ∧ Keeps (these [Reg.supplyStatus]) s t) ∧
    (∀ mv, 65000 < mv → Machine.exec (.vlogRise mv) s = .fault (.beyondAbsoluteMaximum "VLOG")) ∧
    (s.dev.pwr.vlog = true → s.dev.pwr.vlogLow = false →
      Runs .vlogLowWarning s fun t => t.dev.pwr.vlogLow = true ∧ t.dev.bit Reg.supplyStatus 2 = true
        ∧ (s.dev.cpuLive = true → Raised 34 t) ∧ Keeps (orEvents [Reg.supplyStatus]) s t) ∧
    (∀ mv, mv ≤ 3600 →
      Runs (.vioChange mv) s fun t =>
        t.dev.pwr.vio = (if s.dev.pwr.vio then decide (1450 ≤ mv) else decide (1550 ≤ mv))
            ∧ Keeps (withinEvents [] [Reg.supplyStatus, Reg.logState, Reg.memberRequestsWaiting]) s t
        ∧ (s.dev.pwr.vio = true → mv < 1450 → t.dev.svc.canA = .reset ∧ t.dev.svc.canB = .reset ∧ t.dev.svc.spi = .reset)) ∧
    (∀ mv, 3600 < mv → Machine.exec (.vioChange mv) s = .fault (.beyondAbsoluteMaximum "VIO")) ∧
    (∀ mv, mv ≤ 5500 →
      Runs (.kaSupplyChangeover mv) s fun t => t.dev.pwr.kaBatMv = mv
        ∧ t.dev.pwr.ka = (if s.dev.pwr.vlog then .vlog else if 1800 ≤ mv then .kaBat else .none)
        ∧ t.dev.bit Reg.supplyStatus 4 = decide (2400 ≤ mv) ∧ Keeps (these [Reg.supplyStatus, Reg.kaOutState, Reg.kaChargeState, Reg.kaChargeCurrent]) s t) ∧
    (∀ mv, 5500 < mv → Machine.exec (.kaSupplyChangeover mv) s = .fault (.beyondAbsoluteMaximum "KA_BAT")) ∧
    (∀ mv, Runs (.kaBatThreshold mv) s fun t => t.dev.pwr.kaBatMv = mv
        ∧ t.dev.path.kaBatOk = (if s.dev.path.kaBatOk then decide (2400 ≤ mv) else decide (2600 ≤ mv))
        ∧ t.dev.bit Reg.supplyStatus 4 = decide (2400 ≤ mv) ∧ Keeps (these [Reg.supplyStatus, Reg.kaOutState, Reg.kaChargeState, Reg.kaChargeCurrent]) s t)

/-- The resets of the logic field (on Table 3.2: VLOG lost, RSTB_N, a safety reset that is due, HB1 off, SoftReset) lose the
SRAM and every register of the controller die but those of the KA island, ResetCause, which shows the cause, and
SupplyStatus, and the monitor die keeps its registers, samples, supervision and balancing; the power-on reset of the KA
island returns its registers to their defaults and leaves every other but ResetCause and SupplyStatus. Where the
manual leaves a point open it follows the model's choices (assumptions 2, 3, 14, 17, 25, 42, 61, 90 and 186). -/
def Obligations.LogicResets : Prop :=
  ∀ s : State,
    (s.dev.pwr.vlog = true →
      Runs .vlogLoss s fun t => LogicReset 0 [] s t ∧ t.dev.pwr.vlog = false
        ∧ t.dev.pwr.logic = (if 1800 ≤ s.dev.pwr.kaBatMv then .keepAliveOnly else .off)) ∧
    ((s.dev.logicPowered = true ∨ s.dev.pwr.logic = .inReset) →
      Runs .externalReset s fun t => LogicReset 1 [] s t ∧ t.dev.pwr.logic = .inReset ∧ t.dev.pwr.rstbLow = true) ∧
    (∀ c, s.dev.safe.resetDue = some c →
      Runs .safetyReset s fun t => LogicReset (if c = 1 then 2 else 3) [Reg.safetyResetCause, Reg.safetyResetCount] s t ∧ t.dev.pwr.logic = .inReset
        ∧ t.dev.nat Reg.safetyResetCause = c
        ∧ t.dev.reg Reg.safetyResetCount = (if s.dev.reg Reg.safetyResetCount < 0xFFFFFFFF then
            s.dev.reg Reg.safetyResetCount + 1 else s.dev.reg Reg.safetyResetCount)) ∧
    (s.dev.pwr.vlog = true → s.dev.pwr.hb1Off = false →
      Runs (.hbCurrentLimitFault false) s fun t => LogicReset 0 [] s t ∧ t.dev.pwr.logic = .inReset
          ∧ t.dev.pwr.hb1Off = true) ∧
    (∀ who, MayWrite s who Reg.softReset → byAgent who = false →
      Runs (.softReset who 0xA5A5) s fun t => LogicReset 4 [] s t ∧ t.dev.pwr.logic = .inReset) ∧
    (s.dev.pwr.vlog = false →
      Runs .kaPowerOnReset s fun t => t.dev.pwr.ka = .none ∧ t.dev.pwr.logic = .off ∧ t.dev.pwr.shipLatched = false
        ∧ t.dev.bit Reg.resetCause 6 = true ∧ t.mem = s.mem
        ∧ (∀ r : Reg, isKaKey r.key = true → t.dev.reg r = r.dflt)
        ∧ ∀ r : Reg, isKaKey r.key = false → r.key ≠ Reg.resetCause.key → r.key ≠ Reg.supplyStatus.key →
            t.dev.reg r = s.dev.reg r)

/-- The release of reset latches the role, and the monitor die takes the role that lane H reports; the loss and the return of
the lanes, the KA reference mark, the loss of the monitor die's reference, a crossing and the restart of HB1. Where the manual leaves a
point open it follows the model's choices (assumptions 13, 25 and 133). -/
def Obligations.RolesAndLanes : Prop :=
  ∀ s : State,
    (∀ headEn mv, s.dev.pwr.vlog = true → s.dev.pwr.logic = .inReset → s.dev.pwr.hb1Off = false →
      Runs (.resetRelease headEn mv) s fun t =>
        t.dev.pwr.role = (if headEn = true ∧ 4500 ≤ mv ∧ mv ≤ 60000 then .head else .member)
        ∧ t.dev.pwr.logic = .startup ∧ t.dev.pwr.rstbLow = false ∧ t.dev.reg Reg.startupState = 1
        ∧ t.dev.reg Reg.powerMode = 0 ∧ t.mem = s.mem ∧ ∀ r : Reg, isMonKey r.key = true → t.dev.reg r = s.dev.reg r) ∧
    (s.dev.pwr.vstk = true → (s.dev.pwr.hv = .active ∨ s.dev.pwr.hv = .sleep ∨ s.dev.pwr.hv = .rolePending) →
      Runs .roleChangeReset s fun t => t.dev.pwr.monRole = s.dev.reportedRole
        ∧ (s.dev.pwr.laneH = false → t.dev.pwr.monRole = .member)
        ∧ (s.dev.pwr.laneH = true → s.dev.logicPowered = true → t.dev.pwr.monRole = s.dev.pwr.role) ∧ t.dev.pwr.hv = .active
        ∧ t.dev.link.address = 0 ∧ t.dev.samp.untimed = true ∧ t.dev.reg Reg.monPowerMode = 1
        ∧ t.dev.bit Reg.monResetCause 1 = true ∧ t.mem = s.mem
        ∧ ∀ r : Reg, isMonKey r.key = false → r.key ≠ Reg.supplyStatus.key → t.dev.reg r = s.dev.reg r) ∧
    (Runs .laneHLoss s fun t => t.dev.pwr.laneH = false ∧ Keeps (within [(0x2E01, 0x2E03), (0x3001,
        0x3018)] [Reg.supplyStatus, Reg.monPowerMode, Reg.selfCalState, Reg.bufferState, Reg.impState,
        Reg.openWireState, Reg.wireGaugeState, Reg.ovLive, Reg.uvLive, Reg.linkStatus]) s t
        ∧ (s.dev.monHead = true → s.dev.pwr.hv = .active → t.dev.pwr.hv = .sleep ∧ t.dev.reg Reg.monPowerMode = 2)
        ∧ (s.dev.pwr.hv = .rolePending → t.dev.pwr.hv = .active ∧ t.dev.pwr.monRole = .member
            ∧ t.dev.reg Reg.monPowerMode = 1)
        ∧ (s.dev.monHead = false → s.dev.pwr.hv ≠ .rolePending → t.dev.pwr.hv = s.dev.pwr.hv)) ∧
    (Runs .laneFLoss s fun t => t.dev.pwr.laneF = false ∧ Keeps tripKey s t
        ∧ (s.dev.cpuLive = true → s.dev.safe.laneFJudged = true → s.dev.bit Reg.activeFaults 1 = false →
            t.dev.bit Reg.activeFaults 1 = true ∧ t.dev.bit Reg.tripCause 1 = true ∧ Raised 96 t)) ∧
    (s.dev.pwr.laneU = true →
      Runs .laneFReturn s fun t => t.dev.pwr.laneF = true ∧ Keeps (within [] [Reg.activeFaults, Reg.safetyState,
          Reg.dischargeLimitInForce]) s t
        ∧ (s.dev.cpuLive = true → t.dev.bit Reg.activeFaults 1 = false)) ∧
    (∀ n, s.dev.monHead = true → s.dev.pwr.laneH = true → s.dev.monLive = true → s.dev.kaActive = true →
      Runs (.kaReferenceMark n) s fun t => t.dev.pwr.markCycles = n ∧ t.dev.pwr.crystal = true
        ∧ Keeps (these [Reg.supplyStatus]) s t) ∧
    (s.dev.monLive = true →
      Runs .monReferenceLost s fun t => t.dev.pwr.monLocked = false ∧ t.dev.bit Reg.supplyStatus 7 = false
        ∧ (s.dev.cpuLive = true → Raised 13 t) ∧ Keeps (orEvents [Reg.supplyStatus]) s t) ∧
    (∀ src dst w, s.dev.islandOn (islandCode src) = true → s.dev.islandOn (islandCode dst) = true →
      Runs (.crossingRequest src dst w) s fun t => (islandCode src * 16 + islandCode dst, w) ∈ t.dev.pwr.crossings
        ∧ Keeps (these []) s t) ∧
    (Runs (.hbRestart false) s fun t => t.dev.pwr.hb1Off = false ∧ Keeps (these []) s t) ∧
    (Runs (.hbRestart true) s fun t => t.dev.conv.hb2Off = false ∧ Keeps (these []) s t)

/-- The eight steps of start-up (on Table 3.6): each ends with its own command and StartupState shows the next. Where the
manual leaves a point open it follows the model's choices (assumptions 16, 20, 22 and 92). -/
def Obligations.StartupSteps : Prop :=
  ∀ s : State,
    (∀ rom sram, s.dev.atStep 1 = true →
      Runs (.startupSelfTest rom sram) s fun t => t.dev.reg Reg.startupState = 2
        ∧ t.dev.nat Reg.startupSelfTest = (if rom then 0 else 1) + (if sram then 0 else 2)
        ∧ t.dev.bit Reg.activeFaults 27 = !(rom && sram) ∧ Keeps (withinEvents [] [Reg.startupState,
            Reg.startupSelfTest, Reg.safetyState, Reg.dischargeLimitInForce, Reg.activeFaults, Reg.faultLatched]) s t) ∧
    (∀ rom sram, s.dev.pwr.role = .member → s.dev.pwr.logic = .startup →
      Runs (.startupSelfTest rom sram) s fun t => t.dev.pwr.logic = .active ∧ Keeps (these []) s t) ∧
    (∀ dev, s.dev.atStep 2 = true →
      Runs (.framScan dev) s fun t => t.dev.reg Reg.startupState = 3 ∧ t.dev.stor.nand = dev.isSome
        ∧ (∀ n, dev = some n → t.dev.stor.factoryBad = n.factoryBad) ∧ t.dev.stor.journal = none
        ∧ t.dev.svc.portA.enabled = t.dev.on (Reg.canEnable 0) ∧ t.dev.svc.portB.enabled = t.dev.on (Reg.canEnable 1)
        ∧ t.dev.svc.spiEnabled = t.dev.on Reg.spiEnable ∧ t.mem = s.mem
        ∧ KeepsRegs (fun k => (isKept k && !isMonKey k) || tripKey k || within [(0x5800,
            0x5810)] [Reg.startupState, Reg.checkValueConfirmed, Reg.confirmState, Reg.kaOutState, Reg.busState 0,
            Reg.busState 1] k) s t) ∧
    (s.dev.atStep 3 = true → s.dev.pwr.vstk = true → s.dev.pwr.laneU = true → s.dev.monLive = true → s.dev.monHead = true →
      Runs .monitorDieReady s fun t => t.dev.reg Reg.startupState = 4 ∧ t.dev.safe.laneFJudged = true
        ∧ t.dev.pwr.laneF = true ∧ t.dev.bit Reg.activeFaults 1 = false
        ∧ Keeps (within [] [Reg.startupState, Reg.safetyState, Reg.dischargeLimitInForce, Reg.activeFaults,
            Reg.faultLatched]) s t) ∧
    (s.dev.monLive = true → s.dev.monReference = true →
      Runs .monLock s fun t => t.dev.pwr.monLocked = true ∧ t.dev.bit Reg.supplyStatus 7 = true
        ∧ ((s.dev.atStep 4 = true ∧ s.dev.pwr.startupTempDone = true ∨ s.dev.atStep 0xF0 = true) → t.dev.reg Reg.startupState = 5)
        ∧ Keeps (these [Reg.supplyStatus, Reg.startupState]) s t) ∧
    (s.dev.atStep 4 = true → s.dev.pwr.monLocked = false →
      Runs .crystalTimeout s fun t => t.dev.reg Reg.startupState = 0xF0 ∧ Raised 13 t
        ∧ Keeps (orEvents [Reg.startupState]) s t) ∧
    (s.dev.atStep 5 = true → s.dev.monLive = true → s.dev.monHead = true →
      Runs .fieldConfigLoad s fun t => t.dev.reg Reg.startupState = 6 ∧ t.dev.pwr.fieldLoaded = true
        ∧ t.dev.on Reg.fieldConfigState = (s.dev.stor.headImage.inForce s.dev.stor.generation).isSome ∧ t.mem = s.mem
        ∧ KeepsRegs (fun k => isKept k && isMonKey k || within [(0x2E01, 0x2E03), (0x3101, 0x3108)] [Reg.startupState,
            Reg.fieldConfigState, Reg.gaugeSetsInUse, Reg.chainState, Reg.linkRateInForce, Reg.selfCalState,
            Reg.mirrorState 1, Reg.memberSerial 1, Reg.channelCount 1, Reg.bufferState, Reg.auxRefSettled,
            Reg.counterStatus] k) s t) ∧
    (s.dev.monLive = true → s.dev.monHead = false → s.dev.link.address ≠ 0 → s.dev.atStep 5 = false →
      Runs .fieldConfigLoad s fun t => t.dev.reg Reg.fieldConfigState = 1 ∧ Keeps (these [Reg.fieldConfigState]) s t) ∧
    (∀ us, s.dev.atStep 7 = true → s.dev.admissionOpen = false →
      Runs (.startupComplete us) s fun t => t.dev.reg Reg.startupState = 8 ∧ t.dev.reg Reg.powerMode = 1
        ∧ t.dev.pwr.logic = .active ∧ t.dev.nat Reg.startupTime = min us 0xFFFFFFFF
        ∧ t.dev.nat Reg.degradedRemaining = s.dev.nat Reg.degradedTime
        ∧ Keeps (fun k => tripKey k || these [Reg.startupState, Reg.powerMode, Reg.startupTime,
            Reg.degradedRemaining, Reg.checkValueComputed, Reg.confirmState] k) s t)

/-- Sleep, ship mode and waking (on R73 to R76, R328, R329): an enabled wake source abandons a sleep entry. Where the manual leaves a point open it follows the model's
choices (assumptions 15, 18, 24, 107, 176 and 187). -/
def Obligations.SleepAndWake : Prop :=
  ∀ s : State,
    (∀ who, MayWrite s who Reg.powerModeRequest → s.dev.sleepAllowed = true →
      Runs (.sleepRequest who) s fun t => t.dev.reg Reg.powerMode = 2
        ∧ t.dev.pwr.logic = .sleepEntry ∧ t.dev.pwr.closing = (s.dev.pwr.closing || !(s.dev.drivesRows && s.dev.nat Reg.chainState != 0))
        ∧ t.dev.pwr.shipEntry = false ∧ Keeps (fun k => answerKey k || withinEvents [(0x1100, 0x1100), (0x2E01,
            0x2E03), (0x3001, 0x3018), (0x4000, 0x4000), (0x4101, 0x4106), (0x4400, 0x4400), (0x4600, 0x4600), (0x5800,
            0x5810)] [Reg.supplyStatus, Reg.wakeSource, Reg.chainState, Reg.commitsRefused, Reg.lastRefusal,
            Reg.commitsDone, Reg.monPowerMode, Reg.selfCalState, Reg.bufferState, Reg.impState, Reg.openWireState,
            Reg.wireGaugeState, Reg.ovLive, Reg.uvLive, Reg.safetyState, Reg.dischargeLimitInForce, Reg.linkStatus,
            Reg.memberRequestsWaiting] k) s t) ∧
    (∀ who, MayWrite s who Reg.powerModeRequest → s.dev.sleepAllowed = false →
      Runs (.sleepRequest who) s fun t => Keeps (orAnswer []) s t ∧ t.dev.pwr = s.dev.pwr) ∧
    (∀ who, MayWrite s who Reg.powerModeRequest → s.dev.shipAllowed = true →
      Runs (.shipRequest who) s fun t => t.dev.reg Reg.powerMode = 2
        ∧ t.dev.pwr.logic = .sleepEntry ∧ t.dev.pwr.shipEntry = true ∧ t.dev.pwr.shipLatched = s.dev.pwr.shipLatched
        ∧ t.dev.pwr.closing = (s.dev.pwr.closing || !(s.dev.drivesRows && s.dev.nat Reg.chainState != 0))
        ∧ Keeps (fun k => answerKey k || withinEvents [(0x1100, 0x1100), (0x2E01, 0x2E03), (0x3001, 0x3018), (0x4000,
            0x4000), (0x4101, 0x4106), (0x4400, 0x4400), (0x4600, 0x4600), (0x5800, 0x5810)] [Reg.supplyStatus,
            Reg.lastShipExit, Reg.chainState, Reg.commitsRefused, Reg.lastRefusal, Reg.commitsDone, Reg.monPowerMode,
            Reg.selfCalState, Reg.bufferState, Reg.impState, Reg.openWireState, Reg.wireGaugeState, Reg.ovLive,
            Reg.uvLive, Reg.safetyState, Reg.dischargeLimitInForce, Reg.linkStatus, Reg.kaOutState, Reg.kaChargeState,
            Reg.kaChargeCurrent] k) s t) ∧
    (s.dev.pwr.role = .head → s.dev.pwr.logic = .sleepEntry → s.dev.pwr.closing = true → s.dev.nat Reg.logState = 2 →
        s.dev.stor.jobs = [] → s.dev.stor.logQueue = [] → s.dev.stor.openPage ≠ [] → s.dev.stor.closeDue = true →
        s.dev.pageReady = true → s.dev.stor.ended = none →
      (∀ first second, s.dev.commitCause first.cresMv first.ecc = 0 → first.stop = none →
          s.dev.commitCause second.cresMv second.ecc = 0 → second.stop = none →
        Runs (.logPageProgram .ok first second) s fun t => t.dev.stor.openPage = []
          ∧ (s.dev.stor.erasedSkein ≠ some (s.dev.stor.nextBlock / 8) → t.dev.pwr.closing = false
              ∧ t.dev.pwr.logic = (if s.dev.pwr.shipEntry then .ship else .sleep))
          ∧ (s.dev.stor.erasedSkein = some (s.dev.stor.nextBlock / 8) → t.dev.pwr = s.dev.pwr
              ∧ t.dev.stor.jobs = [.skeinIndex (s.dev.stor.nextBlock / 32) 1])) ∧
      (∀ r first second, s.dev.commitCause first.cresMv first.ecc ≠ 0 →
        Runs (.logPageProgram r first second) s fun t => t.dev.stor.openPage = s.dev.stor.openPage ∧ t.dev.pwr.closing = false
          ∧ t.dev.pwr.logic = (if s.dev.pwr.shipEntry then .ship else .sleep))) ∧
    (∀ bit, bit ≤ 8 → s.dev.pwr.role = .head → s.dev.pwr.logic = .sleep →
      Runs (.wakeSource bit) s fun t => t.dev.bit Reg.wakeSource bit = true
        ∧ t.dev.pwr.wakeDue = (s.dev.pwr.wakeDue || bit == 6 || s.dev.bit Reg.wakeEnable bit)
        ∧ Keeps (these [Reg.wakeSource]) s t) ∧
    (∀ bit, bit ≤ 8 → s.dev.pwr.role = .head → s.dev.pwr.logic = .sleepEntry → s.dev.pwr.shipEntry = false →
      Runs (.wakeSource bit) s fun t => t.dev.bit Reg.wakeSource bit = true
        ∧ ((bit = 6 ∨ s.dev.bit Reg.wakeEnable bit = true) → t.dev.pwr.logic = .active ∧ t.dev.reg Reg.powerMode = 1
            ∧ t.dev.pwr.closing = false)
        ∧ (bit ≠ 6 → s.dev.bit Reg.wakeEnable bit = false → t.dev.pwr = s.dev.pwr ∧ t.dev.reg Reg.powerMode = s.dev.reg Reg.powerMode)
        ∧ t.dev.chain = s.dev.chain ∧ Keeps (these [Reg.wakeSource, Reg.powerMode]) s t) ∧
    (s.dev.pwr.logic = .sleep → s.dev.pwr.role = .head → s.dev.pwr.wakeDue = true →
      Runs .warmWake s fun t => t.dev.pwr.logic = .active ∧ t.dev.reg Reg.powerMode = 1 ∧ t.dev.pwr.wakeDue = false
        ∧ t.dev.ctl.irqHeld = none ∧ Keeps (withinEvents [(0x2E01, 0x2E03), (0x3001, 0x3018)] [Reg.powerMode,
            Reg.monPowerMode, Reg.chainState, Reg.linkRateInForce, Reg.ovLive, Reg.uvLive, (Reg.mirrorState 1),
            (Reg.memberSerial 1), (Reg.channelCount 1), Reg.channelSettling, Reg.currentStatus 1, Reg.currentStatus 2,
            Reg.linkStatus, Reg.memberRequestsWaiting, Reg.topology]) s t) ∧
    (s.dev.monLive = true → s.dev.monHead = false → s.dev.on Reg.rowLossSleep = true →
      Runs .rowLossSleep s fun t => t.dev.pwr.hv = .sleep ∧ t.dev.reg Reg.monPowerMode = 2
          ∧ Keeps (within [(0x2E01, 0x2E03), (0x3001, 0x3018)] [Reg.monPowerMode, Reg.selfCalState, Reg.bufferState,
          Reg.impState, Reg.openWireState, Reg.wireGaugeState, Reg.ovLive, Reg.uvLive, Reg.linkStatus]) s t
        ∧ ∀ p : Port, t.dev.reg (Reg.portState p.num) = 1) ∧
    (∀ p : Port, s.dev.pwr.hv = .sleep → s.dev.monHead = false → s.dev.nat (Reg.portState p.num) = 1 →
      Runs (.lineActivityWake p) s fun t => t.dev.pwr.hv = .active ∧ t.dev.reg Reg.monPowerMode = 1
          ∧ Keeps (within [(0x2E01, 0x2E03), (0x3001, 0x3018)] [Reg.monPowerMode, Reg.ovLive, Reg.uvLive, Reg.channelSettling,
              Reg.currentStatus 1, Reg.currentStatus 2]) s t
        ∧ ∀ q : Port, t.dev.reg (Reg.portState q.num) = 2) ∧
    (∀ bit, bit ≤ 2 → s.dev.pwr.logic = .ship → s.dev.pwr.shipLatched = true → s.dev.pwr.ka ≠ .none →
        s.dev.pwr.vlog = true →
      Runs (.shipExit bit) s fun t => KeepsRegs (fun k => !isKaKey k || k == Reg.lastShipExit.key) s t ∧ t.mem = []
          ∧ t.dev.pwr.logic = .inReset ∧ t.dev.pwr.shipLatched = false
        ∧ t.dev.bit Reg.resetCause 5 = true ∧ (s.dev.on Reg.lastShipExit = false → t.dev.bit Reg.lastShipExit bit = true)) ∧
    (∀ bit, bit ≤ 2 → s.dev.pwr.logic ≠ .sleepEntry → s.dev.pwr.shipLatched = true → s.dev.pwr.ka ≠ .none →
        s.dev.pwr.vlog = false →
      Runs (.shipExit bit) s fun t => t.dev.pwr.shipExit = true
        ∧ (s.dev.on Reg.lastShipExit = false → t.dev.bit Reg.lastShipExit bit = true)
        ∧ Keeps (these [Reg.lastShipExit]) s t)

/-! ## Snapshots (R31 to R36) -/

/-- The snapshot groups: a requested or automatic latch of a group without an open read fills the bank that readers do not
see and turns the banks; while any reader's read is open an automatic latch is skipped and counted; a reader's first word
opens its read beside the others, and the hold limit closes the read that has been open longest. -/
def Obligations.Snapshots : Prop :=
  ∀ s : State,
    (∀ who v g, MayWrite s who Reg.snapLatch → s.dev.snaps.length = 7 → v ≤ 0x7F → g < 7 → v.testBit g = true →
        s.dev.groupExists g = true → s.dev.ownerRuns g = true →
      Runs (.snapLatch who v) s fun t => (t.dev.group g).requested = true ∧ (t.dev.group g).bank = (s.dev.group g).bank
        ∧ Keeps (orAnswer []) s t) ∧
    (∀ g, s.dev.snaps.length = 7 → g < 7 → s.dev.groupExists g = true → s.dev.ownerRuns g = true →
        (g = 0 → s.dev.samp.tickRow % 8 = 0) → (s.dev.group g).readers = [] →
        (s.dev.bit Reg.snapAuto g = true ∨ (s.dev.group g).requested = true) →
      Runs (.snapshotLatchInstant g) s fun t => (t.dev.group g).seq = ((s.dev.group g).seq + 1) % 2 ^ 32
        ∧ (t.dev.group g).bank = [((s.dev.group g).seq + 1) % 2 ^ 32] ++ s.dev.groupContent g
            ++ [((s.dev.group g).seq + 1) % 2 ^ 32]
        ∧ (t.dev.group g).requested = false ∧ t.dev.bit Reg.snapReady g = true
        ∧ (s.dev.cpuLive = true → Raised (14 + g) t) ∧ Keeps (orEvents [Reg.snapReady]) s t) ∧
    (∀ g, s.dev.snaps.length = 7 → g < 7 → s.dev.groupExists g = true → s.dev.ownerRuns g = true →
        (g = 0 → s.dev.samp.tickRow % 8 = 0) → (s.dev.group g).readers ≠ [] → s.dev.bit Reg.snapAuto g = true →
      Runs (.snapshotLatchInstant g) s fun t => t.dev.group g = s.dev.group g
        ∧ t.dev.reg Reg.snapSkipped = (if s.dev.reg Reg.snapSkipped < 0xFFFFFFFF then s.dev.reg Reg.snapSkipped + 1
            else s.dev.reg Reg.snapSkipped) ∧ Keeps (these [Reg.snapSkipped]) s t) ∧
    (∀ g n, s.dev.snaps.length = 7 → s.dev.groupExists g = true →
      Runs (.snapshotReadOpen g n) s fun t => (t.dev.group g).readers = (if (s.dev.group g).readers.contains (16 + n)
            then (s.dev.group g).readers else (s.dev.group g).readers ++ [16 + n])
        ∧ (t.dev.group g).bank = (s.dev.group g).bank ∧ t.dev.bit Reg.snapReady g = false ∧ Keeps (these [Reg.snapReady]) s t) ∧
    (∀ g r rest, s.dev.snaps.length = 7 → g < 7 → (s.dev.group g).readers = r :: rest →
      Runs (.snapshotHoldExpiry g) s fun t => (t.dev.group g).readers = rest.filter (fun x => x != r)
        ∧ (t.dev.group g).bank = (s.dev.group g).bank ∧ Keeps (these []) s t)

/-! ## Cell and current sampling (chapter 4) -/

/-- The tick and the channels: what a tick, its loss and its return, a change of the filter, of the stream rate and of the
channel set, and the end of a settling time leave. Where the manual leaves a point open it follows the model's choices
(assumptions 150, 177 and 193). -/
def Obligations.TickAndChannels : Prop :=
  ∀ s : State, s.dev.monLive = true →
    (Runs .sampleTick s fun t => t.dev.samp.tickPending = true
        ∧ t.dev.samp.tickRow = (if s.dev.monHead || (!s.dev.samp.untimed && s.dev.samp.markNew) then s.dev.row
            else (s.dev.samp.tickRow + 1) % 2 ^ 32)
        ∧ t.dev.samp.ownTick = none ∧ (s.dev.samp.ownTick = none → Keeps (these [Reg.linkStatus, Reg.tickAlign]) s t)
        ∧ Keeps (withinEvents [(0x3600, 0x3600), (0x3610, 0x3611), (0x3001, 0x3018), (0x2011,
            0x2012)] [Reg.linkStatus, Reg.tickAlign, Reg.overRangeCount]) s t) ∧
    (s.dev.monHead = false →
      Runs .tickLost s fun t => t.dev.samp.untimed = true ∧ t.dev.bit Reg.linkStatus 0 = false
        ∧ t.dev.bit Reg.linkStatus 1 = false ∧ (s.dev.cpuLive = true → Raised 12 t)
        ∧ Keeps (orEvents [Reg.linkStatus]) s t) ∧
    (∀ row, s.dev.monHead = false → s.dev.samp.untimed = true → s.dev.samp.cells ≤ 24 → s.dev.samp.ownTick = none →
      Runs (.tickReturn row false) s fun t => Keeps (fun k => channelKey k || within [] [Reg.channelSettling,
          Reg.linkStatus, Reg.tickAlign] k) s t ∧ t.dev.samp.untimed = false ∧ t.dev.samp.tickRow = row % 2 ^ 32
        ∧ t.dev.samp.tickPending = true ∧ t.dev.bit Reg.linkStatus 0 = true
        ∧ (∀ c, c < s.dev.samp.cells → t.dev.bit Reg.channelSettling c = true
            ∧ t.dev.bit (Reg.cellStatus (c + 1)) 1 = true)) ∧
    (∀ o, s.dev.samp.ownTick = some o → ∀ row, s.dev.monHead = false → s.dev.samp.untimed = true →
      (Runs (.tickReturn row true) s fun t => t.dev.samp.untimed = false ∧ t.dev.samp.tickRow = row % 2 ^ 32
        ∧ t.dev.samp.tickPending = true ∧ t.dev.samp.ownTick = none ∧ t.dev.samp.wide = s.dev.samp.wide
        ∧ t.dev.samp.frames = s.dev.samp.frames ∧ t.dev.bal = s.dev.bal ∧ t.dev.sup = s.dev.sup
        ∧ Keeps (fun k => channelKey k || these [Reg.channelSettling, Reg.linkStatus, Reg.tickAlign] k) s t) ∧
      (Runs (.tickReturn row false) s fun t => t.dev.samp.untimed = false ∧ t.dev.samp.tickRow = row % 2 ^ 32
        ∧ t.dev.samp.tickPending = true ∧ t.dev.samp.ownTick = none
        ∧ (∀ c, c < 26 → s.dev.channelOn c = true →
            nthInt t.dev.samp.wide c = clipChannel c (gaugeCorrect (nthInt s.dev.samp.offsets c)
              (s.dev.samp.gains.getD c (2 ^ 30)) (nthInt o.raw c)))
        ∧ Keeps (withinEvents [(0x3600, 0x3600), (0x3610, 0x3611), (0x3001, 0x3018), (0x2011,
            0x2012)] [Reg.channelSettling, Reg.linkStatus, Reg.tickAlign, Reg.overRangeCount]) s t)) ∧
    (∀ c, c < 26 →
      Runs (.settlingEnd c) s fun t => t.dev.bit Reg.channelSettling c = false ∧ t.dev.bit (channelStatus c) 1 = false
        ∧ Keeps (these [Reg.channelSettling, channelStatus c]) s t) ∧
    (∀ c, s.dev.samp.corner = some c → s.dev.samp.tickRow % 8 = 0 →
      Runs .filterCornerApply s fun t => Keeps (fun k => channelKey k || within [] [Reg.filterInForce,
          Reg.channelSettling] k) s t ∧ t.dev.nat Reg.filterInForce = c ∧ t.dev.samp.corner = none
        ∧ ∀ k, k < 26 → s.dev.channelOn k = true → t.dev.bit Reg.channelSettling k = true) ∧
    (∀ c, s.dev.samp.stream = some c → s.dev.samp.tickRow % 64 = 0 →
      Runs .streamRateApply s fun t => t.dev.nat Reg.streamRateInForce = c ∧ t.dev.samp.stream = none
        ∧ Keeps (these [Reg.streamRateInForce]) s t) ∧
    (s.dev.nat Reg.cellCount ≠ s.dev.samp.cells → s.dev.nat Reg.cellCount ≤ 24 →
        (if s.dev.monHead = true ∨ field (s.dev.nat Reg.windowAssignment) 0 6 = 0x7F then s.dev.samp.tickRow % 8 = 0
          else s.dev.samp.tickRow % 64 = 0) →
      Runs .channelSetApply s fun t => Keeps (within [(0x3001, 0x3018), (0x2011, 0x2012)] [Reg.channelSettling,
          Reg.balRequest, Reg.balActive, Reg.counterStatus, Reg.ovLive, Reg.uvLive, Reg.impState,
          Reg.wireGaugeState, Reg.channelCount 1]) s t ∧ t.dev.samp.cells = s.dev.nat Reg.cellCount
        ∧ t.dev.samp.cs1 = s.dev.on (Reg.currentEnable 1) ∧ t.dev.samp.cs2 = s.dev.on (Reg.currentEnable 2)
        ∧ ∀ c, s.dev.nat Reg.cellCount ≤ c → c < 24 →
            t.dev.reg (Reg.cellVoltage (c + 1)) = 0 ∧ t.dev.reg (Reg.cellStatus (c + 1)) = 8)

/-- One decimator output gives every channel in use its corrected and clipped value of R131 on the wide tap, and with the
corner filter bypassed, nothing held and no compensation the same on the narrow tap; a channel out of use gives 0. The sample
buffer (on R98, R99): an enabled trigger whose cause holds while filling, the end of the frames after it, and rearming. The
output at a tick by a member's own clock waits, and no register shows it (on R38). Where the manual leaves a point open it
follows the model's choices (assumptions 73, 150 and 177). -/
def Obligations.OutputsAndBuffer : Prop :=
  (∀ (s : State) (raw mirror vds : List Int), s.dev.monLive = true → s.dev.samp.tickPending = true → s.dev.ownClock = true →
      s.dev.samp.ownTick = none →
      Runs (.decimatorOutput raw mirror vds) s fun t => t.dev.samp.tickPending = false
        ∧ t.dev.samp.ownTick = some ⟨raw, mirror, vds⟩ ∧ t.dev.samp.wide = s.dev.samp.wide
        ∧ t.dev.samp.frames = s.dev.samp.frames ∧ t.dev.bal = s.dev.bal ∧ t.dev.sup = s.dev.sup ∧ Keeps (these []) s t) ∧
  (∀ (s : State) (raw mirror vds : List Int), s.dev.monLive = true → (s.dev.samp.tickPending && s.dev.ownClock) = false →
      Runs (.decimatorOutput raw mirror vds) s fun t =>
        Keeps (withinEvents [(0x3600, 0x3600), (0x3610, 0x3611), (0x3001, 0x3018), (0x2011,
            0x2012)] [Reg.overRangeCount]) s t ∧ t.dev.samp.tickPending = false ∧ t.dev.samp.wide.length = 26
            ∧ t.dev.samp.narrow.length = 26 ∧
        (∀ c, c < 26 → s.dev.channelOn c = false → nthInt t.dev.samp.wide c = 0 ∧ nthInt t.dev.samp.narrow c = 0) ∧
        (∀ c, c < 26 → s.dev.channelOn c = true →
          nthInt t.dev.samp.wide c = clipChannel c (gaugeCorrect (nthInt s.dev.samp.offsets c)
            (s.dev.samp.gains.getD c (2 ^ 30)) (nthInt raw c))) ∧
        (∀ c, c < 26 → s.dev.channelOn c = true → s.dev.nat Reg.filterInForce = 4 → s.dev.samp.held = none →
          s.dev.on Reg.balHeld = false → s.dev.nat Reg.balModeInForce ≠ 1 → nthInt t.dev.samp.narrow c = nthInt t.dev.samp.wide c)) ∧
  (∀ s : State,
      (∀ n, s.dev.nat Reg.bufferState = 1 → n < 4 → s.dev.bit Reg.bufferTrigger n = true →
          s.dev.triggerCause n = true →
        Runs (.bufferTrigger n) s fun t => t.dev.reg Reg.bufferState = 2
            ∧ t.dev.nat Reg.bufferTriggerRow = s.dev.samp.tickRow
          ∧ t.dev.samp.postLeft = s.dev.nat Reg.bufferPostFrames
          ∧ Keeps (these [Reg.bufferState, Reg.bufferTriggerRow]) s t) ∧
      (s.dev.nat Reg.bufferState = 2 → s.dev.samp.postLeft = 0 →
        Runs .bufferFreeze s fun t => t.dev.reg Reg.bufferState = 3
          ∧ t.dev.nat Reg.bufferFirstFrame = (s.dev.samp.framePos + 1213 - s.dev.samp.frames.length) % 1213
          ∧ t.dev.samp.frames = s.dev.samp.frames ∧ Keeps (these [Reg.bufferState, Reg.bufferFirstFrame]) s t) ∧
      (∀ who, MayWrite s who Reg.bufferCommand → s.dev.on Reg.bufferMode = true →
        Runs (.bufferRearm who) s fun t => t.dev.reg Reg.bufferState = 1 ∧ t.dev.samp.frames = s.dev.samp.frames
          ∧ Keeps (orAnswer [Reg.bufferState]) s t))

/-- The auxiliary converters' passes, urgent conversions and references (on R102 to R106), the scans' thermistor extremes
(on R129) and the self-calibration (on R108). Where the manual leaves a point open it follows the model's choices
(assumptions 12, 104, 108, 160, 161 and 192). -/
def Obligations.AuxiliaryConverters : Prop :=
  ∀ s : State,
    (∀ who, MayWrite s who Reg.auxStart → s.dev.samp.auxA.pass = none → s.dev.samp.auxB.pass = none →
        s.dev.nat Reg.auxMode = 1 → s.dev.monLive = true → s.dev.calibrating = false →
      Runs (.auxStart who 1) s fun t =>
        (s.dev.passInputs false ≠ [] → t.dev.samp.auxA.pass = some (s.dev.passInputs false)) ∧
        (s.dev.passInputs true ≠ [] → t.dev.samp.auxB.pass = some (s.dev.passInputs true)) ∧ Keeps (orAnswer []) s t) ∧
    (∀ who, MayWrite s who Reg.auxStart → s.dev.samp.auxA.pass ≠ none →
      Runs (.auxStart who 1) s fun t => t.dev.samp = s.dev.samp ∧ Keeps (orAnswer []) s t) ∧
    (s.dev.monLive = true → s.dev.nat Reg.auxMode = 3 → s.dev.calibrating = false → s.dev.nat Reg.auxPace ≠ 0 →
        s.dev.samp.tickRow % s.dev.nat Reg.auxPace = 0 → s.dev.samp.auxA.pass = none → s.dev.samp.auxB.pass = none →
      Runs .auxPaceTick s fun t =>
        (s.dev.passInputs false ≠ [] → t.dev.samp.auxA.pass = some (s.dev.passInputs false)) ∧
        (s.dev.passInputs true ≠ [] → t.dev.samp.auxB.pass = some (s.dev.passInputs true)) ∧ Keeps (these []) s t) ∧
    (∀ n code pulled rest, 1 ≤ n → n ≤ 8 → (s.dev.aux (4 < n)).pass = some (n :: rest) → (s.dev.aux (4 < n)).urgent = [] →
        s.dev.monLive = true → s.dev.calibrating = false →
      Runs (.auxConversionDone n code pulled) s fun t =>
        t.dev.nat (Reg.ainRaw n) = auxFormat (s.dev.nat (Reg.ainConfig n)) (ainBits (s.dev.nat (Reg.ainConfig n)))
          (s.dev.auxResult n code)
        ∧ (rest ≠ [] → (t.dev.aux (4 < n)).pass = some rest)
        ∧ Keeps (orEvents [Reg.ainRaw n, Reg.ainValue n, Reg.ainStatus n, Reg.ainTemperature n, Reg.ainOpenRaw n]) s t) ∧
    (s.dev.monLive = true → s.dev.samp.auxA.passDone = true → s.dev.samp.auxB.passDone = true → s.dev.calibrating = false →
      Runs .auxScanComplete s fun t => t.dev.samp.auxA.passDone = false ∧ t.dev.samp.auxB.passDone = false
        ∧ t.dev.reg Reg.ainTempMax = (t.dev.ntcExtreme (fun a b => b < a)).1
        ∧ t.dev.reg Reg.ainTempMin = (t.dev.ntcExtreme (fun a b => a < b)).1
        ∧ (s.dev.ntcInputs = [] → t.dev.reg Reg.ainTempMax = -32768 ∧ t.dev.reg Reg.ainTempMaxInput = 0)
        ∧ Keeps (withinEvents [(0x3101, 0x3108)] [Reg.ainTempMax, Reg.ainTempMaxInput, Reg.ainTempMin,
            Reg.ainTempMinInput, Reg.snapReady, Reg.snapSkipped]) s t) ∧
    (∀ who b v, MayWrite s who (if b then Reg.auxRefB else Reg.auxRefA) → v ≤ 2 →
        s.dev.nat (if b then Reg.auxRefB else Reg.auxRefA) ≠ v → (s.dev.aux b).pass = none → (s.dev.aux b).urgent = [] →
      Runs (.auxRefSelect who (if b then 1 else 0) v) s fun t => Keeps (withinAnswer [] [Reg.auxRefA, Reg.auxRefB,
          Reg.auxRefSettled, Reg.configStoreState, Reg.selfCalState]) s t
          ∧ t.dev.nat (if b then Reg.auxRefB else Reg.auxRefA) = v
        ∧ (t.dev.aux b).ref = v ∧ t.dev.bit Reg.auxRefSettled (if b then 1 else 0) = false) ∧
    (∀ (b inRange : Bool), s.dev.monLive = true → (s.dev.aux b).refPending = false →
      Runs (.auxRefSettled (if b then 1 else 0) inRange) s fun t =>
        t.dev.bit Reg.auxRefSettled (if b then 1 else 0) = ((s.dev.aux b).ref != 1 || inRange)
        ∧ Keeps (these [Reg.auxRefSettled]) s t) ∧
    (∀ who n, MayWrite s who Reg.auxUrgent → 1 ≤ n → n ≤ 8 → s.dev.calibrating = false →
        (s.dev.aux (4 < n)).urgent.length < 2 →
      Runs (.auxUrgent who n) s fun t => (t.dev.aux (4 < n)).urgent = (s.dev.aux (4 < n)).urgent
            ++ [if s.dev.pairedAway n then n - 1 else n]
        ∧ t.dev.bit Reg.auxUrgentResult 19 = false ∧ Keeps (orAnswer [Reg.auxUrgentResult]) s t) ∧
    (∀ (b : Bool) n rest code, (s.dev.aux b).urgent = n :: rest → s.dev.monLive = true →
      Runs (.auxUrgentDone (if b then 1 else 0) code) s fun t => (t.dev.aux b).urgent = rest
        ∧ t.dev.nat Reg.auxUrgentResult = auxFormat (s.dev.nat (Reg.ainConfig n)) (ainBits (s.dev.nat (Reg.ainConfig n)))
            (s.dev.auxResult n code) + 2 ^ 16 * (n - 1) + 2 ^ 19 + 2 ^ 20 * s.dev.ainFlags n (s.dev.auxResult n code)
        ∧ Keeps (these [Reg.auxUrgentResult]) s t) ∧
    (∀ who, MayWrite s who Reg.selfCalCommand → s.dev.calibrating = false →
      Runs (.selfCalCommand who 1) s fun t => t.dev.reg Reg.selfCalState = 1 ∧ t.dev.samp.auxA.pass = none
        ∧ t.dev.samp.auxB.pass = none ∧ Keeps (orAnswer [Reg.selfCalState]) s t) ∧
    (∀ a b ga gb, -64 ≤ a → a ≤ 64 → -64 ≤ b → b ≤ 64 → 99 * 2 ^ 30 ≤ 100 * ga → 100 * ga ≤ 101 * 2 ^ 30 →
        99 * 2 ^ 30 ≤ 100 * gb → 100 * gb ≤ 101 * 2 ^ 30 → s.dev.calibrating = true → s.dev.monLive = true →
      Runs (.selfCalDone a ga b gb) s fun t => t.dev.reg Reg.selfCalState = 2 ∧ t.dev.samp.calibrated = true
        ∧ t.dev.reg Reg.auxOffsetA = a ∧ t.dev.reg Reg.auxOffsetB = b ∧ t.dev.nat Reg.auxGainA = ga
        ∧ t.dev.nat Reg.auxGainB = gb
        ∧ Keeps (within [] [Reg.selfCalState, Reg.auxOffsetA, Reg.auxOffsetB, Reg.auxGainA, Reg.auxGainB,
            Reg.startupState, Reg.memberRequestsWaiting]) s t) ∧
    (∀ a b ga gb, (a < -64 ∨ 64 < a ∨ b < -64 ∨ 64 < b ∨ 100 * ga < 99 * 2 ^ 30 ∨ 101 * 2 ^ 30 < 100 * ga
          ∨ 100 * gb < 99 * 2 ^ 30 ∨ 101 * 2 ^ 30 < 100 * gb) → s.dev.calibrating = true → s.dev.monLive = true →
      Runs (.selfCalDone a ga b gb) s fun t => Keeps (within [] [Reg.selfCalState, Reg.startupState,
          Reg.memberRequestsWaiting]) s t ∧ t.dev.reg Reg.selfCalState = 4)

/-! ## Measurement integrity and supervision (chapter 5) -/

/-- The comparators and the alarm (on R117 to R120, R200 to R203): a trip whose count runs latches its bit and shows live, a
release leaves the latch, and the fault state sends an alarm symbol on every port that takes part, one symbol where two fall
within 8 cells. The test of a comparator and the writes of the thresholds. Where the manual leaves a point open it follows
the model's choices (assumptions 74, 94 and 95). -/
def Obligations.Comparators : Prop :=
  ∀ s : State,
    (∀ k ov active, s.dev.comparatorsValid = true → 1 ≤ k → k ≤ s.dev.samp.cells →
      Runs (.comparatorRawChange k ov active) s fun t =>
        (if ov then t.dev.sup.ovRaw else t.dev.sup.uvRaw).testBit (k - 1) = active
        ∧ (if ov then t.dev.sup.ovRun else t.dev.sup.uvRun).testBit (k - 1) = true ∧ Keeps (these []) s t) ∧
    (∀ k ov, s.dev.comparatorsValid = true → 1 ≤ k → k ≤ s.dev.samp.cells → s.dev.sup.testing ≠ some k →
        s.dev.countsAt k ov true = true →
      Runs (.comparatorTrip k ov) s fun t =>
        (if ov then t.dev.sup.ovTripped else t.dev.sup.uvTripped).testBit (k - 1) = true
        ∧ t.dev.bit (if ov then Reg.ovLatched else Reg.uvLatched) (k - 1) = true
        ∧ t.dev.bit (if ov then Reg.ovLive else Reg.uvLive) (k - 1) = true
        ∧ Keeps (fun q => these [Reg.ovLatched, Reg.uvLatched, Reg.ovLive, Reg.uvLive] q || cellKey q) s t) ∧
    (∀ k ov, s.dev.comparatorsValid = true → 1 ≤ k → k ≤ s.dev.samp.cells → s.dev.countsAt k ov false = true →
      Runs (.comparatorRelease k ov) s fun t =>
        (if ov then t.dev.sup.ovTripped else t.dev.sup.uvTripped).testBit (k - 1) = false
        ∧ Keeps (fun q => these [Reg.ovLive, Reg.uvLive] q || cellKey q) s t) ∧
    (∀ merged, s.dev.faultNow ≠ s.dev.sup.fault →
      Runs (.faultStateChange merged) s fun t => t.dev.sup.fault = s.dev.faultNow
        ∧ (s.dev.faultNow = true → s.dev.cpuLive = true → Raised 0 t)
        ∧ (s.dev.faultNow = true → ∀ p : Port, s.dev.portSendsAlarm p.num = true →
            merged.testBit p.num = false → s.dev.reg (Reg.alarmsSent p.num) < 0xFFFFFFFF →
            t.dev.reg (Reg.alarmsSent p.num) = s.dev.reg (Reg.alarmsSent p.num) + 1)
        ∧ Keeps (orEvents [Reg.alarmsSent 0, Reg.alarmsSent 1, Reg.alarmsSent 2]) s t) ∧
    (∀ merged, s.dev.sup.fault = true → s.dev.faultNow = true →
      Runs (.alarmReinject merged) s fun t =>
        (∀ p : Port, s.dev.portSendsAlarm p.num = true → merged.testBit p.num = false → s.dev.reg (Reg.alarmsSent p.num) < 0xFFFFFFFF →
            t.dev.reg (Reg.alarmsSent p.num) = s.dev.reg (Reg.alarmsSent p.num) + 1)
        ∧ Keeps (these [Reg.alarmsSent 0, Reg.alarmsSent 1, Reg.alarmsSent 2]) s t) ∧
    (∀ (p : Port) (merged : Nat), s.dev.pwr.hv = .sleep → s.dev.monHead = false → s.dev.portSendsAlarm p.num = true →
        s.dev.nat (Reg.portState p.num) = 1 →
      Runs (.alarmSymbolReceived p merged) s fun t => t.dev.pwr.hv = .active ∧ t.dev.reg Reg.monPowerMode = 1) ∧
    (∀ (p : Port) (merged : Nat), s.dev.pwr.hv ≠ .sleep → s.dev.portSendsAlarm p.num = true →
        s.dev.reg (Reg.alarmsReceived p.num) < 0xFFFFFFFF →
      Runs (.alarmSymbolReceived p merged) s fun t =>
        t.dev.reg (Reg.alarmsReceived p.num) = s.dev.reg (Reg.alarmsReceived p.num) + 1
        ∧ t.dev.link.alarmSeen = (s.dev.link.alarmSeen || s.dev.pwr.laneH)
        ∧ (s.dev.monHead = false → ∀ q : Port, q ≠ p → s.dev.portSendsAlarm q.num = true →
            merged.testBit q.num = false → s.dev.reg (Reg.alarmsSent q.num) < 0xFFFFFFFF →
            t.dev.reg (Reg.alarmsSent q.num) = s.dev.reg (Reg.alarmsSent q.num) + 1)
        ∧ Keeps (these [Reg.alarmsSent 0, Reg.alarmsSent 1, Reg.alarmsSent 2, Reg.alarmsReceived p.num]) s t) ∧
    (∀ who k, MayWrite s who Reg.comparatorTest → 1 ≤ k → k ≤ s.dev.samp.cells → s.dev.samp.cells ≤ 24 →
        (s.dev.sup.ovTripped ||| s.dev.sup.uvTripped).testBit (k - 1) = false → s.dev.sup.testing = none →
      Runs (.comparatorTest who k) s fun t => t.dev.sup.testing = some k ∧ t.dev.nat Reg.comparatorTestResult = k
        ∧ Keeps (fun q => orAnswer [Reg.comparatorTestResult, Reg.ovLive, Reg.uvLive] q || cellKey q) s t) ∧
    (∀ ov uv k, s.dev.sup.testing = some k →
      Runs (.comparatorTestDone ov uv) s fun t => t.dev.sup.testing = none
        ∧ t.dev.nat Reg.comparatorTestResult = k + (if ov then 0x100 else 0) + (if uv then 0x200 else 0) + 0x400
        ∧ Keeps (fun k => tripKey k || within [(0x3001, 0x3018)] [Reg.comparatorTestResult, Reg.ovLive,
            Reg.uvLive] k) s t) ∧
    (∀ who sub (v : Nat), (sub = 1 ∨ sub = 2 ∨ sub = 3) → MayWrite s who (regAt (0x206000 + sub)) →
        v ≤ (if sub = 1 then 255 else if sub = 2 then 250 else 63) →
        s.dev.relationHolds (byAgent who) (0x206000 + sub) v = true →
      Runs (.thresholdWrite who sub v) s fun t => Keeps (fun k => answerKey k || k == Reg.ovCode.key
          || k == Reg.uvCode.key || k == Reg.ovUvDeglitch.key || k == Reg.configStoreState.key
          || k == Reg.confirmState.key || tripKey k) s t ∧ t.dev.nat (regAt (0x206000 + sub)) = v
        ∧ (s.dev.nat (regAt (0x206000 + sub)) ≠ v → t.dev.sup.ovRun = 0 ∧ t.dev.sup.uvRun = 0 ∧ t.dev.sup.groupRuns = [])
        ∧ (byAgent who = false → t.dev.svc.unlockUsed = true ∧ t.dev.safe.checkDue = true))

/-- The check converter (on R111 to R115, R124, R440): the code of a cell's or of an even period's stack slot waits for the
output that closes its bracket, a cell under end-cell supervision is counted as skipped, and an odd period's reference is
judged at once. The comparison that a slot's code then meets with the main path: its voltage and difference, its mismatch, or a
skip that counts; and the stack's, whose second failing check in a row shows and raises. Where the manual leaves a point open it
follows the model's choices (assumptions 96, 97 and 194). -/
def Obligations.CheckConverter : Prop :=
  (∀ (s : State) (slot code : Nat), s.dev.monLive = true → code < 2 ^ 14 →
    (1 ≤ slot → slot ≤ s.dev.samp.cells → slot ≤ 24 → s.dev.on Reg.checkEnable = true → s.dev.endCell slot = false →
      Runs (.checkSarSlot slot code) s fun t =>
        t.dev.sup.slots = s.dev.sup.slots ++ [⟨s.dev.samp.tickRow / 8 * 8, slot, code⟩] ∧ Keeps (these []) s t) ∧
    (1 ≤ slot → slot ≤ s.dev.samp.cells → slot ≤ 24 → s.dev.on Reg.checkEnable = true → s.dev.endCell slot = true →
        s.dev.reg Reg.checkSkipped < 0xFFFFFFFF →
      Runs (.checkSarSlot slot code) s fun t =>
        t.dev.sup.slots = s.dev.sup.slots ∧ t.dev.reg Reg.checkSkipped = s.dev.reg Reg.checkSkipped + 1
          ∧ Keeps (these [Reg.checkSkipped]) s t) ∧
    (slot = 25 → s.dev.gaugeEndStep = false → s.dev.samp.tickRow / 8 % 2 = 0 →
      Runs (.checkSarSlot slot code) s fun t =>
        t.dev.sup.slots = s.dev.sup.slots ++ [⟨s.dev.samp.tickRow / 8 * 8, 25, code⟩] ∧ Keeps (these []) s t) ∧
    (slot = 25 → s.dev.gaugeEndStep = false → s.dev.samp.tickRow / 8 % 2 = 1 →
      Runs (.checkSarSlot slot code) s fun t =>
        t.dev.bit Reg.checkSarStatus 0 = decide (20000 < (sarUv code - 2500000).natAbs)
        ∧ (20000 < (sarUv code - 2500000).natAbs → s.dev.cpuLive = true → Raised 3 t)
        ∧ Keeps (orEvents [Reg.checkSarStatus]) s t)) ∧
  (∀ (s : State) (period slot code : Nat), 1 ≤ slot → slot ≤ 24 → slot ≤ s.dev.samp.cells → s.dev.on Reg.checkEnable = true →
    (s.dev.checkSkips slot = true → s.dev.reg Reg.checkSkipped < 0xFFFFFFFF →
      (s.dev.compareSlot ⟨period, slot, code⟩).reg Reg.checkSkipped = s.dev.reg Reg.checkSkipped + 1) ∧
    (s.dev.checkSkips slot = false →
      (s.dev.compareSlot ⟨period, slot, code⟩).reg (Reg.checkVoltage slot) = sarUv code
      ∧ (s.dev.compareSlot ⟨period, slot, code⟩).reg (Reg.checkDifference slot) = s.dev.mainOf slot slot - sarUv code
      ∧ ((s.dev.nat Reg.checkThreshold) * 1000 < (s.dev.mainOf slot slot - sarUv code).natAbs →
          s.dev.reg Reg.checkConfirm ≤ (Tab.find slot s.dev.sup.mismatches).getD 0 + 1 →
          (Tab.find slot s.dev.sup.mismatches).getD 0 + 1 ≠ 0 →
          (s.dev.compareSlot ⟨period, slot, code⟩).bit (Reg.cellStatus slot) 4 = true
            ∧ (s.dev.compareSlot ⟨period, slot, code⟩).bit Reg.checkMismatchLatched (slot - 1) = true)
      ∧ ((s.dev.mainOf slot slot - sarUv code).natAbs ≤ (s.dev.nat Reg.checkThreshold) * 1000 →
          (s.dev.compareSlot ⟨period, slot, code⟩).bit (Reg.cellStatus slot) 4 = false))) ∧
  (∀ (s : State) (period code : Nat) (diff : Int),
    diff = (upTo s.dev.samp.cells).foldl (fun a k => a + s.dev.mainOf 25 k) 0 - sarUv code * 32 →
    (s.dev.compareSlot ⟨period, 25, code⟩).reg Reg.stackSumDifference = diff
    ∧ (0 ≤ sarUv code → (s.dev.compareSlot ⟨period, 25, code⟩).reg Reg.stackCheckVoltage = sarUv code * 32)
    ∧ (diff.natAbs ≤ s.dev.nat Reg.stackMismatchThreshold * 1000 →
        (s.dev.compareSlot ⟨period, 25, code⟩).bit Reg.checkSarStatus 1 = false
        ∧ (s.dev.compareSlot ⟨period, 25, code⟩).sup.stackBad = 0)
    ∧ (s.dev.nat Reg.stackMismatchThreshold * 1000 < diff.natAbs →
        (s.dev.compareSlot ⟨period, 25, code⟩).sup.stackBad = s.dev.sup.stackBad + 1
        ∧ (s.dev.sup.stackBad = 0 → (s.dev.compareSlot ⟨period, 25, code⟩).bit Reg.checkSarStatus 1 = s.dev.bit Reg.checkSarStatus 1)
        ∧ (1 ≤ s.dev.sup.stackBad → (s.dev.compareSlot ⟨period, 25, code⟩).bit Reg.checkSarStatus 1 = true
            ∧ (s.dev.cpuLive = true → (s.dev.compareSlot ⟨period, 25, code⟩).reg (Reg.eventFlag 2) = 1))))

/-- The open-wire pass (on R121 to R124): its start, its windows' stages, the judgement of a wire and the step to the next
one; a trip or a release of the group or end-cell supervision of an open wire whose condition has held for the deglitch
time; the shunt common mode (on R126) and a legacy check in sleep (on R130). Where the manual leaves a point open it follows
the model's choices (assumptions 98, 99, 106, 111, 159 and 178). -/
def Obligations.OpenWires : Prop :=
  ∀ s : State,
    (∀ who, MayWrite s who Reg.openWireCommand → s.dev.passRunning = false →
      Runs (.openWireCommand who 1) s fun t => t.dev.nat Reg.openWireState = 0x40 ∧ t.dev.sup.stage = 0
        ∧ Keeps (orAnswer [Reg.openWireState]) s t) ∧
    (∀ who, MayWrite s who Reg.openWireCommand → s.dev.passRunning = true →
      Runs (.openWireCommand who 1) s fun t => t.dev.sup = s.dev.sup ∧ Keeps (orAnswer []) s t) ∧
    (s.dev.monLive = true → s.dev.on Reg.openWireInterval = true → s.dev.passRunning = false →
      Runs .openWireInterval s fun t => t.dev.nat Reg.openWireState = 0x40 ∧ t.dev.sup.stage = 0
        ∧ Keeps (these [Reg.openWireState]) s t) ∧
    (s.dev.monLive = true → s.dev.passRunning = true → s.dev.sup.stage = 0 → s.dev.samp.tickRow % 8 = 0 →
        s.dev.bal.gaugeRow = none →
      Runs .openWireWindowStart s fun t => t.dev.sup.stage = 1 ∧ t.dev.bit Reg.openWireState 5 = true
        ∧ (∀ r, t.dev.bal.run = some r → r.gated = true) ∧ Keeps (fun q => these [Reg.openWireState] q || cellKey q) s t) ∧
    (s.dev.monLive = true → s.dev.sup.stage = 1 →
      Runs .openWirePullOn s fun t => t.dev.sup.stage = 2 ∧ Keeps (these []) s t) ∧
    (s.dev.monLive = true → s.dev.sup.stage = 2 →
      Runs .openWirePullOff s fun t => t.dev.sup.stage = 3 ∧ Keeps (these []) s t) ∧
    (s.dev.monLive = true → s.dev.sup.stage = 3 → (s.dev.sup.disturbed = true ∨ s.dev.sup.sums.baseN = 0
          ∨ s.dev.sup.sums.loadN = 0) →
      Runs .openWireEvaluate s fun t => t.dev.sup.stage = 4 ∧ t.dev.sup.again = true ∧ Keeps (these []) s t) ∧
    (s.dev.monLive = true → s.dev.sup.stage = 3 → s.dev.sup.disturbed = false → s.dev.sup.sums.baseN ≠ 0 →
        s.dev.sup.sums.loadN ≠ 0 →
      Runs .openWireEvaluate s fun t => t.dev.sup.stage = 4
        ∧ t.dev.sup.finding = some (s.dev.wireOpen s.dev.wireInTest)
        ∧ t.dev.bit Reg.openWireLatched s.dev.wireInTest =
            (s.dev.bit Reg.openWireLatched s.dev.wireInTest || s.dev.wireOpen s.dev.wireInTest)
        ∧ (s.dev.wireOpen s.dev.wireInTest = true → s.dev.cpuLive = true → Raised 4 t)
        ∧ Keeps (withinEvents [(0x3001, 0x3018)] [Reg.openWireLatched, Reg.openWireState, Reg.ovLive, Reg.uvLive]) s t) ∧
    (s.dev.monLive = true → s.dev.sup.stage = 4 →
      Runs .openWireWindowEnd s fun t => t.dev.sup.stage = 0 ∧ t.dev.sup.again = false
        ∧ t.dev.nat Reg.openWireState = (if s.dev.sup.again || s.dev.sup.disturbed then 0x40 + s.dev.wireInTest
            else if s.dev.wireInTest < s.dev.samp.cells then 0x40 + (s.dev.wireInTest + 1) else 0)
        ∧ (∀ isOpen, s.dev.sup.finding = some isOpen → s.dev.sup.again = false → s.dev.sup.disturbed = false →
            t.dev.bit Reg.openWireLastPass s.dev.wireInTest = !isOpen)
        ∧ (s.dev.sup.again = true ∨ s.dev.sup.disturbed = true →
            t.dev.nat Reg.openWireLastPass = s.dev.nat Reg.openWireLastPass)
        ∧ Keeps (fun q => these [Reg.openWireState, Reg.openWireLastPass] q || cellKey q) s t) ∧
    (∀ w ov k, s.dev.monLive = true → w ≤ s.dev.samp.cells → s.dev.bit Reg.openWireLatched w = true →
        s.dev.groupReached w ov true = true → k ∈ s.dev.supervisedCells w → 1 ≤ k →
      Runs (.groupTrip w ov true) s fun t => (if ov then t.dev.sup.ovGroup else t.dev.sup.uvGroup).testBit (k - 1) = true
        ∧ t.dev.bit (if ov then Reg.ovLatched else Reg.uvLatched) (k - 1) = true
        ∧ Keeps (fun q => these [Reg.ovLatched, Reg.uvLatched, Reg.ovLive, Reg.uvLive] q || cellKey q) s t) ∧
    (∀ w ov k, s.dev.monLive = true → w ≤ s.dev.samp.cells → s.dev.bit Reg.openWireLatched w = true →
        s.dev.groupReached w ov false = true → k ∈ s.dev.supervisedCells w → 1 ≤ k →
      Runs (.groupTrip w ov false) s fun t => (if ov then t.dev.sup.ovGroup else t.dev.sup.uvGroup).testBit (k - 1) = false
        ∧ Keeps (fun q => these [Reg.ovLive, Reg.uvLive] q || cellKey q) s t) ∧
    (∀ x beyond, s.dev.monLive = true → (x = 1 ∨ x = 2) →
      Runs (.shuntCommonMode x beyond) s fun t => t.dev.bit (Reg.currentStatus x) 4 = beyond
        ∧ (beyond = true → s.dev.bit (Reg.currentStatus x) 4 = false → s.dev.cpuLive = true → Raised 5 t)
        ∧ Keeps (orEvents [Reg.currentStatus x]) s t) ∧
    (∀ cells a b, s.dev.pwr.hv = .sleep → s.dev.on Reg.legacyWakeEnable = true →
      Runs (.legacyWakeCheck cells a b) s fun t => t.dev.sup.legacy = s.dev.legacyConditions cells a b
        ∧ t.dev.nat Reg.legacyWakeStatus = (s.dev.nat Reg.legacyWakeStatus ||| (s.dev.legacyConditions cells a b &&& s.dev.sup.legacy))
        ∧ t.dev.sup.wakeLow = (s.dev.sup.wakeLow || (s.dev.legacyConditions cells a b &&& s.dev.sup.legacy) != 0)
        ∧ Keeps (these [Reg.legacyWakeStatus]) s t)

/-- The gauge sets (on R131 to R134): a valid field set is taken with its reserved bytes at 0, a removed one no longer counts,
an interval asks for the die temperature, and new factors act on all channels in one step. Where the manual leaves a point open
it follows the model's choice (assumption 195). -/
def Obligations.GaugeSets : Prop :=
  ∀ s : State,
    (∀ who g b, 1 ≤ g → g ≤ 6 → MayWrite s who (Reg.gaugeField g) → b.length = 216 →
        (s.dev.writeGaugeField g b).isOk = true →
      Runs (.gaugeFieldWrite who g b) s fun t => t.dev.blob (Reg.gaugeField g).key [] = b.take 2 ++ [0, 0] ++ b.drop 4
        ∧ t.dev.reg (Reg.gaugeFieldValid g) = 1 ∧ t.mem = s.mem
        ∧ KeepsRegs (withinAnswer [(0x20B1, 0x20B6)] [Reg.gaugeSetsInUse, Reg.configStoreState]) s t) ∧
    (∀ who g, 1 ≤ g → g ≤ 6 → MayWrite s who (Reg.gaugeFieldValid g) → s.dev.on (Reg.gaugeFieldValid g) = true →
      Runs (.gaugeFieldRemove who g 0) s fun t => t.dev.reg (Reg.gaugeFieldValid g) = 0
        ∧ t.dev.bit Reg.gaugeSetsInUse (g + 2) = false ∧ t.mem = s.mem
        ∧ KeepsRegs (withinAnswer [(0x20B1, 0x20B6)] [Reg.gaugeSetsInUse, Reg.configStoreState]) s t) ∧
    (s.dev.monLive = true →
      Runs .gaugeTempInterval s fun t => t.dev.stor.monTempBusy = true ∧ Keeps (these []) s t) ∧
    (∀ x, s.dev.samp.ready = some x → s.dev.monLive = true →
      Runs .gaugeFactorsApply s fun t => t.dev.samp.offsets = x.1 ∧ t.dev.samp.gains = x.2.1 ∧ t.dev.samp.ready = none
        ∧ t.dev.reg Reg.gaugeTempInForce = x.2.2 ∧ Keeps (these [Reg.gaugeTempInForce, Reg.gaugeApplyCount]) s t)

/-! ## Balancing, wire gauge, impedance, counters (chapter 6) -/

/-- Balancing (on R139 to R149): requests are kept to the cells in use, the hold time ends them, a switch fault latches and
opens its switch, a frame start decides ownership and duty, and in a held frame blank mode holds the mean of the seven
outputs up to the 255th. Where the manual leaves a point open it follows the model's choice (assumption 119). -/
def Obligations.BalancingCommands : Prop :=
  ∀ s : State,
    (∀ who v, MayWrite s who Reg.balRequest → v ≤ 0xFFFFFF →
      Runs (.balRequestWrite who v) s fun t => t.dev.nat Reg.balRequest = v % 2 ^ s.dev.samp.cells
        ∧ Keeps (orAnswer [Reg.balRequest]) s t) ∧
    (s.dev.monLive = true → s.dev.on Reg.balHold = true →
      Runs .balHoldExpiry s fun t => t.dev.reg Reg.balRequest = 0 ∧ Keeps (these [Reg.balRequest]) s t) ∧
    (∀ k stuck, s.dev.monLive = true → 1 ≤ k → k ≤ 24 →
      Runs (.switchFaultLatch k stuck) s fun t => t.dev.bit Reg.balFaultLatched (k - 1) = true
        ∧ (if stuck then t.dev.bal.faultStuck else t.dev.bal.faultOver).testBit (k - 1) = true
        ∧ t.dev.switchClosed k = false ∧ (s.dev.cpuLive = true → Raised 8 t)
        ∧ Keeps (fun q => orEvents [Reg.balFaultLatched] q || cellKey q) s t) ∧
    (s.dev.monLive = true → s.dev.samp.tickRow % 128 = 0 →
      Runs .balanceFrameStart s fun t => t.dev.bal.frameRow = s.dev.samp.tickRow
        ∧ t.dev.nat Reg.balActive = (t.dev.bal.level7 ||| t.dev.bal.level8)
        ∧ t.dev.nat Reg.balDuty = throttleDuty t.dev.excPower t.dev.balPower (s.dev.nat Reg.balPowerLimit)
        ∧ t.dev.nat Reg.balDuty ≤ 16
        ∧ (t.dev.bal.level8 &&& t.dev.bal.level7) = 0 ∧ (t.dev.bal.level8 &&& t.dev.nat Reg.balRequest) = t.dev.bal.level8
        ∧ (t.dev.bal.hot = true → t.dev.bal.level7 = 0 ∧ t.dev.bal.level8 = 0)
        ∧ t.dev.on Reg.balHeld = (t.dev.nat Reg.balModeInForce == 0 && t.dev.nat Reg.balActive != 0)
        ∧ Keeps (withinEvents [(0x3001, 0x3018)] [Reg.balHeld, Reg.balDuty, Reg.balActive, Reg.balModeInForce,
            Reg.balPowerEstimate, Reg.balThrottleCount, Reg.impState, Reg.wireGaugeState]) s t) ∧
    (s.dev.monLive = true → s.dev.on Reg.balHeld = true → s.dev.outputsSince s.dev.bal.frameRow = 255 →
        7 ≤ s.dev.samp.history.length →
      Runs .blankHold s fun t =>
        t.dev.samp.held = some ((List.range 24).map (fun c =>
          meanInt ((s.dev.samp.history.take 7).map (fun o => nthInt o c))))
        ∧ Keeps (these []) s t)

/-- The wire-gauge routine (on R153 to R155): a command makes it due or is refused, the changes and the current of each step
are kept, and at the end the results of every wire and cell stand, or the failing cell. Where the manual leaves a point open
it follows the model's choices (assumptions 101 and 184). -/
def Obligations.WireGauge : Prop :=
  ∀ s : State,
    (∀ who, MayWrite s who Reg.wireGaugeCommand → s.dev.nat Reg.wireGaugeState ≠ 1 → s.dev.bal.run = none →
        s.dev.nat Reg.cellCount = s.dev.samp.cells →
      Runs (.wireGaugeCommand who 1) s fun t => t.dev.bal.gaugeDue = some (s.dev.nat Reg.cellCount)
        ∧ Keeps (orAnswer []) s t) ∧
    (∀ who, MayWrite s who Reg.wireGaugeCommand → (s.dev.nat Reg.wireGaugeState = 1 ∨ s.dev.bal.run ≠ none
        ∨ s.dev.nat Reg.cellCount ≠ s.dev.samp.cells) →
      Runs (.wireGaugeCommand who 1) s fun t => t.dev.bal = s.dev.bal ∧ Keeps (orAnswer []) s t) ∧
    (∀ w, w = s.dev.bal.gaugeSums → s.dev.monLive = true → s.dev.nat Reg.wireGaugeState = 1 → s.dev.bal.gaugeRow ≠ none →
        s.dev.gaugeFilled = true →
      Runs .wireGaugeStep s fun t => t.dev.bal.gaugeSteps = s.dev.bal.gaugeSteps
          ++ [⟨w.delta 0, w.delta 1, w.delta 2, 16 * (w.edgeLoad.getD 0 - w.edgeBase.getD 0), roundDiv (16 * w.amps) w.ampsN⟩]
        ∧ Keeps (these []) s t) ∧
    (s.dev.monLive = true → s.dev.nat Reg.wireGaugeState = 1 → s.dev.bal.gaugeSteps.length = s.dev.samp.cells →
        8 ≤ s.dev.samp.cells → s.dev.samp.cells ≤ 24 →
        (∀ k ∈ upTo s.dev.samp.cells, (s.dev.gaugeStepOf k).fails k s.dev.samp.cells = false) →
      Runs .wireGaugeDone s fun t => t.dev.nat Reg.wireGaugeState = 2 ∧ t.dev.reg (Reg.wireRup 0) = 0
        ∧ t.dev.reg (Reg.wireRdown s.dev.samp.cells) = 0
        ∧ (∀ k, 1 ≤ k → k < s.dev.samp.cells →
            t.dev.reg (Reg.wireRup k) = microOhm ((s.dev.gaugeStepOf k).up k s.dev.samp.cells) (s.dev.gaugeStepOf k).ua
            ∧ t.dev.reg (Reg.wireRdown k) = microOhm ((s.dev.gaugeStepOf (k + 1)).down (k + 1)) (s.dev.gaugeStepOf (k + 1)).ua)
        ∧ (∀ k, 1 ≤ k → k ≤ s.dev.samp.cells → t.dev.reg (Reg.wireCellR k)
            = max 0 (microOhm ((s.dev.gaugeStepOf k).cell k s.dev.samp.cells) (s.dev.gaugeStepOf k).ua))
        ∧ Keeps (withinEvents [(0x3001, 0x3018), (0x3411, 0x3413)] [Reg.wireGaugeState, Reg.wireGaugeFailCell]) s t) ∧
    (∀ k, s.dev.monLive = true → s.dev.nat Reg.wireGaugeState = 1 → s.dev.bal.gaugeSteps.length = s.dev.samp.cells →
        1 ≤ k → k ≤ s.dev.samp.cells → s.dev.samp.cells ≤ 24 → (s.dev.gaugeStepOf k).fails k s.dev.samp.cells = true →
        (∀ j ∈ upTo (k - 1), (s.dev.gaugeStepOf j).fails j s.dev.samp.cells = false) →
      Runs .wireGaugeDone s fun t => t.dev.nat Reg.wireGaugeState = 4 ∧ t.dev.nat Reg.wireGaugeFailCell = k
        ∧ (s.dev.cpuLive = true → Raised 10 t)
        ∧ Keeps (fun q => orEvents [Reg.wireGaugeState, Reg.wireGaugeFailCell] q || cellKey q) s t)

/-- Impedance runs (on R156 to R163): the command, the start at a frame, the lead-in's end, a window's end with the results
and the status of each correlated cell, and a run abandoned. Where the manual leaves a point open it follows the model's
choices (assumptions 100, 102 and 103). -/
def Obligations.ImpedanceRuns : Prop :=
  ∀ s : State,
    (∀ who, MayWrite s who Reg.impCommand → s.dev.sourceBlocked (s.dev.nat Reg.impSource) = false →
        s.dev.nat Reg.impEnable = 2 →
      Runs (.impCommand who 1) s fun t => t.dev.bal.runDue = true ∧ Keeps (orAnswer []) s t) ∧
    (∀ who, MayWrite s who Reg.impCommand → s.dev.sourceBlocked (s.dev.nat Reg.impSource) = true →
      Runs (.impCommand who 1) s fun t => t.dev.bal = s.dev.bal ∧ Keeps (orAnswer []) s t) ∧
    (s.dev.monLive = true → s.dev.samp.tickRow % 128 = 0 →
        (s.dev.nat Reg.impEnable = 1 ∨ (s.dev.nat Reg.impEnable = 2 ∧ s.dev.bal.runDue = true)) → s.dev.bal.run = none →
        s.dev.nat Reg.wireGaugeState ≠ 1 → s.dev.sourceBlocked (s.dev.nat Reg.impSource) = false →
        s.dev.bal.frameRow ≠ s.dev.samp.tickRow →
      Runs .impRunStart s fun t => t.dev.bal.run = some (if s.dev.nat Reg.impSource = 1 then s.dev.openWindow s.dev.runConfig
            else s.dev.runConfig) ∧ t.dev.bal.runDue = false
        ∧ t.dev.nat Reg.impState = (if s.dev.nat Reg.impSource = 1 then 4 else 1) ∧ Keeps (these [Reg.impState]) s t) ∧
    (s.dev.monLive = true → s.dev.bal.run ≠ none → s.dev.nat Reg.impState = 1 →
      Runs .impLeadInEnd s fun t =>
        t.dev.nat Reg.impState = (if (s.dev.bal.run.map (·.even)).getD false then 3 else 2)
        ∧ Keeps (these [Reg.impState]) s t) ∧
    (∀ r, s.dev.bal.run = some r → s.dev.monLive = true → s.dev.samp.cells ≤ 24 →
        (s.dev.nat Reg.impState = 2 ∨ s.dev.nat Reg.impState = 3 ∨ s.dev.nat Reg.impState = 4) →
        s.dev.reg Reg.impRunCount < 0xFFFFFFFF →
      Runs .impWindowEnd s fun t =>
        (s.dev.nat Reg.impState = 2 → t.dev.nat Reg.impState = 1 ∧ t.dev.bal.run.map (·.even) = some true
          ∧ t.dev.reg Reg.impRunCount = s.dev.reg Reg.impRunCount)
        ∧ (s.dev.nat Reg.impState ≠ 2 → t.dev.nat Reg.impState = 0 ∧ t.dev.bal.run = none
          ∧ t.dev.reg Reg.impRunCount = s.dev.reg Reg.impRunCount + 1)
        ∧ (∀ k, k ∈ s.dev.correlated r → t.dev.nat (Reg.impWindowRow k) = s.dev.samp.tickRow
          ∧ t.dev.nat (Reg.impStatus k) = s.dev.impStatusOf r k ((upTo 8).map (r.sumOf k))
          ∧ ∀ n, 1 ≤ n → n ≤ 8 →
            (r.valid k (r.sumOf k n) = false → t.dev.reg (Reg.impReal k n) = -2147483648
              ∧ t.dev.reg (Reg.impImag k n) = -2147483648)
            ∧ (r.valid k (r.sumOf k n) = true → -2147483648 < toneRe (r.sumOf k n) → toneRe (r.sumOf k n) ≤ 2147483647 →
              t.dev.reg (Reg.impReal k n) = toneRe (r.sumOf k n)))
        ∧ Keeps (withinEvents [(0x3501, 0x3518)] [Reg.impState, Reg.impRunCount, Reg.snapReady, Reg.snapSkipped]) s t) ∧
    (∀ forPower, s.dev.bal.run ≠ none →
      Runs (.impRunAbandon forPower) s fun t => t.dev.bal.run = none ∧ t.dev.bal.level7 = 0
        ∧ t.dev.nat Reg.impState = (if forPower then 5 else 6)
        ∧ Keeps (fun q => these [Reg.impState] q || cellKey q) s t)

/-- Charge and energy counters (on R164 to R170): what a row mark applies, what a clear and a restore ask for, and what a
save queues. Where the manual leaves a point open it follows the model's choices (assumptions 23 and 72). -/
def Obligations.CounterCommands : Prop :=
  ∀ s : State,
    (s.dev.monLive = true → s.dev.bal.step = none → s.dev.bal.restore = none → s.dev.bal.clear ≠ none →
      Runs .counterRowMark s fun t => t.dev.bal.clear = none
        ∧ (∀ i, i < 4 → (s.dev.bal.clear.getD 0).testBit i = true →
            t.dev.reg (packCounter i) = 0 ∧ t.dev.bit Reg.counterStatus i = false)
        ∧ (∀ i, i < 4 → (s.dev.bal.clear.getD 0).testBit i = false → t.dev.reg (packCounter i) = s.dev.reg (packCounter i))
        ∧ Keeps (withinEvents [(0x3600, 0x3600), (0x3610, 0x3611)] [Reg.snapReady, Reg.snapSkipped]) s t) ∧
    (s.dev.monLive = true → s.dev.bal.clear = none → s.dev.bal.restore = none → s.dev.bal.step = none →
      Runs .counterRowMark s fun t => Keeps (orEvents [Reg.snapReady, Reg.snapSkipped]) s t) ∧
    (s.dev.monLive = true → s.dev.bal.restore ≠ none →
      Runs .counterRowMark s fun t => t.dev.bal.restore = none ∧ t.dev.bal.step = none
        ∧ (s.dev.bal.step = none → t.dev.bit Reg.counterStatus 5 = false)
        ∧ Keeps (withinEvents [(0x3600, 0x3600), (0x3610, 0x3611)] [Reg.snapReady, Reg.snapSkipped]) s t) ∧
    (∀ who v, MayWrite s who Reg.counterClear → v ≤ 0x1F → v ≠ 0 →
      Runs (.counterClear who v) s fun t => Keeps (withinAnswer [] []) s t
          ∧ t.dev.bal.clear = some (s.dev.bal.clear.getD 0 ||| v)
        ∧ ∀ i, i < 4 → t.dev.reg (packCounter i) = s.dev.reg (packCounter i)) ∧
    (∀ who b, MayWrite s who Reg.counterRestore → b.length = 128 → s.dev.bit Reg.counterStatus 5 = true →
        s.dev.bal.restore = none →
      Runs (.counterRestore who b) s fun t => Keeps (withinAnswer [] []) s t ∧ t.dev.bal.restore = some b
        ∧ ∀ i, i < 4 → t.dev.reg (packCounter i) = s.dev.reg (packCounter i)) ∧
    (s.dev.pwr.role = .head → s.dev.cpuLive = true → s.dev.monLive = true →
      Runs .counterSave s fun t => Job.counters ownSerial s.dev.counterRecord ∈ t.dev.stor.jobs
          ∧ Keeps (within [] [Reg.memberRequestsWaiting]) s t)

/-- A counter loses nothing (on R164, R168): unless it saturates, the whole units and the residue after a step are those
before it plus the step, exactly, and the residue stays below one unit; one that saturates stays at its largest value. -/
def Obligations.CounterSteps : Prop :=
  (∀ (value max num den v : Nat) (rest r : Frac), 0 < rest.den → 0 < den →
      countStep value max false rest num den = (v, r, false) →
      v ≤ max ∧ r.num < r.den ∧
        (v * r.den + r.num) * (rest.den * den) = ((value * rest.den + rest.num) * den + num * rest.den) * r.den) ∧
  (∀ (value max num den : Nat) (rest : Frac),
      countStep value max true rest num den = (value, rest, true) ∧
      ((countStep value max false rest num den).2.2 = true → (countStep value max false rest num den).1 = max))

/-! ## The link (chapter 7) -/

/-- Port states (on Table 7.2, R174, R176, R177, R209): training ends Up with the rate and the forwarding delays it measured
or Lost, a loss is counted, a return trains again, and StatsClear returns the twelve counters of the port to 0. Delays and
the alignment of the tick at a member (on R204 to R207): a member whose D + 0.5 µs exceeds TickAlign shows it in LinkStatus bit
[2] and its samples are untimed, until a new D or a TickAlign broadcast restores the margin. -/
def Obligations.PortsAndDelays : Prop :=
  (∀ (s : State) (p : Port),
      (∀ rate25 ps, s.dev.nat (Reg.portState p.num) = 2 →
        Runs (.portTrainingDone p true rate25 ps) s fun t => t.dev.nat (Reg.portState p.num) = 3
          ∧ (t.dev.portLink p).forward = ps ∧ (t.dev.portLink p).rate25 = rate25 ∧ (t.dev.portLink p).misses = 0
          ∧ (s.dev.monHead = false → (s.dev.nat Reg.upPort = p.num ∨ s.dev.nat Reg.upPort = 0xFF) →
              t.dev.nat Reg.linkRateInForce = (if rate25 then 1 else 0))
          ∧ Keeps (these [Reg.portState p.num, Reg.forwardDelay 0, Reg.forwardDelay 1, Reg.forwardDelay 2,
              Reg.linkRateInForce, Reg.topology]) s t) ∧
      (∀ rate25 ps, s.dev.nat (Reg.portState p.num) = 2 → s.dev.reg (Reg.lossOfSignal p.num) < 0xFFFFFFFF →
        Runs (.portTrainingDone p false rate25 ps) s fun t => t.dev.nat (Reg.portState p.num) = 4
          ∧ t.dev.reg (Reg.lossOfSignal p.num) = s.dev.reg (Reg.lossOfSignal p.num) + 1
          ∧ Keeps (these [Reg.portState p.num, Reg.lossOfSignal p.num, Reg.topology]) s t) ∧
      (s.dev.nat (Reg.portState p.num) = 3 → s.dev.reg (Reg.lossOfSignal p.num) < 0xFFFFFFFF →
        Runs (.portSignalLoss p) s fun t => t.dev.nat (Reg.portState p.num) = 4
          ∧ t.dev.reg (Reg.lossOfSignal p.num) = s.dev.reg (Reg.lossOfSignal p.num) + 1
          ∧ (t.dev.portLink p).deadEnd = false ∧ (t.dev.portLink p).leftOut = false
          ∧ Keeps (these [Reg.portState p.num, Reg.lossOfSignal p.num, Reg.topology]) s t) ∧
      (s.dev.nat (Reg.portState p.num) = 4 →
        Runs (.portSignalReturn p) s fun t => t.dev.nat (Reg.portState p.num) = 2
          ∧ Keeps (these [Reg.portState p.num]) s t) ∧
      (∀ who, MayWrite s who (Reg.statsClear p.num) →
        Runs (.statsClear who p 1) s fun t => (∀ r ∈ portCounters p.num, t.dev.reg r = 0)
          ∧ Keeps (fun q => orAnswer [] q || (portCounters p.num).any (fun r => r.key == q)) s t)) ∧
  (∀ s : State, s.dev.monLive = true → s.dev.monHead = false →
      (s.dev.nat Reg.upPort < 3 → s.dev.link.rowsStarted = true →
        Runs .delayProbe s fun t => t.dev.link.probing = true ∧ Keeps (these []) s t) ∧
      (∀ roundTrip turnaround r, s.dev.link.probing = true → s.dev.link.report = some r → s.dev.link.held = none →
        Runs (.probeAnswer roundTrip turnaround) s fun t =>
          t.dev.nat (Reg.lineDelay (s.dev.nat Reg.upPort)) = (roundTrip - turnaround) / 2
          ∧ t.dev.link.due = some (r + (roundTrip - turnaround) / 2) ∧ t.dev.link.probing = false
          ∧ Keeps (these [Reg.lineDelay (s.dev.nat Reg.upPort)]) s t) ∧
      (∀ roundTrip turnaround r (old : Nat),
          s.dev.link.probing = true → s.dev.link.report = some r → s.dev.link.held = some old →
          2000 < ((r : Int) + ((roundTrip - turnaround) / 2 : Nat) - old).natAbs →
          agreeing (((r + (roundTrip - turnaround) / 2) :: s.dev.link.candidates).take 3) = false →
        Runs (.probeAnswer roundTrip turnaround) s fun t => t.dev.link.due = none ∧ t.dev.bit Reg.linkStatus 3 = true
          ∧ (s.dev.bit Reg.linkStatus 3 = false → s.dev.reg Reg.delayStepCount < 0xFFFFFFFF →
              t.dev.reg Reg.delayStepCount = s.dev.reg Reg.delayStepCount + 1)
          ∧ Keeps (these [Reg.lineDelay (s.dev.nat Reg.upPort), Reg.linkStatus, Reg.delayStepCount]) s t) ∧
      (∀ ps, s.dev.link.measured = true → s.dev.link.held = none →
        Runs (.delayReport ps) s fun t => t.dev.link.report = some ps
          ∧ t.dev.link.due = some (ps + s.dev.nat (Reg.lineDelay (s.dev.nat Reg.upPort))) ∧ Keeps (these []) s t) ∧
      (∀ v, s.dev.link.due = some v → s.dev.samp.tickRow % 64 = 0 →
        Runs .delayApply s fun t => t.dev.link.held = some v ∧ t.dev.nat Reg.cumulativeDelay = v ∧ t.dev.link.due = none
          ∧ t.dev.bit Reg.linkStatus 3 = false
          ∧ t.dev.bit Reg.linkStatus 2 = decide (s.dev.nat Reg.tickAlign < v + 500000)
          ∧ t.dev.isUntimed = (s.dev.samp.untimed || decide (s.dev.nat Reg.tickAlign < v + 500000))
          ∧ t.dev.bit Reg.linkStatus 1 = !t.dev.isUntimed
          ∧ Keeps (these [Reg.cumulativeDelay, Reg.linkStatus]) s t) ∧
      (∀ v, s.dev.link.held = some v →
        Runs .beyondTickReach s fun t => t.dev.bit Reg.linkStatus 2 = decide (s.dev.nat Reg.tickAlign < v + 500000)
          ∧ t.dev.isUntimed = (s.dev.samp.untimed || decide (s.dev.nat Reg.tickAlign < v + 500000))
          ∧ t.dev.bit Reg.linkStatus 1 = !t.dev.isUntimed ∧ Keeps (these [Reg.linkStatus]) s t) ∧
      (∀ row ps, row % 64 = 0 → s.dev.link.alignDue = none →
        Runs (.tickAlignReceived row ps true) s fun t => t.dev.link.alignDue = some (row, ps) ∧ Keeps (these []) s t) ∧
      (∀ row ps ps', s.dev.link.alignDue = some (row, ps) →
        Runs (.tickAlignReceived row ps' true) s fun t => t.dev.link.alignDue = some (row, ps) ∧ Keeps (these []) s t) ∧
      (∀ row ps v, s.dev.link.alignDue = some (row, ps) → rowAhead row s.dev.nextTickRow = false →
          s.dev.link.held = some v → s.dev.samp.ownTick = none →
        Runs .sampleTick s fun t => t.dev.nat Reg.tickAlign = ps ∧ t.dev.link.alignDue = none
          ∧ t.dev.bit Reg.linkStatus 2 = decide (ps < v + 500000)
          ∧ t.dev.isUntimed = (s.dev.samp.untimed || decide (ps < v + 500000))
          ∧ t.dev.bit Reg.linkStatus 1 = !t.dev.isUntimed ∧ Keeps (these [Reg.linkStatus, Reg.tickAlign]) s t))

/-- Rows at a member (on R178, R180, R195, R199, R212, R213, R229): an accepted row on the up port is numbered by its header,
or by one more where the header fails, and goes on by the walk of its arrival; one that fails the period check is no tick and
goes on with its slots unchanged; the first row makes its port the up port; a ring break makes its port the up port; a down
port out of which two rows have not come back is a dead end. Where the manual leaves a point open it follows the model's
choices (assumption 76). -/
def Obligations.RowsAtMember : Prop :=
  ∀ (s : State) (p : Port) (row flags : Nat) (timing : MarkTiming) (slots : List ServiceSlot),
    s.dev.monLive = true → s.dev.monHead = false → s.dev.nat (Reg.portState p.num) = 3 → (s.dev.portLink p).barred = false →
    (s.dev.nat Reg.upPort = p.num →
      Runs (.rowMarkReceived p row flags true true timing slots) s fun t => t.dev.nat Reg.rowNumber = row % 2 ^ 32
        ∧ t.dev.link.flags = flags ∧ t.dev.link.rowTaken = true ∧ t.dev.link.missedRows = 0
        ∧ t.dev.link.sentRow = row % 2 ^ 32 ∧ t.dev.link.rowsStarted = true
        ∧ (s.dev.reg (Reg.rowsReceived p.num) < 0xFFFFFFFF →
            t.dev.reg (Reg.rowsReceived p.num) = s.dev.reg (Reg.rowsReceived p.num) + 1)
        ∧ t.dev.bit Reg.linkStatus 0 = true
        ∧ Keeps (within [(0x2E01, 0x2E03)] [Reg.rowNumber, Reg.linkStatus]) s t) ∧
    (s.dev.nat Reg.upPort = p.num → s.dev.reg (Reg.headerErrors p.num) < 0xFFFFFFFF →
      Runs (.rowMarkReceived p row flags false true timing slots) s fun t =>
        t.dev.nat Reg.rowNumber = (s.dev.nat Reg.rowNumber + 1) % 2 ^ 32 ∧ t.dev.link.flags = s.dev.link.flags
        ∧ t.dev.reg (Reg.headerErrors p.num) = s.dev.reg (Reg.headerErrors p.num) + 1 ∧ t.dev.link.rowTaken = true
        ∧ Keeps (within [(0x2E01, 0x2E03)] [Reg.rowNumber, Reg.linkStatus]) s t) ∧
    (∀ headerOk, s.dev.nat Reg.upPort = p.num → s.dev.reg (Reg.rowPeriodErrors p.num) < 0xFFFFFFFF →
      Runs (.rowMarkReceived p row flags headerOk false timing slots) s fun t =>
        t.dev.nat Reg.rowNumber = s.dev.nat Reg.rowNumber ∧ t.dev.link.slots = slots.map receivedSlot
        ∧ t.dev.link.rowTaken = false ∧ t.dev.link.missedRows = s.dev.link.missedRows + 1
        ∧ t.dev.reg (Reg.rowPeriodErrors p.num) = s.dev.reg (Reg.rowPeriodErrors p.num) + 1
        ∧ Keeps (within [(0x2E01, 0x2E03)] []) s t) ∧
    (s.dev.nat Reg.upPort = 0xFF →
      Runs (.rowMarkReceived p row flags true true timing slots) s fun t => t.dev.nat Reg.upPort = p.num
        ∧ t.dev.nat Reg.rowNumber = row % 2 ^ 32
        ∧ t.dev.nat Reg.linkRateInForce = (if (s.dev.portLink p).rate25 then 1 else 0)
        ∧ Keeps (within [(0x2E01, 0x2E03)] [Reg.upPort, Reg.rowNumber, Reg.linkRateInForce, Reg.linkStatus]) s t) ∧
    (s.dev.comesBack p.num (row % 2 ^ 32) = true → Runs (.ringBreakReceived p row) s fun t => t = s) ∧
    (s.dev.nat Reg.upPort ≠ p.num → s.dev.comesBack p.num (row % 2 ^ 32) = false →
      Runs (.ringBreakReceived p row) s fun t => t.dev.nat Reg.upPort = p.num ∧ t.dev.reg Reg.cumulativeDelay = 0
        ∧ t.dev.link.held = none ∧ t.dev.nat Reg.rowNumber = row % 2 ^ 32 ∧ t.dev.link.rowTaken = true
        ∧ t.dev.link.flags.testBit 10 = false
        ∧ (∀ q : Port, s.dev.nat Reg.upPort = q.num → s.dev.nat (Reg.portState q.num) ≠ 3 →
            (t.dev.portLink q).barred = true)
        ∧ Keeps (within [(0x2E01, 0x2E03)] [Reg.upPort, Reg.cumulativeDelay, Reg.rowNumber, Reg.linkRateInForce,
            Reg.linkStatus]) s t) ∧
    (s.dev.downPartner p = true → (s.dev.link.flags.testBit 10 = false ∨ p = .c) → s.dev.link.sentOut = p.num →
        1 ≤ (s.dev.portLink p).misses →
      Runs (.deadEndMark p) s fun t => (t.dev.portLink p).deadEnd = true ∧ t.dev.downPartner p = false
        ∧ Keeps (these [Reg.forwardDelay 0, Reg.forwardDelay 1, Reg.forwardDelay 2]) s t)

/-- Windows at a member (on R183, R185 to R188, R197, R198, R202): the owner of a window puts its stitch there, address, three
slots, nibble and float bit under lead 101; a window of another address in its place is counted and left; a window on its
way is forwarded, on the insertion direction under lead 011 where it is bad here, and its faults are counted. Where the
manual leaves a point open it follows the model's choices (assumptions 21, 75 and 113). -/
def Obligations.WindowsAtMember : Prop :=
  ∀ (s : State) (w : RxWindow), s.dev.monLive = true → s.dev.monHead = false →
    (s.dev.link.rowTaken = true → s.dev.link.address ≠ 0 → w.addr = s.dev.link.address →
        ownsWindow (s.dev.nat Reg.windowAssignment) s.dev.row w.index = some true →
      Runs (.stitchInsert w) s fun t =>
        (∀ j r, stitchPlace s.dev.row (windowShare (s.dev.nat Reg.windowAssignment)) = (j, r) →
          t.dev.link.stitch = stitchBits s.dev.link.address (nth (s.dev.setOf r) (24 + 3 * j))
            (nth (s.dev.setOf r) (24 + 3 * j + 1)) (nth (s.dev.setOf r) (24 + 3 * j + 2)) s.dev.nibble false)
        ∧ t.dev.nat Reg.statusNibble = s.dev.nibble ∧ t.dev.link.upBits = s.dev.link.upBits ∧ t.dev.link.rx = s.dev.link.rx
        ∧ Keeps (these (Reg.statusNibble :: portCounters (s.dev.nat Reg.upPort))) s t) ∧
    (s.dev.link.rowTaken = true → s.dev.link.address ≠ 0 → w.addr = s.dev.link.address → w.crcOk = true → w.lead = 5 →
        w.alarmStruck = false → w.edgeErrors = 0 → (s.dev.link.rx.take (some w.floatBit)).2 = none →
        ownsWindow (s.dev.nat Reg.windowAssignment) s.dev.row w.index = some false →
      Runs (.stitchInsert w) s fun t =>
        (∀ j r, stitchPlace s.dev.row (windowShare (s.dev.nat Reg.windowAssignment)) = (j, r) →
          t.dev.link.stitch = stitchBits s.dev.link.address (nth (s.dev.setOf r) (3 * j)) (nth (s.dev.setOf r) (3 * j + 1))
            (nth (s.dev.setOf r) (3 * j + 2)) s.dev.nibble s.dev.nextFloatBit.1)
        ∧ t.dev.nat Reg.statusNibble = s.dev.nibble ∧ t.dev.link.upBits = s.dev.nextFloatBit.2.link.upBits
        ∧ t.dev.link.rx = (s.dev.link.rx.take (some w.floatBit)).1 ∧ Keeps (these (Reg.statusNibble :: Reg.linkStatus
            :: portCounters (s.dev.nat Reg.upPort))) s t) ∧
    (s.dev.link.rowTaken = true → s.dev.link.address ≠ 0 → w.addr ≠ s.dev.link.address →
        ownsWindow (s.dev.nat Reg.windowAssignment) s.dev.row w.index = some false →
        s.dev.reg (Reg.windowErrors (s.dev.nat Reg.upPort)) < 0xFFFFFFFF →
      Runs (.stitchInsert w) s fun t => Keeps (these (portCounters (s.dev.nat Reg.upPort))) s t
          ∧ t.dev.link.stitch = s.dev.link.stitch ∧ t.dev.link.rx.erased = true
        ∧ t.dev.reg (Reg.windowErrors (s.dev.nat Reg.upPort)) = s.dev.reg (Reg.windowErrors (s.dev.nat Reg.upPort)) + 1) ∧
    (∀ p : Port, s.dev.nat (Reg.portState p.num) = 3 →
      Runs (.windowForward p w) s fun t =>
        ((t.dev.portLink p).lead = if s.dev.nat Reg.upPort = p.num ∧ w.alarmStruck = false ∧ (w.crcOk = false
            ∨ w.edgeErrors ≠ 0 ∨ (w.lead ≠ 5 ∧ w.lead ≠ 0)) then 3 else w.lead)
        ∧ (w.lead = 3 → s.dev.reg (Reg.spoiledReceived p.num) < 0xFFFFFFFF →
            t.dev.reg (Reg.spoiledReceived p.num) = s.dev.reg (Reg.spoiledReceived p.num) + 1)
        ∧ (w.lead ≠ 3 → w.alarmStruck = true → s.dev.reg (Reg.alarmStruck p.num) < 0xFFFFFFFF →
            t.dev.reg (Reg.alarmStruck p.num) = s.dev.reg (Reg.alarmStruck p.num) + 1)
        ∧ (w.lead ≠ 3 → w.alarmStruck = false → windowBad w = true → s.dev.reg (Reg.crcErrors p.num) < 0xFFFFFFFF →
            t.dev.reg (Reg.crcErrors p.num) = s.dev.reg (Reg.crcErrors p.num) + 1)
        ∧ (w.alarmStruck = true → t.dev.reg (Reg.edgeErrors p.num) = s.dev.reg (Reg.edgeErrors p.num))
        ∧ (w.alarmStruck = false → t.dev.reg (Reg.edgeErrors p.num)
            = min (s.dev.reg (Reg.edgeErrors p.num) + w.edgeErrors) 0xFFFFFFFF)
        ∧ Keeps (these [Reg.edgeErrors p.num, Reg.spoiledReceived p.num, Reg.alarmStruck p.num, Reg.crcErrors p.num]) s t)

/-- A float frame's bits read back (on R191): what a frame carries is what the receiver parses from its content. -/
def Obligations.FrameRoundTrip : Prop :=
  ∀ (kind seq : Nat) (payload : List Nat), 1 ≤ kind → kind ≤ 3 → seq < 16 → payload.length ≤ 64 →
    (∀ b ∈ payload, b < 256) → parseFrame (frameContent kind seq payload) = some (kind, seq, payload)

/-- Float frames at a member (on R191, R193): a frame that is not intact, does not parse or is no request is counted; an
intact request is executed once, as the request that its payload spells is by the segment agent, and for instance a Read of
ProductCode is answered with its four bytes; a repeat of the last request is answered with the stored response; a diagnostic report is
queued when its content has changed. Where the manual leaves a point open it follows the model's choices (assumptions 69 and
75). -/
def Obligations.FloatAtMember : Prop :=
  ∀ s : State, s.dev.monLive = true → s.dev.monHead = false →
    (∀ bytes intact, s.dev.link.address ≠ 0 → s.dev.reg Reg.floatFrameErrors < 0xFFFFFFFF →
        (intact = true → ∀ seq payload, parseFrame bytes ≠ some (1, seq, payload)) →
      Runs (.floatFrameMember bytes intact) s fun t => t.dev.reg Reg.floatFrameErrors = s.dev.reg Reg.floatFrameErrors + 1
        ∧ t.dev.svc = s.dev.svc ∧ Keeps (these [Reg.floatFrameErrors]) s t) ∧
    (∀ bytes seq payload c f, s.dev.link.address ≠ 0 → parseFrame bytes = some (1, seq, payload) →
        (s.dev.svc.agentSeq ≠ some seq ∨ s.dev.svc.agent.sent ≠ payload) →
        c = (targetWord payload).testBit 12 → f = (targetWord payload).testBit 13 →
      Runs (.floatFrameMember bytes true) s fun t => t = s.onDev (fun d => ({ d with svc := { d.svc with
        agentSeq := some seq, agent := { d.svc.agent with sent := payload } } } : Dev).request (.float c f)
          (parseAsk payload))) ∧
    (∀ bytes seq payload, s.dev.link.address ≠ 0 → parseFrame bytes = some (1, seq, payload) →
        s.dev.svc.agentSeq ≠ some seq → s.dev.svc.agent.waiting = false → s.dev.svc.agent.transfer = .idle →
        payload.length = 6 → nth payload 0 = 1 → nth payload 1 = 2 → (payload.drop 2).take 2 = [0x00, 0x10] →
      Runs (.floatFrameMember bytes true) s fun t => t.dev.link.upResponse = some (frameContent 2 seq
            (0x81 :: ((payload.drop 1).take 4 ++ [nth payload 5 % 16] ++ ObjType.u32.bytes (s.dev.reg Reg.productCode))))
          ∧ t.dev.svc.agentSeq = some seq ∧ Keeps (these [Reg.linkStatus]) s t) ∧
    (∀ bytes seq payload, s.dev.link.address ≠ 0 → parseFrame bytes = some (1, seq, payload) →
        s.dev.svc.agentSeq = some seq → s.dev.svc.agent.sent = payload →
      Runs (.floatFrameMember bytes true) s fun t => t.dev.link.upResponse = some s.dev.svc.agentAnswer
        ∧ t.dev.svc = s.dev.svc ∧ Keeps (these [Reg.linkStatus]) s t) ∧
    (s.dev.report ≠ s.dev.link.reportSent →
      Runs .diagnosticReport s fun t =>
        t.dev.link.upReport = some (frameContent 3 (s.dev.link.reportSeq + 1) s.dev.report)
        ∧ t.dev.link.reportSent = s.dev.report ∧ t.dev.bit Reg.linkStatus 4 = true ∧ Keeps (these [Reg.linkStatus]) s t)

/-! ## The chain (chapters 7 and 8) -/

/-- Rows of the head (on R178, R180, R182, R195, R211, R214, R226, R268): a row start numbers and heads the next row and
sends it out by the first leg; an accepted return goes on by the next leg, and after the last one fills the next entry of the
row ring, of which every other byte is kept, and with a page table for the receiver an entry whose first word that table faults
is not written; once its rows have ended the head sends none; a row that the head has not sent out for the port stops the port; a header that
fails is counted; a return that does not come ends the row and leaves the leg out the second time. Where the manual leaves a
point open it follows the model's choices (assumptions 79, 139 and 163). -/
def Obligations.RowsAtHead : Prop :=
  ∀ (s : State), s.dev.drivesRows = true →
    (s.dev.rowsEnded = true → s.dev.svc.requests = [] → Runs .rowStart s fun t => t = s) ∧
    (∀ row, s.dev.rowsEnded = false → row = (if s.dev.link.rowsStarted then (s.dev.row + 1) % 2 ^ 32 else 0) →
      Runs .rowStart s fun t => t.dev.nat Reg.rowNumber = row ∧ t.dev.link.flags = t.dev.rowFlags row
        ∧ t.dev.link.header = headerBits row (t.dev.rowFlags row)
        ∧ t.dev.link.rowsStarted = true ∧ t.dev.link.sentRow = row
        ∧ t.dev.link.sentOut = ((t.dev.walkLegs.head?).map (·.1)).getD 3
        ∧ t.dev.nat Reg.chainState = (if s.dev.nat Reg.chainState = 0 then 4 else s.dev.nat Reg.chainState)
        ∧ t.dev.link.slots.length = (if s.dev.on Reg.linkRateInForce then 1 else 4)
        ∧ t.dev.link.windows.length = s.dev.windowCount
        ∧ (s.dev.svc.requests = [] → s.dev.chain.windowChanges = [] →
            Keeps (these [Reg.rowNumber, Reg.linkStatus, Reg.chainState, Reg.topology, Reg.forwardDelay 0,
              Reg.forwardDelay 1, Reg.forwardDelay 2, Reg.deviceCount, Reg.absentMembers, Reg.windowsFree]) s t)) ∧
    (∀ (p : Port) (h next : Nat), h = (if s.dev.nat Reg.rowRingHead = 0xFF then 0 else (s.dev.nat Reg.rowRingHead + 1) % 64) →
        next = ((s.dev.legsAfter.find? (fun l => s.dev.walkLegs.contains l)).map (·.1)).getD 3 →
        s.dev.on (Reg.tableLength 9) = false → s.dev.nat (Reg.portState p.num) = 3 → s.dev.legReturn p.num = true → s.dev.sentFor p.num s.dev.row = true →
        ¬ (s.dev.chain.ring = false ∧ p = .b ∧ s.dev.link.sentOut = 0) →
        ∀ (periodOk : Bool) (timing : MarkTiming) (ws : List RxWindow) (slots : List ServiceSlot),
        timing.sincePs ≤ 100000000 →
      Runs (.rowReturn p s.dev.row true periodOk timing ws slots) s fun t =>
        t.dev.link.sentOut = next ∧ (t.dev.portLink p).misses = 0
        ∧ (next < 3 → t.mem = s.mem)
        ∧ (3 ≤ next → t.dev.nat Reg.rowRingHead = h ∧ t.dev.nat Reg.walkTime = timing.sincePs
          ∧ (s.dev.reg Reg.rowRingWritten < 0xFFFFFFFF →
              t.dev.reg Reg.rowRingWritten = s.dev.reg Reg.rowRingWritten + 1)
          ∧ memReadBytes t.mem (0x10080000 + h * 1508) 4 = leBytes 4 s.dev.row
          ∧ memReadBytes t.mem (0x10080000 + h * 1508 + 1504) 4 = leBytes 4 s.dev.row
          ∧ (∀ a, (a < 0x10080000 + h * 1508 ∨ 0x10080000 + h * 1508 + 1508 ≤ a) → memRead a t.mem = memRead a s.mem))) ∧
    (∀ (p : Port) (h v : Nat), h = (if s.dev.nat Reg.rowRingHead = 0xFF then 0 else (s.dev.nat Reg.rowRingHead + 1) % 64) →
        v = Config.ringPage.toNat * 4096 + h * 1508 → s.dev.on (Reg.tableLength 9) = true →
        (s.dev.legsAfter.find? (fun l => s.dev.walkLegs.contains l)) = none →
        s.dev.nat (Reg.portState p.num) = 3 → s.dev.legReturn p.num = true → s.dev.sentFor p.num s.dev.row = true →
        ¬ (s.dev.chain.ring = false ∧ p = .b ∧ s.dev.link.sentOut = 0) →
        (faultKind (s.dev.translate 9 v true)).isSome = true →
        ∀ (periodOk : Bool) (timing : MarkTiming) (ws : List RxWindow) (slots : List ServiceSlot),
        timing.sincePs ≤ 100000000 →
      Runs (.rowReturn p s.dev.row true periodOk timing ws slots) s fun t => t.mem = s.mem
        ∧ t.dev.reg Reg.rowRingHead = s.dev.reg Reg.rowRingHead
        ∧ t.dev.reg Reg.rowRingWritten = s.dev.reg Reg.rowRingWritten ∧ Raised 45 t) ∧
    (∀ (p : Port) (row : Nat), s.dev.nat (Reg.portState p.num) = 3 → s.dev.sentFor p.num row = false →
        ¬ (p = .b ∧ s.dev.link.sentOut = 0) → s.dev.chain.upFrames = [] → s.dev.chain.timingRows = [] →
        ∀ (periodOk : Bool) (timing : MarkTiming) (ws : List RxWindow) (slots : List ServiceSlot),
      Runs (.rowReturn p row true periodOk timing ws slots) s fun t => (t.dev.portLink p).driven = false
        ∧ t.dev.bit Reg.chainFlags (6 + p.num) = true ∧ t.dev.bit Reg.linkStatus 5 = true
        ∧ ((s.dev.portLink p).driven = true → Raised 33 t)
        ∧ Keeps (withinEvents [(0x2E01, 0x2E03)] [Reg.chainFlags, Reg.linkStatus, Reg.topology]) s t) ∧
    (∀ (p : Port) (row : Nat), s.dev.nat (Reg.portState p.num) = 3 → s.dev.reg (Reg.headerErrors p.num) < 0xFFFFFFFF →
        s.dev.chain.upFrames = [] → s.dev.chain.timingRows = [] →
        ∀ (periodOk : Bool) (timing : MarkTiming) (ws : List RxWindow) (slots : List ServiceSlot),
      Runs (.rowReturn p row false periodOk timing ws slots) s fun t =>
        t.dev.reg (Reg.headerErrors p.num) = s.dev.reg (Reg.headerErrors p.num) + 1 ∧ t.dev.chain.calling = false
        ∧ t.dev.link.sentOut = s.dev.link.sentOut ∧ Keeps (within [(0x2E01, 0x2E03)] []) s t) ∧
    (∀ p : Port, s.dev.legReturn p.num = true → ¬ (s.dev.chain.ring = true ∧ p = .b) → s.dev.link.ringRow = none →
        s.dev.chain.upFrames = [] →
      Runs (.returnLimitExpiry p) s fun t => t.dev.link.sentOut = 3 ∧ t.dev.chain.calling = false
        ∧ (t.dev.portLink p).leftOut = decide (1 ≤ (s.dev.portLink p).misses)
        ∧ Keeps (fun k => s.dev.usedAddresses.any (fun a => k == (Reg.missingRows a).key) || within [(0x2E01,
            0x2E03)] [Reg.topology] k) s t) ∧
    (s.dev.chain.ring = true → s.dev.legReturn 1 = true → s.dev.link.ringRow = none → s.dev.chain.upFrames = [] →
      Runs (.returnLimitExpiry .b) s fun t => t.dev.chain.ringMisses = s.dev.chain.ringMisses + 1
        ∧ t.dev.link.sentOut = 3 ∧ Keeps (fun k => s.dev.usedAddresses.any (fun a => k == (Reg.missingRows a).key)
            || within [(0x2E01, 0x2E03)] [] k) s t)

/-- Cast-on (on R216 to R222, R224): a pass begins, opens, calls, assigns the device whose claim it holds the next address
with windows of its own, records the member from its claim and from step 7 of start-up on also admits it, sends an assign
again, up to three times, or leaves a hole, and closes. Where the manual leaves a point open it follows the model's choices
(assumptions 77, 78, 114 and 197). -/
def Obligations.CastOnAtHead : Prop :=
  ∀ s : State, s.dev.drivesRows = true →
    (s.dev.chainBusy = false →
      Runs .fullCastOn s fun t => t.dev.nat Reg.chainState = 1 ∧ t.dev.chain.full = true ∧ t.dev.chain.opened = false
        ∧ t.dev.nat (Reg.mirrorState 1) = 1 ∧ t.dev.svc = s.dev.svc
        ∧ (∀ p : Port, (t.dev.portLink p).driven = true ∧ (t.dev.portLink p).leftOut = false)
        ∧ Keeps (within [(0x2E01, 0x2E03)] [Reg.chainState, Reg.linkRateInForce, Reg.mirrorState 1, Reg.memberSerial 1,
            Reg.channelCount 1]) s t) ∧
    (∀ r, s.dev.chain.incrementalAt = some r → s.dev.chainBusy = false → s.dev.rowsEnded = false →
        rowAhead r s.dev.row = false →
      Runs .incrementalPass s fun t => t.dev.nat Reg.chainState = 3 ∧ t.dev.chain.full = false
        ∧ t.dev.chain.incrementalAt = none ∧ Keeps (these [Reg.chainState]) s t) ∧
    (∀ pass full, s.dev.nat Reg.chainState = 3 → s.dev.chain.opened = false → s.dev.chain.full = false →
      Runs (.passOpen pass full) s fun t => t.dev.chain.pass = (s.dev.chain.pass + 1) % 256 ∧ t.dev.chain.opened = true
        ∧ t.dev.chain.slot0 = some (4, 4095, (s.dev.chain.pass + 1) % 256) ∧ t.dev.chain.fragments = []
        ∧ Keeps (these []) s t) ∧
    (∀ pass full, s.dev.nat Reg.chainState = 1 → s.dev.link.rowsStarted = true → s.dev.chain.full = true →
        7 ≤ (s.dev.row + 2 ^ 32 - s.dev.chain.startRow) % 2 ^ 32 →
      Runs (.passOpen pass full) s fun t => t.dev.nat Reg.chainState = 2 ∧ t.dev.nat Reg.highestAddress = 1
        ∧ t.dev.nat Reg.deviceCount = 1 ∧ t.dev.nat Reg.holeCount = 0
        ∧ t.dev.chain.slot0 = some (4, 4095, (s.dev.chain.pass + 1) % 256 + 256)
        ∧ Keeps (fun k => s.dev.usedAddresses.any (fun a => k == (Reg.mirrorState a).key
            || k == (Reg.memberWindows a).key) || these [Reg.chainState, Reg.highestAddress, Reg.absentMembers,
            Reg.chainFlags, Reg.deviceCount, Reg.holeCount, Reg.walkTimeMax, Reg.windowsFree] k) s t) ∧
    (∀ nonce, s.dev.chain.opened = true → s.dev.chain.slot0 = none → s.dev.chain.calling = false →
        s.dev.chain.assigning = none → s.dev.chain.claim = none → s.dev.chain.closing = false →
      Runs (.call nonce) s fun t => t.dev.chain.calling = true ∧ t.dev.chain.nonce = nonce % 65536
        ∧ Keeps (these []) s t) ∧
    (∀ c, s.dev.chain.claim = some c → ∀ wa, s.dev.allocWindows c.count (min c.rate 2) = some wa →
        s.dev.chain.opened = true → s.dev.chain.assigning = none → s.dev.nat Reg.highestAddress < 4094 →
        ∀ address windows nonce,
      Runs (.assign address windows nonce) s fun t =>
        t.dev.chain.assigning = some (s.dev.nat Reg.highestAddress + 1, wa, c.nonce, 0) ∧ Keeps (these []) s t) ∧
    (∀ c, s.dev.chain.claim = some c → s.dev.allocWindows c.count (min c.rate 2) = none →
        s.dev.chain.opened = true → s.dev.chain.assigning = none → s.dev.nat Reg.highestAddress < 4094 →
        ∀ address windows nonce,
      Runs (.assign address windows nonce) s fun t => t.dev.bit Reg.chainFlags 0 = true ∧ Raised 36 t
        ∧ t.dev.chain.closing = true ∧ Keeps (orEvents [Reg.chainFlags]) s t) ∧
    (∀ g, s.dev.chain.assigning = some g → ∀ c, s.dev.chain.claim = some c → ∀ a, a = g.1 → a ≤ 4094 → g.2.2.2 ≠ 0 →
        s.dev.nat Reg.startupState ≠ 7 → s.dev.nat Reg.startupState ≠ 8 →
      Runs (.assignAccepted true) s fun t => t.dev.nat (Reg.mirrorState a) = 1
        ∧ t.dev.nat (Reg.memberWindows a) = g.2.1 ∧ t.dev.nat (Reg.channelCount a) = c.count
        ∧ t.dev.nat (Reg.memberDelay a) = c.delay ∧ t.dev.nat (Reg.memberUpPort a) = c.upPort
        ∧ t.dev.nat (Reg.memberSerial a) = 0
        ∧ t.dev.nat Reg.highestAddress = a ∧ t.dev.chain.assigning = none ∧ t.dev.chain.claim = none
        ∧ a ∈ t.dev.chain.thisPass ∧ t.dev.svc = s.dev.svc
        ∧ Keeps (fun k => t.dev.chain.tree.any (fun m => these [Reg.parentAddress m.1, Reg.walkPosition m.1, Reg.hops m.1] k)
            || these [Reg.mirrorState a, Reg.memberWindows a, Reg.channelCount a, Reg.memberDelay a, Reg.memberUpPort a,
              Reg.memberSerial a, Reg.highestAddress, Reg.deviceCount, Reg.absentMembers, Reg.windowsFree, Reg.topology,
              Reg.maxHops, Reg.chainFlags] k) s t) ∧
    (∀ g, s.dev.chain.assigning = some g → ∀ c, s.dev.chain.claim = some c → g.1 ≤ 4094 → g.2.2.2 ≠ 0 →
        (s.dev.nat Reg.startupState = 7 ∨ s.dev.nat Reg.startupState = 8) →
      Runs (.assignAccepted true) s fun t => t.dev.nat (Reg.mirrorState g.1) = 1
        ∧ ∃ l, t.dev.svc.requests = s.dev.svc.requests
          ++ ⟨g.1, 3, readMessage g.1 0x1000 5, [], 0, false, 0⟩ :: ⟨g.1, 3, [], [], 0, false, 0⟩ :: l) ∧
    (∀ g, s.dev.chain.assigning = some g → ∀ a, a = g.1 → a ≤ 4094 → 4 ≤ g.2.2.2 → ∀ c, s.dev.chain.claim = some c →
      Runs (.assignAccepted false) s fun t => t.dev.nat (Reg.mirrorState a) = 3
        ∧ t.dev.nat (Reg.memberWindows a) = g.2.1 ∧ t.dev.nat (Reg.channelCount a) = c.count
        ∧ t.dev.nat (Reg.memberDelay a) = c.delay ∧ t.dev.nat (Reg.memberUpPort a) = c.upPort
        ∧ t.dev.nat Reg.highestAddress = a ∧ Raised 38 t ∧ t.dev.chain.assigning = none ∧ t.dev.chain.claim = none
        ∧ a ∈ t.dev.chain.thisPass
        ∧ Keeps (fun k => t.dev.chain.tree.any (fun m => these [Reg.parentAddress m.1, Reg.walkPosition m.1, Reg.hops m.1] k)
            || orEvents [Reg.mirrorState a, Reg.memberWindows a, Reg.channelCount a, Reg.memberDelay a, Reg.memberUpPort a,
              Reg.memberSerial a, Reg.highestAddress, Reg.deviceCount, Reg.holeCount, Reg.absentMembers, Reg.windowsFree,
              Reg.topology, Reg.maxHops, Reg.chainFlags] k) s t) ∧
    (∀ g, s.dev.chain.assigning = some g → 1 ≤ g.2.2.2 → g.2.2.2 < 4 → s.dev.chain.claim ≠ none →
      Runs (.assignAccepted false) s fun t => t = s) ∧
    (s.dev.chain.opened = true → s.dev.chain.closing = true →
        (∀ e ∈ s.dev.chain.alignRow.toList, rowAhead e.1 s.dev.row = false) →
      Runs .passClose s fun t => t.dev.nat Reg.chainState = 4 ∧ t.dev.chain.opened = false ∧ t.dev.chain.closing = false
        ∧ t.dev.chain.alignRow = none ∧ t.dev.chain.thisPass = []
        ∧ (s.dev.atStep 6 = true → s.dev.calibrating = false → t.dev.nat Reg.startupState = 7)
        ∧ Keeps (these [Reg.castOnTime, Reg.chainState, Reg.topology, Reg.maxHops, Reg.chainFlags, Reg.startupState,
            Reg.memberRequestsWaiting]) s t)

/-- Cast-on at a member (on R189, R216 to R218, R230): it accepts the open row, replaces a call of that pass with a claim in
slot 0, takes the address and windows of the assign that carries its nonce and no other, and with an address takes new
windows for that address; what it takes passes on with bit [59] set. Where the manual leaves a point open it follows the
model's choices (assumption 116). -/
def Obligations.CastOnAtMember : Prop :=
  ∀ s : State, s.dev.drivesRows = false → s.dev.monLive = true → s.dev.monHead = false → s.dev.link.rowTaken = true →
    (∀ pass, Runs (.passOpen pass true) s fun t => t.dev.link.passAccepted = some (pass % 256) ∧ t.dev.link.address = 0
        ∧ t.dev.link.claimNonce = none ∧ t.dev.nat Reg.windowAssignment = 0x0007F07F
        ∧ (∀ p : Port, (t.dev.portLink p).barred = false)
        ∧ Keeps (these [Reg.windowAssignment, Reg.floatRate]) s t) ∧
    (∀ pass, Runs (.passOpen pass false) s fun t => t.dev.link.passAccepted = some (pass % 256)
        ∧ t.dev.link.address = s.dev.link.address ∧ Keeps (these []) s t) ∧
    (∀ pass nonce, s.dev.link.address = 0 → s.dev.link.passAccepted = some (pass % 256) →
      Runs (.claim pass nonce) s fun t => t.dev.link.claimNonce = some (nonce % 65536)
        ∧ (∀ i, s.dev.slotIndex s.dev.link.sentRow 0 = some i →
            t.dev.link.slots = s.dev.link.slots.set i (slotBits 6 0 (s.dev.claimArg pass nonce)))
        ∧ Keeps (these []) s t) ∧
    (∀ pass nonce, (s.dev.link.address ≠ 0 ∨ s.dev.link.passAccepted ≠ some (pass % 256)) →
      Runs (.claim pass nonce) s fun t => t = s) ∧
    (∀ address windows nonce, (s.dev.link.address = 0 ∧ s.dev.link.claimNonce = some nonce
          ∨ s.dev.link.address ≠ 0 ∧ nonce = 0 ∧ address = s.dev.link.address) →
      Runs (.assign address windows nonce) s fun t => t.dev.link.address = address % 4096
        ∧ t.dev.nat Reg.windowAssignment = windows % 2 ^ 22 ∧ t.dev.link.claimNonce = none
        ∧ t.dev.nat Reg.floatRate = floatRateOf (windows % 2 ^ 22)
        ∧ (∀ i, s.dev.slotIndex s.dev.link.sentRow 0 = some i → t.dev.link.slots = s.dev.link.slots.set i
            (slotBits 7 s.dev.link.address (address % 4096 + 2 ^ 12 * (windows % 2 ^ 22) + 2 ^ 34 * (nonce % 65536) + 2 ^ 59)))
        ∧ Keeps (these [Reg.windowAssignment, Reg.floatRate]) s t) ∧
    (∀ address windows nonce, (s.dev.link.address = 0 ∧ s.dev.link.claimNonce ≠ some nonce
          ∨ s.dev.link.address ≠ 0 ∧ (nonce ≠ 0 ∨ address ≠ s.dev.link.address)) →
      Runs (.assign address windows nonce) s fun t => t = s)

/-- The chain after cast-on (on R221 to R225, R231, R236): a presence code is counted and may set an incremental pass, a
silent member turns absent or a hole, a member that speaks returns, a sample set is written only once complete, and a D read
from a late member moves TickAlign. Bind-off, rate fallback and ring break (on R227, R228,
R231): a bind-off ends the cast-on and, at its effect row, clears every mirror and with action 1 ends the rows; at the member it clears the address, the
windows, D and the up port. Where the manual leaves a point open it follows the model's choices (assumptions 77, 78 and 148). -/
def Obligations.ChainUpkeep : Prop :=
  (∀ s : State, s.dev.drivesRows = true →
      (∀ f, s.dev.nat Reg.chainState = 4 → field (s.dev.nat Reg.chainFlags) 0 1 = 0 → f ∉ s.dev.chain.fragments →
          s.dev.chain.fragments.length < 64 → s.dev.reg Reg.lateStitchCount < 0xFFFFFFFF →
        Runs (.presenceCode f) s fun t => t.dev.chain.fragments = s.dev.chain.fragments ++ [f] ∧ Raised 37 t
          ∧ t.dev.reg Reg.lateStitchCount = s.dev.reg Reg.lateStitchCount + 1
          ∧ (s.dev.on Reg.autoIncremental = true → s.dev.chain.incrementalAt = none →
              t.dev.chain.incrementalAt = some ((s.dev.row + 8) % 2 ^ 32))
          ∧ Keeps (orEvents [Reg.lateStitchCount]) s t) ∧
      (∀ a, s.dev.chain.opened = true → a ∈ s.dev.chain.thisPass → s.dev.nat (Reg.mirrorState a) = 1 →
          s.dev.silent a = true → s.dev.svc.requests = [] → a ≤ 4094 →
        Runs (.castOnHole a) s fun t => t.dev.nat (Reg.mirrorState a) = 3 ∧ Raised 38 t
          ∧ Keeps (orEvents [Reg.mirrorState a, Reg.holeCount, Reg.deviceCount, Reg.absentMembers, Reg.windowsFree,
              Reg.memberRequestsWaiting, Reg.maxHops, Reg.chainFlags]) s t) ∧
      (∀ a, 2 ≤ a → a ≤ s.dev.nat Reg.highestAddress → a ∉ s.dev.chain.thisPass → s.dev.nat (Reg.mirrorState a) = 1 →
          s.dev.silent a = true → s.dev.svc.requests = [] → s.dev.nat Reg.highestAddress ≤ 4094 →
        Runs (.memberAbsent a) s fun t => t.dev.nat (Reg.mirrorState a) = 2 ∧ Raised 39 t
          ∧ Keeps (orEvents [Reg.mirrorState a, Reg.memberAbsentCount a, Reg.deviceCount, Reg.absentMembers,
              Reg.windowsFree,
              Reg.memberRequestsWaiting]) s t) ∧
      (∀ a, (s.dev.nat (Reg.mirrorState a) = 2 ∨ s.dev.nat (Reg.mirrorState a) = 3) → s.dev.silent a = false →
        Runs (.memberReturned a) s fun t => t.dev.nat (Reg.mirrorState a) = 1
          ∧ (s.dev.nat (Reg.mirrorState a) = 2 → Raised 40 t)
          ∧ Keeps (orEvents [Reg.mirrorState a, Reg.deviceCount, Reg.absentMembers, Reg.windowsFree, Reg.maxHops,
              Reg.chainFlags]) s t) ∧
      (∀ a, a ≠ 1 → ∀ e, s.dev.chain.sets.find? (fun x => x.member == a) = some e → s.dev.setComplete e = true →
        Runs (.mirrorSetWrite a) s fun t => t.dev.regs = s.dev.regs ∧ t.mem = s.mem
          ∧ t.dev.blob (Reg.channelSet a).key [] = leBytes 4 e.row ++ (List.range 26).flatMap (fun c => leBytes 4
              ((((e.parts.find? (fun x => x.1 == c)).map (·.2)).getD 0) % 2 ^ 20))
          ∧ (∀ q, q ≠ (Reg.channelSet a).key → t.dev.blob q [] = s.dev.blob q [])) ∧
      (∀ a, a ≠ 1 → ∀ e, s.dev.chain.sets.find? (fun x => x.member == a) = some e → s.dev.setComplete e = false →
        Runs (.mirrorSetWrite a) s fun t => t = s) ∧
      (∀ a r, Tab.find a s.dev.chain.timingRows = some r → s.dev.nat Reg.chainState = 4 →
          64 ≤ (s.dev.row + 2 ^ 32 - r.toNat) % 2 ^ 32 → ∀ v,
        Runs (.tickAlignUpdate a v) s fun t => t.dev.nat (Reg.memberDelay a) = v ∧ Keeps (these [Reg.memberDelay a]) s t
          ∧ (s.dev.chain.alignRow = none → t.dev.alignValue ≠ s.dev.nat Reg.tickAlign →
              t.dev.chain.alignRow = some (nextAlign s.dev.row, t.dev.alignValue)))) ∧
  (∀ s : State,
      (∀ sleep, s.dev.drivesRows = true → s.dev.chainBusy = false → s.dev.rowsEnded = false →
        Runs (.bindOff sleep) s fun t => t.dev.nat Reg.chainState = 5
          ∧ t.dev.chain.bindOff = some (none, if sleep then 1 else 0) ∧ Keeps (these [Reg.chainState]) s t) ∧
      (s.dev.fallbackDue = true →
        Runs .rateFallback s fun t => t.dev.bit Reg.chainFlags 4 = true ∧ t.dev.chain.fallback = true
          ∧ t.dev.chain.restart = true ∧ t.dev.chain.bindOff = some (none, 0) ∧ t.dev.nat Reg.chainState = 5
          ∧ Keeps (these [Reg.chainState, Reg.chainFlags]) s t) ∧
      (s.dev.drivesRows = true → s.dev.chain.ring = true → 2 ≤ s.dev.chain.ringMisses →
          s.dev.reg Reg.ringBreakCount < 0xFFFFFFFF →
          s.dev.chain.breakDue = false →
        Runs .ringBreak s fun t => t.dev.chain.breakDue = true ∧ t.dev.chain.broken = true ∧ Raised 42 t
          ∧ t.dev.reg Reg.ringBreakCount = s.dev.reg Reg.ringBreakCount + 1
          ∧ Keeps (orEvents [Reg.ringBreakCount, Reg.topology]) s t) ∧
      (∀ b, s.dev.chain.bindOff = some b → ∀ e, b.1 = some e → s.dev.drivesRows = true → rowAhead e s.dev.row = false →
          s.dev.pwr.logic ≠ .sleepEntry → s.dev.chain.restart = false →
        Runs .bindOffEffect s fun t => t.dev.nat Reg.chainState = (if b.2 = 1 then 0 else 4) ∧ t.dev.chain.bindOff = none
          ∧ (b.2 = 1 → s.dev.link.rowsStarted = true → t.dev.rowsEnded = true)
          ∧ t.dev.nat Reg.highestAddress = 1 ∧ t.dev.nat Reg.deviceCount = 1
          ∧ (∀ a ∈ s.dev.usedAddresses, t.dev.nat (Reg.mirrorState a) = 0)
          ∧ Keeps (fun k => s.dev.usedAddresses.any (fun a => k == (Reg.mirrorState a).key
              || k == (Reg.memberWindows a).key) || these [Reg.chainState, Reg.highestAddress, Reg.absentMembers,
              Reg.deviceCount, Reg.windowsFree] k) s t) ∧
      (∀ b, s.dev.link.bindOff = some b → s.dev.monHead = false → s.dev.monLive = true → b.2 = 0 →
          rowAhead b.1 s.dev.row = false →
        Runs .bindOffEffect s fun t => t.dev.link.address = 0 ∧ t.dev.nat Reg.windowAssignment = 0x0007F07F
          ∧ t.dev.nat Reg.upPort = 0xFF ∧ t.dev.nat Reg.cumulativeDelay = 0 ∧ t.dev.link.bindOff = none
          ∧ Keeps (these [Reg.windowAssignment, Reg.floatRate, Reg.upPort, Reg.cumulativeDelay, Reg.linkStatus]) s t))

/-! ## The object service (chapter 9) -/

/-- Reads and writes of the device's own objects (on R239, R240, R246, R247, R249, R252, R438): a read answers the object's
bytes, or opens a transfer of them; a write in range, which keeps the relations, stores the value; a write to an object of its
own effect has that effect; every other request is answered with the abort of the first test that it fails. Where the manual
leaves a point open it follows the model's choices (assumptions 57, 58 and 62). -/
def Obligations.ReadsAndWrites : Prop :=
  ∀ (s : State) (who : Requester) (target i sub : Nat) (v : List Nat), ForSelf who target → Accepts s who →
    (∀ q : Ask, q = ⟨target, i, sub, .read⟩ → ∀ d, d = meets s who .read →
      (∀ r, (locate (byAgent who) i sub).toOption = some r → r.acc ≠ .wo → s.dev.crossingFails (byAgent who) i = false →
        (r.ty.bulk = false →
          Runs (.read who target i sub) s fun t =>
            Answers who (q.reply 0x81 (r.ty.bytes (d.fixedValue (byAgent who) (i * 256 + sub)))) t
            ∧ (i * 256 + sub ≠ Reg.chargeFaultLatched.key → Keeps (orAnswer [Reg.snapReady]) s t)
            ∧ Keeps (orBoth [Reg.snapReady, Reg.chargeFaultLatched, Reg.chargeState]) s t) ∧
        (r.ty.bulk = true → bankOf i = none → ∀ data, (d.bulkValue r i sub).1.toOption = some data →
          Runs (.read who target i sub) s fun t =>
            Answers who (q.reply 0x86 (leBytes 4 data.length)) t
            ∧ (who ≠ .firmware → t.dev.transfer who =
                if data.isEmpty then d.transfer who else .reading target i sub data 0 false)
            ∧ Keeps (orAnswer [Reg.snapReady]) s t) ∧
        (r.ty.bulk = true → bankOf i = none → (d.bulkValue r i sub).1.toOption = none →
          Runs (.read who target i sub) s fun t =>
            Answers who (q.abort (byAgent who) commandRefused) t
            ∧ Keeps (orAnswer [Reg.snapReady, Reg.logVoidPages, Reg.logOldestSequence, Reg.logNewestSequence]) s t) ∧
        (∀ g, bankOf i = some g → sub = 1 →
          Runs (.read who target i sub) s fun t =>
            Answers who (q.reply 0x86 (leBytes 4 (4 * groupWords g))) t
            ∧ (who ≠ .firmware → t.dev.transfer who = .reading target i sub (d.bankBytes g) 0 false)
            ∧ Keeps (orAnswer [Reg.snapReady]) s t)) ∧
      (∀ r, (locate (byAgent who) i sub).toOption = some r → r.acc = .wo →
        Runs (.read who target i sub) s fun t =>
          Answers who (q.abort (byAgent who) writeOnly) t ∧ Keeps (orAnswer [Reg.snapReady]) s t) ∧
      (∀ r, (locate (byAgent who) i sub).toOption = some r → r.acc ≠ .wo → s.dev.crossingFails (byAgent who) i = true →
          s.dev.cpuLive = true → s.dev.reg Reg.islandTimeouts < 0xFFFFFFFF →
        Runs (.read who target i sub) s fun t =>
          Answers who (q.abort (byAgent who) hardwareFault) t
          ∧ t.dev.reg Reg.islandTimeouts = s.dev.reg Reg.islandTimeouts + 1 ∧ Raised 32 t
          ∧ Keeps (orBoth [Reg.snapReady, Reg.islandTimeouts]) s t) ∧
      ((locate (byAgent who) i sub).toOption = none →
        Runs (.read who target i sub) s fun t =>
          ((∃ e ∈ [noSuchObject, notInRole], Answers who (q.abort (byAgent who) e) t)
              ∧ Keeps (orAnswer [Reg.snapReady]) s t))) ∧
    (∀ q : Ask, q = ⟨target, i, sub, .write v⟩ → ∀ d, d = meets s who (.write v) →
      (∀ u, (d.writeFixed (byAgent who) (s.dev.rights who) i sub v).toOption = some u → q.softResets = false →
        Runs (.write who target i sub v) s fun t => Answers who (q.reply 0x82 []) t ∧ Leaves u s t) ∧
      (∀ x, refusalOf (d.writeFixed (byAgent who) (s.dev.rights who) i sub v) = some x →
        Runs (.write who target i sub v) s fun t => Answers who (q.abort (byAgent who) x.1) t ∧ Leaves x.2 s t) ∧
      ((mayWrite (byAgent who) (s.dev.rights who) i sub).isOk = false →
        Runs (.write who target i sub v) s fun t =>
          (∃ e ∈ [noSuchObject, notInRole, readOnly, commissioningRequired, unlockRequired],
            Answers who (q.abort (byAgent who) e) t) ∧ Keeps (orAnswer []) s t) ∧
      (∀ r, (mayWrite (byAgent who) (s.dev.rights who) i sub).toOption = some r →
        ((r.ty.bulk = true ∨ v.length < r.ty.size) →
          Runs (.write who target i sub v) s fun t =>
            Answers who (q.abort (byAgent who) lengthMismatch) t ∧ Keeps (orAnswer []) s t) ∧
        (r.ty.bulk = false → r.ty.size ≤ v.length → isLatch (i * 256 + sub) = false → inRange r i (r.ty.value v) = none →
          Runs (.write who target i sub v) s fun t =>
            Answers who (q.abort (byAgent who) outOfRange) t ∧ Keeps (orAnswer []) s t) ∧
        (∀ w, inRange r i (r.ty.value v) = some w → r.ty.bulk = false → r.ty.size ≤ v.length →
            isLatch (i * 256 + sub) = false →
            (s.dev.relationHolds (byAgent who) (i * 256 + sub) w && s.dev.ruleAllows i sub w) = false →
          Runs (.write who target i sub v) s fun t =>
            Answers who (q.abort (byAgent who) outOfRange) t ∧ Keeps (orAnswer []) s t) ∧
        (∀ w, inRange r i (r.ty.value v) = some w → r.ty.bulk = false → r.ty.size ≤ v.length →
            ownEffect (i * 256 + sub) = false → s.dev.relationHolds (byAgent who) (i * 256 + sub) w = true →
            s.dev.ruleAllows i sub w = true → s.dev.crossingFails (byAgent who) i = false →
          Runs (.write who target i sub v) s fun t => t.dev.reg (regAt (i * 256 + sub)) = w
            ∧ Answers who (q.reply 0x82 []) t
            ∧ (byAgent who = false → r.acc = .rws → t.dev.svc.unlockUsed = true ∧ t.dev.safe.checkDue = true)
            ∧ (r.acc ≠ .rws → Keeps (orAnswer [regAt (i * 256 + sub), Reg.configStoreState]) s t))))

/-- The forms of a write that rows of their own name (on R25, R240, R247): a register write is the Write of the device's own
object; a latch write clears the bits written as 1 but those that Table 9.2 or the latch's chapter keeps; a command that
Table 9.6 does not list is answered with an abort; a crossing that times out is counted, raised and answered, and a write that
it cuts off took effect or did not, as a free value decides, for which the model's own counter advances. Where the manual leaves a point open it follows the model's choices (assumptions 8, 57, 62 and 82). -/
def Obligations.WriteForms : Prop :=
  ∀ (s : State) (who : Requester),
    (∀ i sub v, Accepts s who → ∀ q : Ask, q = ⟨1, i, sub, .write v⟩ → ∀ d, d = meets s who (.write v) →
      (∀ u, (d.writeFixed (byAgent who) (s.dev.rights who) i sub v).toOption = some u → q.softResets = false →
        (Runs (.registerWrite who i sub v) s fun t => Answers who (q.reply 0x82 []) t ∧ Leaves u s t) ∧
        (Runs (.latchClearWrite who i sub v) s fun t => Answers who (q.reply 0x82 []) t ∧ Leaves u s t)) ∧
      (∀ x, refusalOf (d.writeFixed (byAgent who) (s.dev.rights who) i sub v) = some x →
        (Runs (.registerWrite who i sub v) s fun t => Answers who (q.abort (byAgent who) x.1) t ∧ Leaves x.2 s t) ∧
        (Runs (.latchClearWrite who i sub v) s fun t => Answers who (q.abort (byAgent who) x.1) t ∧ Leaves x.2 s t))) ∧
    (∀ i sub r, (mayWrite (byAgent who) (s.dev.rights who) i sub).toOption = some r → ∀ v w,
        inRange r i (r.ty.value v) = some w → Accepts s who → ownEffect (i * 256 + sub) = false → r.ty.bulk = false →
        r.ty.size ≤ v.length → s.dev.relationHolds (byAgent who) (i * 256 + sub) w = true →
        s.dev.ruleAllows i sub w = true → s.dev.crossingFails (byAgent who) i = false →
      Runs (.registerWrite who i sub v) s fun t => t.dev.reg (regAt (i * 256 + sub)) = w
        ∧ Answers who ((⟨1, i, sub, .write v⟩ : Ask).reply 0x82 []) t
        ∧ (r.acc ≠ .rws → Keeps (orAnswer [regAt (i * 256 + sub), Reg.configStoreState]) s t)) ∧
    (∀ r ∈ [Reg.resetCause, Reg.monResetCause, Reg.checkMismatchLatched, Reg.legacyWakeStatus, Reg.vbusFault,
        Reg.selfTestStatus], ∀ v, MayWrite s who r → objectBytes r 0 = List.replicate v.length 0 →
      Runs (.latchClearWrite who (r.key / 256) (r.key % 256) v) s fun t =>
        t.dev.nat r = clearBits (s.dev.nat r) (ofLe v) ∧ Keeps (orAnswer [r]) s t) ∧
    (∀ r ∈ [(Reg.ovLatched, Reg.ovLive), (Reg.uvLatched, Reg.uvLive)], ∀ v, MayWrite s who r.1 →
        objectBytes r.1 0 = List.replicate v.length 0 →
      Runs (.latchClearWrite who (r.1.key / 256) (r.1.key % 256) v) s fun t =>
        t.dev.nat r.1 = clearBits (s.dev.nat r.1) (clearBits (ofLe v) (s.dev.nat r.2)) ∧ Keeps (orAnswer [r.1]) s t) ∧
    (∀ m, Accepts s who → (ForSelf who (parseAsk m).target) → 6 ≤ m.length → nth m 0 ∉ [1, 2, 3, 4, 5, 0x7F] →
      Runs (.unknownCommand who m) s fun t =>
        Answers who ((parseAsk m).abort (byAgent who) unknownCommand) t ∧ Keeps (orAnswer []) s t) ∧
    (∀ i sub v, s.dev.cpuLive = true → s.dev.reg Reg.islandTimeouts < 0xFFFFFFFF →
      Runs (.crossingTimeout .read who i sub v) s fun t =>
        t.dev.reg Reg.islandTimeouts = s.dev.reg Reg.islandTimeouts + 1 ∧ Raised 32 t
        ∧ (isHost who = true → s.dev.serves who = true →
            Answers who ((⟨1, i, sub, .read⟩ : Ask).abort false hardwareFault) t)
        ∧ Keeps (orBoth [Reg.islandTimeouts]) s t) ∧
    (∀ i sub v, s.dev.cpuLive = true → s.dev.reg Reg.islandTimeouts < 0xFFFFFFFF →
      Runs (.crossingTimeout .dma who i sub v) s fun t =>
        t.dev.reg Reg.islandTimeouts = s.dev.reg Reg.islandTimeouts + 1 ∧ Raised 32 t
        ∧ Keeps (orEvents [Reg.islandTimeouts]) s t) ∧
    (∀ i sub v, s.dev.cpuLive = false → s.dev.monLive = true → s.dev.reg Reg.islandTimeouts < 0xFFFFFFFF →
      (Runs (.crossingTimeout .read who i sub v) s fun t =>
        t.dev.reg Reg.islandTimeouts = s.dev.reg Reg.islandTimeouts + 1 ∧ Keeps (orAnswer [Reg.islandTimeouts]) s t) ∧
      (Runs (.crossingTimeout .dma who i sub v) s fun t =>
        t.dev.reg Reg.islandTimeouts = s.dev.reg Reg.islandTimeouts + 1 ∧ Keeps (these [Reg.islandTimeouts]) s t)) ∧
    (∀ i sub v, (s.dev.monLive || s.dev.cpuLive) = true → ∀ d, d = s.dev.crossingTimedOut.freeBool.2 →
      (∀ u, (d.writeFixed (byAgent who) (d.rights who) i sub v).toOption = some u →
        Runs (.crossingTimeout .write who i sub v) s fun t => (Leaves d s t ∨ Leaves u s t)
          ∧ (isHost who = true → d.serves who = true → u.serves who = true →
              Answers who ((⟨1, i, sub, .read⟩ : Ask).abort false hardwareFault) t)) ∧
      ((d.writeFixed (byAgent who) (d.rights who) i sub v).isOk = false →
        Runs (.crossingTimeout .write who i sub v) s fun t => Leaves d s t
          ∧ (isHost who = true → d.serves who = true →
              Answers who ((⟨1, i, sub, .read⟩ : Ask).abort false hardwareFault) t))) ∧
    (∀ i sub v, s.dev.cpuLive = true → s.dev.reg Reg.islandTimeouts < 0xFFFFFFFF →
        (mayWrite (byAgent who) (s.dev.rights who) i sub).isOk = false →
      Runs (.crossingTimeout .write who i sub v) s fun t => Raised 32 t ∧ t.dev.free = s.dev.free + 1
        ∧ Keeps (orBoth [Reg.islandTimeouts]) s t)

/-- Segmented transfers (on R248 to R251): the segments of a read carry the value in order, a repeat of the last segment
served is answered again, any other breaks the transfer; a write's segments are taken in order, and the last one writes the
object; a Client abort and a timeout end it. Where the manual leaves a point open it follows the model's choices (assumptions 59 and 66). -/
def Obligations.Transfers : Prop :=
  ∀ (s : State) (who : Requester) (target i sub n : Nat), Accepts s who → ForSelf who target →
    (∀ data, s.dev.transfer who = .reading target i sub data n false → bankOf i = none →
      Runs (.readSegment who target i sub n) s fun t =>
        Answers who ((⟨target, i, sub, .readSegment n⟩ : Ask).reply 0x83 (leBytes 2 n
          ++ [if data.length ≤ (n + 1) * segmentSize who then 1 else 0, 0]
          ++ (data.drop (n * segmentSize who)).take (segmentSize who))) t
        ∧ t.dev.transfer who = .reading target i sub data (n + 1) (decide (data.length ≤ (n + 1) * segmentSize who))
        ∧ Keeps (orAnswer []) s t) ∧
    (∀ data, s.dev.transfer who = .reading target i sub data n false → ∀ g, bankOf i = some g →
        ∀ x, x = ((s.dev.acceptFrame who).bankData who i sub n (segmentSize who) data).1 →
      Runs (.readSegment who target i sub n) s fun t =>
        Answers who ((⟨target, i, sub, .readSegment n⟩ : Ask).reply 0x83 (leBytes 2 n
          ++ [if x.length ≤ (n + 1) * segmentSize who then 1 else 0, 0]
          ++ (x.drop (n * segmentSize who)).take (segmentSize who))) t
        ∧ t.dev.transfer who = .reading target i sub x (n + 1) (decide (x.length ≤ (n + 1) * segmentSize who))
        ∧ Keeps (orAnswer [Reg.snapReady]) s t) ∧
    ((s.dev.transfer who = .idle ∨ (s.dev.transfer who).open = some (target, i, sub + 1)) →
      (Runs (.readSegment who target i sub n) s fun t =>
        Answers who ((⟨target, i, sub, .readSegment n⟩ : Ask).abort (byAgent who) outOfSequence) t
        ∧ t.dev.transfer who = .idle ∧ Keeps (orAnswer [Reg.snapReady]) s t) ∧
      (∀ last data, Runs (.writeSegment who target i sub n last data) s fun t =>
        Answers who ((⟨target, i, sub, .writeSegment n last data⟩ : Ask).abort (byAgent who) outOfSequence) t
        ∧ t.dev.transfer who = .idle ∧ Keeps (orAnswer [Reg.snapReady]) s t)) ∧
    (∀ data last, s.dev.transfer who = .reading target i sub data (n + 1) last →
      Runs (.readSegment who target i sub n) s fun t =>
        Answers who ((⟨target, i, sub, .readSegment n⟩ : Ask).reply 0x83 (leBytes 2 n
          ++ [if data.length ≤ (n + 1) * segmentSize who then 1 else 0, 0]
          ++ (data.drop (n * segmentSize who)).take (segmentSize who))) t
        ∧ t.dev.transfer who = .reading target i sub data (n + 1) last ∧ Keeps (orAnswer []) s t) ∧
    (∀ data k, s.dev.transfer who = .reading target i sub data k false → n ≠ k → n + 1 ≠ k → bankOf i = none →
      Runs (.readSegment who target i sub n) s fun t =>
        Answers who ((⟨target, i, sub, .readSegment n⟩ : Ask).abort (byAgent who) outOfSequence) t
        ∧ t.dev.transfer who = .idle ∧ Keeps (orAnswer []) s t) ∧
    (∀ r, (mayWrite (byAgent who) (s.dev.rights who) i sub).toOption = some r → ∀ size, r.ty.sizeFits size = true →
      Runs (.writeInitiate who target i sub size) s fun t =>
        Answers who ((⟨target, i, sub, .writeInitiate size⟩ : Ask).reply 0x84 []) t
        ∧ (who ≠ .firmware → t.dev.transfer who = .writing target i sub size 0 [] none)
        ∧ Keeps (orAnswer [Reg.snapReady]) s t) ∧
    (∀ r, (mayWrite (byAgent who) (s.dev.rights who) i sub).toOption = some r → ∀ size, r.ty.sizeFits size = false →
      Runs (.writeInitiate who target i sub size) s fun t =>
        Answers who ((⟨target, i, sub, .writeInitiate size⟩ : Ask).abort (byAgent who) lengthMismatch) t
        ∧ (t.dev.transfer who).open = none ∧ Keeps (orAnswer [Reg.snapReady]) s t) ∧
    ((mayWrite (byAgent who) (s.dev.rights who) i sub).isOk = false → ∀ size,
      Runs (.writeInitiate who target i sub size) s fun t =>
        (∃ e ∈ [noSuchObject, notInRole, readOnly, commissioningRequired, unlockRequired],
          Answers who ((⟨target, i, sub, .writeInitiate size⟩ : Ask).abort (byAgent who) e) t)
        ∧ (t.dev.transfer who).open = none ∧ Keeps (orAnswer [Reg.snapReady]) s t) ∧
    (∀ size acc answer data last, s.dev.transfer who = .writing target i sub size (n + 1) acc answer →
      Runs (.writeSegment who target i sub n last data) s fun t =>
        Answers who (answer.getD ((⟨target, i, sub, .writeSegment n last data⟩ : Ask).reply 0x85 (leBytes 2 n))) t
        ∧ t.dev.transfer who = .writing target i sub size (n + 1) acc answer ∧ Keeps (orAnswer []) s t) ∧
    (∀ size acc data last, s.dev.transfer who = .writing target i sub size n acc none →
        ∀ want, want = min (segmentSize who) (size - acc.length) → ∀ whole, whole = acc ++ data.take want →
        ∀ q : Ask, q = ⟨target, i, sub, .writeSegment n last data⟩ →
        ∀ d, d = s.dev.acceptFrame who →
      ((data.length < want ∨ last ≠ (whole.length == size)) →
        Runs (.writeSegment who target i sub n last data) s fun t =>
          Answers who (q.abort (byAgent who) lengthMismatch) t ∧ t.dev.transfer who = .idle ∧ Keeps (orAnswer []) s t) ∧
      (want ≤ data.length → last = true → whole.length = size →
        (∀ u, (d.writeBulk (byAgent who) (s.dev.rights who) i sub whole).toOption = some u →
          Runs (.writeSegment who target i sub n last data) s fun t => Answers who (q.reply 0x82 []) t
            ∧ t.dev.transfer who = .writing target i sub size (n + 1) whole (some (q.reply 0x82 [])) ∧ Leaves u s t) ∧
        (∀ x, refusalOf (d.writeBulk (byAgent who) (s.dev.rights who) i sub whole) = some x →
          Runs (.writeSegment who target i sub n last data) s fun t => Answers who (q.abort (byAgent who) x.1) t
            ∧ t.dev.transfer who = .writing target i sub size (n + 1) whole (some (q.abort (byAgent who) x.1))
            ∧ Leaves x.2 s t))) ∧
    (∀ size acc data, s.dev.transfer who = .writing target i sub size n acc none →
        acc.length + segmentSize who < size → data.length = segmentSize who →
      Runs (.writeSegment who target i sub n false data) s fun t =>
        Answers who ((⟨target, i, sub, .writeSegment n false data⟩ : Ask).reply 0x85 (leBytes 2 n)) t
        ∧ t.dev.transfer who = .writing target i sub size (n + 1) (acc ++ data) none ∧ Keeps (orAnswer []) s t) ∧
    (∀ size acc data, s.dev.transfer who = .writing target i sub size n acc none → i * 256 + sub = Reg.deviceName.key →
        isHost who = true → acc.length + data.length = size → data ≠ [] → data.length ≤ segmentSize who → size ≤ 32 →
        (acc ++ data).any (fun c => c < 0x20 || 0x7E < c) = false →
      Runs (.writeSegment who target i sub n true data) s fun t =>
        Answers who ((⟨target, i, sub, .writeSegment n true data⟩ : Ask).reply 0x82 []) t
        ∧ t.dev.blob Reg.deviceName.key [] = acc ++ data ∧ t.mem = s.mem
        ∧ KeepsRegs (withinAnswer [] [Reg.configStoreState]) s t) ∧
    (Runs (.clientAbort who target i sub) s fun t => t.dev.transfer who = .idle
        ∧ (s.dev.transfer who = .idle → t.dev.svc.requests = s.dev.svc.requests)
        ∧ Keeps (these [Reg.spiFramesAccepted, Reg.snapReady]) s t) ∧
    (∀ x, (s.dev.transfer who).open = some x → isHost who = true →
      Runs (.serviceTimeout who) s fun t => t.dev.transfer who = .idle
        ∧ Answers who ((⟨x.1, x.2.1, x.2.2, .read⟩ : Ask).abort false timedOut) t
        ∧ Keeps (orAnswer [Reg.snapReady]) s t) ∧
    ((s.dev.transfer who).open = none → Runs (.serviceTimeout who) s fun t => t = s)

/-- The commissioning state and the unlock (on R241 to R243): the code opens them, a wrong one counts and three lock the
objects; ending the state closes the unlock and stores; a restore of the defaults withdraws the confirmation. Where the
manual leaves a point open it follows the model's choices (assumptions 63 and 65). -/
def Obligations.Commissioning : Prop :=
  ∀ (s : State) (who : Requester), isHost who = true → Accepts s who →
    (∀ code, code = s.dev.svc.code → code < 2 ^ 32 → s.dev.nat Reg.powerMode = 1 → s.dev.nat Reg.commissioningState = 0 →
        s.dev.svc.codeLocked = false →
      Runs (.commissioningEnter who code) s fun t => t.dev.nat Reg.commissioningState = (s.dev.rights who).channel
        ∧ t.dev.svc.wrongInRow = 0 ∧ Keeps (orAnswer [Reg.commissioningState]) s t) ∧
    (∀ code, code ≠ s.dev.svc.code → code < 2 ^ 32 → s.dev.nat Reg.powerMode = 1 →
        s.dev.nat Reg.commissioningState = 0 → s.dev.svc.codeLocked = false → s.dev.reg Reg.codeFailures < 0xFFFFFFFF →
      Runs (.commissioningEnter who code) s fun t => t.dev.nat Reg.commissioningState = 0
        ∧ t.dev.reg Reg.codeFailures = s.dev.reg Reg.codeFailures + 1
        ∧ (2 ≤ s.dev.svc.wrongInRow → t.dev.svc.codeLocked = true) ∧ Keeps (orAnswer [Reg.codeFailures]) s t) ∧
    (Runs .codeLockExpiry s fun t => t.dev.svc.codeLocked = false ∧ Keeps (these []) s t) ∧
    ((s.dev.rights who).commissioned = true →
      (∀ code, code = s.dev.svc.code → code < 2 ^ 32 → code ≠ 0 → s.dev.svc.codeLocked = false →
        Runs (.safetyUnlock who code) s fun t => t.dev.on Reg.safetyUnlockState = true
          ∧ (s.dev.on Reg.safetyUnlockState = false → t.dev.svc.unlockUsed = false)
          ∧ Keeps (orAnswer [Reg.safetyUnlockState]) s t) ∧
      (Runs (.safetyUnlock who 0) s fun t => t.dev.reg Reg.safetyUnlockState = 0
          ∧ Keeps (orAnswer [Reg.safetyUnlockState]) s t) ∧
      (∀ code, code < 2 ^ 32 →
        Runs (.commissioningCode who code) s fun t => t.dev.svc.code = s.dev.svc.code
          ∧ t.dev.stor.jobs = s.dev.stor.jobs ++ [Job.code code]
          ∧ Keeps (orAnswer []) s t) ∧
      (Runs (.commissioningExit who 1) s fun t => t.dev.nat Reg.commissioningState = 0
          ∧ t.dev.reg Reg.safetyUnlockState = 0 ∧ t.dev.nat Reg.configStoreState = 2
          ∧ Keeps (orAnswer [Reg.commissioningState, Reg.safetyUnlockState, Reg.configStoreState]) s t) ∧
      (s.dev.cpuLive = true →
        Runs .commissioningTimeout s fun t => t.dev.nat Reg.commissioningState = 0
          ∧ t.dev.reg Reg.safetyUnlockState = 0 ∧ t.dev.nat Reg.configStoreState = 2
          ∧ Keeps (these [Reg.commissioningState, Reg.safetyUnlockState, Reg.configStoreState]) s t) ∧
      (s.dev.nat Reg.configStoreState ≠ 2 →
        Runs (.configStore who 1) s fun t => t.dev.nat Reg.configStoreState = 2
          ∧ t.dev.stor.jobs = s.dev.stor.jobs ++ s.dev.changedPages.map Job.image ++ [.generation]
          ∧ Keeps (orAnswer [Reg.configStoreState]) s t) ∧
      ((s.dev.rights who).unlocked = true →
        Runs (.configDefaults who 1) s fun t => t.dev.nat Reg.confirmState = 2 ∧ t.dev.svc.unlockUsed = true
          ∧ t.dev.safe.checkDue = true ∧ t.mem = s.mem
          ∧ (∀ r ∈ [Reg.nodeId, Reg.cellCount, Reg.ovCode, Reg.chargeCurrent, Reg.overcurrentCharge, Reg.absentRows],
              t.dev.reg r = r.dflt)))

/-- CAN controllers and publications (on R253 to R256): a frame with the request identifier is the request that it carries,
a classical one is counted and ignored, bus-off stops the controller until its recovery, and a publication that falls due is
queued, with what its bank entries name read from the current banks under reads of its own. Where the manual leaves a point open it follows the model's choices (assumptions 71, 118 and 162). -/
def Obligations.CanAndPublications : Prop :=
  ∀ (s : State) (b : Bool),
    (s.dev.canLive b = true →
      (∀ bus : List CanStep, ∀ d, d = (bus ++ [CanStep.received]).foldl (Dev.canStep b) s.dev →
          ∀ c, c = (if b then 1 else 0) →
        (d.canLive b = true →
          (∀ ident, ident = s.dev.nat Reg.requestIdBase + s.dev.nat Reg.nodeId → ∀ data,
            (s.dev.reg (Reg.framesIgnored c) < 0xFFFFFFFF →
              Runs (.canFrameReceived b ident false data bus) s fun t =>
                t.dev.reg (Reg.framesIgnored c) = s.dev.reg (Reg.framesIgnored c) + 1
                ∧ t.dev.nat (Reg.rxErrorCount c) = d.nat (Reg.rxErrorCount c)
                ∧ Keeps (these [Reg.framesIgnored c, Reg.txErrorCount c, Reg.rxErrorCount c, Reg.busState c]) s t) ∧
            (∀ r, (locate false (parseAsk data).index (parseAsk data).sub).toOption = some r → Accepts s (canChannel b) →
                (parseAsk data).target ≤ 1 → (parseAsk data).op = .read → r.acc ≠ .wo → r.ty.bulk = false →
                s.dev.crossingFails false (parseAsk data).index = false →
                (parseAsk data).key ≠ Reg.chargeFaultLatched.key →
                ∀ m, m = (parseAsk data).reply 0x81
                  (r.ty.bytes ((d.beforeServing (canChannel b) .read).fixedValue false (parseAsk data).key)) →
              Runs (.canFrameReceived b ident true data bus) s fun t => Answers (canChannel b) m t
                ∧ (if b then t.dev.svc.portB else t.dev.svc.portA).lastTx =
                    some ((if b then s.dev.svc.portB else s.dev.svc.portA).frame
                      (s.dev.nat Reg.responseIdBase + s.dev.nat Reg.nodeId) (padFrame m) true true)
                ∧ Keeps (orAnswer [Reg.snapReady, Reg.txErrorCount c, Reg.rxErrorCount c, Reg.busState c]) s t)) ∧
          (∀ ident fd data, ident ≠ s.dev.nat Reg.requestIdBase + s.dev.nat Reg.nodeId →
            Runs (.canFrameReceived b ident fd data bus) s fun t => t.dev.svc = s.dev.svc
              ∧ (bus = [] → t.dev.nat (Reg.rxErrorCount c) =
                  (if 127 < s.dev.nat (Reg.rxErrorCount c) then 127 else s.dev.nat (Reg.rxErrorCount c) - 1)
                  ∧ t.dev.nat (Reg.txErrorCount c) = s.dev.nat (Reg.txErrorCount c))
              ∧ Keeps (these [Reg.txErrorCount c, Reg.rxErrorCount c, Reg.busState c]) s t)) ∧
        (d.canLive b = false → ∀ ident fd data,
          Runs (.canFrameReceived b ident fd data bus) s fun t => t.dev.svc = s.dev.svc ∧ t.dev.nat (Reg.busState c) = 2
            ∧ t.dev.nat (Reg.txErrorCount c) = 255
            ∧ Keeps (these [Reg.txErrorCount c, Reg.rxErrorCount c, Reg.busState c, Reg.busOffCount c]) s t)) ∧
      (s.dev.reg (Reg.busOffCount (if b then 1 else 0)) < 0xFFFFFFFF →
        Runs (.canBusOff b) s fun t => t.dev.nat (Reg.busState (if b then 1 else 0)) = 2 ∧ t.dev.canLive b = false
          ∧ t.dev.reg (Reg.busOffCount (if b then 1 else 0)) = s.dev.reg (Reg.busOffCount (if b then 1 else 0)) + 1
          ∧ Keeps (these [Reg.busState (if b then 1 else 0), Reg.busOffCount (if b then 1 else 0),
              Reg.txErrorCount (if b then 1 else 0)]) s t)) ∧
    (s.dev.transportsOn = true → s.dev.nat (Reg.busState (if b then 1 else 0)) = 2 →
      Runs (.canBusOffRecovery b) s fun t => t.dev.nat (Reg.busState (if b then 1 else 0)) = 0
        ∧ t.dev.nat (Reg.txErrorCount (if b then 1 else 0)) = 0 ∧ t.dev.nat (Reg.rxErrorCount (if b then 1 else 0)) = 0
        ∧ Keeps (these [Reg.busState (if b then 1 else 0), Reg.txErrorCount (if b then 1 else 0),
            Reg.rxErrorCount (if b then 1 else 0)]) s t) ∧
    (∀ p, 1 ≤ p → p ≤ 64 → s.dev.transportsOn = true → s.dev.pubDue p = true → entryGroups (s.dev.pubEntriesOf p) = [] →
      Runs (.publicationDue p) s fun t =>
        t.dev.svc.pubQueue = s.dev.svc.pubQueue.filter (fun e => e.1 != p)
          ++ [(p, padFrame ((s.dev.pubEntriesOf p).flatMap s.dev.entryBytes), s.dev.pubControllers p)]
        ∧ Keeps (these [Reg.pubOverruns p]) s t) ∧
    (∀ p, 1 ≤ p → p ≤ 64 → s.dev.transportsOn = true → s.dev.pubDue p = true → s.dev.snaps.length = 7 →
        ∀ d, d = (entryGroups (s.dev.pubEntriesOf p)).foldl (fun d g => d.openRead g 4) s.dev →
      Runs (.publicationDue p) s fun t =>
        t.dev.svc.pubQueue = s.dev.svc.pubQueue.filter (fun e => e.1 != p)
          ++ [(p, padFrame ((s.dev.pubEntriesOf p).flatMap d.entryBytes), s.dev.pubControllers p)]
        ∧ (∀ g ∈ entryGroups (s.dev.pubEntriesOf p), s.dev.groupExists g = true → t.dev.bit Reg.snapReady g = false)
        ∧ (∀ g, g < 7 → (t.dev.group g).bank = (s.dev.group g).bank
            ∧ (t.dev.group g).readers.contains 4 = ((s.dev.group g).readers.contains 4
                && !(entryGroups (s.dev.pubEntriesOf p)).contains g))
        ∧ Keeps (these [Reg.pubOverruns p, Reg.snapReady]) s t)

/-- The SPI port (on R257, R258): an object request is served on its channel, a fetch consumes nothing, a window frame reads
or writes words through requestor 11's table, and a refused frame is counted and shown. Where the manual leaves a point open
it follows the model's choices (assumptions 11, 67 and 145). -/
def Obligations.SpiPort : Prop :=
  ∀ s : State,
    (∀ m, m.length ≤ 252 → Accepts s .spi → (parseAsk m).target ≤ 1 → (parseAsk m).softResets = false →
        ∀ x, x = (s.dev.acceptFrame .spi).serveLocal .spi (parseAsk m) →
      (∀ a, x.1 = some a →
        Runs (.spiObjectRequest m) s fun t => t.dev.svc.spiResponse = some (0x21, a) ∧ Answers .spi a t ∧ Leaves x.2 s t) ∧
      (x.1 = none → Runs (.spiObjectRequest m) s fun t => t.dev.transfer .spi = .idle ∧ t.dev.svc.spiResponse = none
        ∧ Keeps (these [Reg.spiFramesAccepted, Reg.snapReady]) s t) ∧
      (∀ r, (locate false (parseAsk m).index (parseAsk m).sub).toOption = some r → (parseAsk m).op = .read →
          r.acc ≠ .wo → r.ty.bulk = false → s.dev.crossingFails false (parseAsk m).index = false →
          ∀ a, a = (parseAsk m).reply 0x81 (r.ty.bytes ((meets s .spi .read).fixedValue false (parseAsk m).key)) →
        Runs (.spiObjectRequest m) s fun t => t.dev.svc.spiResponse = some (0x21, a) ∧ Answers .spi a t
          ∧ ((parseAsk m).key ≠ Reg.chargeFaultLatched.key → Keeps (orAnswer [Reg.snapReady]) s t))) ∧
    (∀ m, s.dev.spiRuns = true → s.dev.reg Reg.spiRefused < 0xFFFFFFFF → (parseAsk m).op ≠ .clientAbort →
        (252 < m.length ∨ s.dev.svc.spi.waiting = true) →
      Runs (.spiObjectRequest m) s fun t => t.dev.svc.spiRefused = true
        ∧ t.dev.reg Reg.spiRefused = s.dev.reg Reg.spiRefused + 1 ∧ t.dev.svc.spiResponse = s.dev.svc.spiResponse
        ∧ Keeps (these [Reg.spiRefused]) s t) ∧
    (∀ m, m.length ≤ 252 → Accepts s .spi → (parseAsk m).target ≤ 1 → 6 ≤ m.length → nth m 0 = 0x7E →
      Runs (.spiObjectRequest m) s fun t => Answers .spi ((parseAsk m).abort false unknownCommand) t
        ∧ t.dev.svc.spiResponse = some (0x21, (parseAsk m).abort false unknownCommand) ∧ Keeps (orAnswer []) s t) ∧
    (s.dev.spiRuns = true →
      (Runs .spiFetch s fun t => t.dev.svc.spiResponse = s.dev.svc.spiResponse ∧ t.dev.svc.spiRefused = false
        ∧ t.dev.svc.spiSent = s.dev.fetchBytes ∧ Keeps (these []) s t) ∧
      (∀ bytes crcFailed, parseHostFrame bytes = .refused crcFailed → s.dev.reg Reg.spiRefused < 0xFFFFFFFF →
          s.dev.reg Reg.spiCrcErrors < 0xFFFFFFFF →
        Runs (.spiFrameRefused bytes) s fun t => t.dev.svc.spiRefused = true
          ∧ t.dev.svc.spiSent = s.dev.sdoBytes (nth bytes 0 == 0x12) bytes.length
          ∧ t.dev.reg Reg.spiRefused = s.dev.reg Reg.spiRefused + 1
          ∧ t.dev.reg Reg.spiCrcErrors = s.dev.reg Reg.spiCrcErrors + (if crcFailed then 1 else 0)
          ∧ Keeps (these [Reg.spiRefused, Reg.spiCrcErrors]) s t)) ∧
    (s.dev.spiRuns = true → s.dev.windowOpen = false → s.dev.reg Reg.spiRefused < 0xFFFFFFFF →
      (∀ v n, Runs (.spiWindowRead v n) s fun t => t.dev.svc.spiRefused = true
        ∧ t.dev.reg Reg.spiRefused = s.dev.reg Reg.spiRefused + 1 ∧ Keeps (these [Reg.spiRefused]) s t) ∧
      (∀ v ws, Runs (.spiWindowWrite v ws) s fun t => t.dev.svc.spiRefused = true
        ∧ t.dev.reg Reg.spiRefused = s.dev.reg Reg.spiRefused + 1 ∧ Keeps (these [Reg.spiRefused]) s t)) ∧
    (s.dev.windowOpen = true →
      (∀ v phys, (s.dev.translate 11 v false).toOption = some phys → v % 4 = 0 → regionOf phys = some .hostArea →
        Runs (.spiWindowRead v 1) s fun t => t.dev.svc.spiResponse = some (0x23,
            leBytes 4 (memReadWord s.mem (phys / 4 * 4)))
          ∧ Keeps (these [Reg.spiFramesAccepted]) s t) ∧
      (∀ v phys, (s.dev.translate 11 v true).toOption = some phys → ∀ w : Word, v % 4 = 0 →
        Runs (.spiWindowWrite v [w]) s fun t => t.dev.svc.spiResponse = some (0x24, [])
          ∧ (regionOf phys = some .hostArea → memReadWord t.mem (phys / 4 * 4) = w.toNat)
          ∧ (∀ a, (a < phys / 4 * 4 ∨ phys / 4 * 4 + 4 ≤ a) → memRead a t.mem = memRead a s.mem)
          ∧ (∀ r : Reg, r.key ≠ Reg.spiFramesAccepted.key → t.dev.reg r = s.dev.reg r)) ∧
      (∀ v n, v % 4 = 0 → 1 ≤ n → n ≤ 60 →
          (∀ k, k < n → (s.dev.translate 11 (v + 4 * k) false).isOk = true
            ∧ regionOf (windowAt s v false k) = some .hostArea) →
        Runs (.spiWindowRead v n) s fun t => t.dev.svc.spiResponse = some (0x23,
            (List.range n).flatMap (fun k => leBytes 4 (memReadWord s.mem (windowAt s v false k / 4 * 4))))
          ∧ Keeps (these [Reg.spiFramesAccepted]) s t) ∧
      (∀ v (ws : List Word), v % 4 = 0 → ws ≠ [] → ws.length ≤ 62 →
          (∀ k, k < ws.length → (s.dev.translate 11 (v + 4 * k) true).isOk = true
            ∧ regionOf (windowAt s v true k) = some .hostArea) →
        Runs (.spiWindowWrite v ws) s fun t => t.dev.svc.spiResponse = some (0x24, [])
          ∧ (∀ k, k < ws.length → (∀ j, j < ws.length → k < j → windowAt s v true j / 4 ≠ windowAt s v true k / 4) →
              memReadWord t.mem (windowAt s v true k / 4 * 4) = (ws.getD k 0).toNat)
          ∧ (∀ a, (∀ k, k < ws.length → a / 4 ≠ windowAt s v true k / 4) → memRead a t.mem = memRead a s.mem)
          ∧ ∀ r : Reg, r.key ≠ Reg.spiFramesAccepted.key → t.dev.reg r = s.dev.reg r) ∧
      (∀ v n, v % 4 = 0 → (n = 0 ∨ 60 < n) →
        Runs (.spiWindowRead v n) s fun t => t.dev.svc.spiResponse = some (0x2F, leBytes 4 (outOfRange * 65536 + 1))
          ∧ Keeps (orAnswer []) s t) ∧
      (∀ v (ws : List Word), v % 4 = 0 → (ws = [] ∨ 62 < ws.length) →
        Runs (.spiWindowWrite v ws) s fun t => t.dev.svc.spiResponse = some (0x2F, leBytes 4 (outOfRange * 65536 + 1))
          ∧ Keeps (orAnswer []) s t) ∧
      (∀ v ws, v % 4 ≠ 0 →
        (Runs (.spiWindowRead v 1) s fun t => t.dev.svc.spiResponse = some (0x2F, leBytes 4 (outOfRange * 65536 + 1))
          ∧ Keeps (orAnswer []) s t) ∧
        (Runs (.spiWindowWrite v ws) s fun t => t.dev.svc.spiResponse = some (0x2F, leBytes 4 (outOfRange * 65536 + 1))
          ∧ Keeps (orAnswer []) s t)) ∧
      (∀ v, v % 4 = 0 → (s.dev.translate 11 v false).toOption = none →
        Runs (.spiWindowRead v 1) s fun t => t.dev.svc.spiResponse = some (0x2F, leBytes 4 (protectionFault * 65536 + 1))
          ∧ Raised 45 t ∧ t.mem = s.mem ∧ KeepsRegs (withinBoth [(0x8010, 0x801F)] []) s t))

/-- Requests for members (on R259, R260): a host's request to a present member is queued and sent, its answer goes back on
the channel, a request without answer is retried and then ended with an abort, and a member's report reaches its mirror.
Where the manual leaves a point open it follows the model's choices (assumptions 60 and 68). -/
def Obligations.MemberRequests : Prop :=
  ∀ (s : State) (a : Nat),
    (∀ who i sub m, isHost who = true → Accepts s who → 2 ≤ a → a ≤ 4094 → s.dev.transfer who = .idle → nth m 0 = 1 →
        6 ≤ m.length → s.dev.drivesRows = true → s.dev.nat (Reg.mirrorState a) = 1 → s.dev.nat Reg.chainState = 4 →
        s.dev.svc.requests = [] →
      Runs (.memberRequestRelay who a i sub m) s fun t => (t.dev.channel who).waiting = true
        ∧ (∃ r ∈ t.dev.svc.requests, r.member = a ∧ r.inFlight = true ∧ r.origin = originOf who
            ∧ r.message = (⟨a, i, sub, .read⟩ : Ask).bytes (s.dev.rights who)
            ∧ (t.dev.link.downBits.find? (fun e => e.1 == a)).map (·.2) =
                some (((s.dev.link.downBits.find? (fun e => e.1 == a)).map (·.2)).getD []
                  ++ frameBits (frameContent 1 r.sequence r.message)))
        ∧ Keeps (orAnswer [Reg.memberRequestsWaiting]) s t) ∧
    (∀ who i sub m, isHost who = true → Accepts s who → 2 ≤ a → a ≤ 4094 → (s.dev.transfer who).open = none →
        nth m 0 = 1 → 6 ≤ m.length → s.dev.nat (Reg.mirrorState a) ≠ 1 →
      Runs (.memberRequestRelay who a i sub m) s fun t =>
        Answers who ((⟨a, i, sub, .read⟩ : Ask).abort false memberNotPresent) t ∧ Keeps (orAnswer []) s t) ∧
    (∀ r, s.dev.inFlight a = some r → ∀ m, s.dev.drivesRows = true → r.origin < 3 → nth m 0 = 0x81 →
        (parseAsk r.message).op = .read → s.dev.svc.requests = [r] →
      Runs (.memberResponse a r.sequence m) s fun t => Answers (requesterOf r.origin) m t ∧ t.dev.svc.requests = []
        ∧ (t.dev.channel (requesterOf r.origin)).waiting = false ∧ Keeps (orAnswer [Reg.memberRequestsWaiting]) s t) ∧
    (∀ r, s.dev.inFlight a = some r → ∀ m seq, s.dev.drivesRows = true → r.sequence ≠ seq →
        s.dev.reg Reg.floatFrameErrors < 0xFFFFFFFF →
      Runs (.memberResponse a seq m) s fun t => t.dev.svc.requests = s.dev.svc.requests
        ∧ t.dev.reg Reg.floatFrameErrors = s.dev.reg Reg.floatFrameErrors + 1
        ∧ Keeps (these [Reg.floatFrameErrors]) s t) ∧
    (∀ r, s.dev.inFlight a = some r → s.dev.drivesRows = true → r.retries < s.dev.nat Reg.floatRetries →
        s.dev.reg Reg.memberTimeouts < 0xFFFFFFFF →
      Runs (.memberResponseTimeout a) s fun t => t.dev.reg Reg.memberTimeouts = s.dev.reg Reg.memberTimeouts + 1
        ∧ (t.dev.inFlight a).map (fun q => (q.retries, q.message)) = some (r.retries + 1, r.message)
        ∧ Keeps (these [Reg.memberTimeouts, Reg.memberRequestsWaiting]) s t) ∧
    (∀ r, s.dev.inFlight a = some r → s.dev.drivesRows = true → s.dev.nat Reg.floatRetries ≤ r.retries → r.origin < 3 →
        s.dev.svc.requests = [r] → s.dev.reg Reg.memberNoResponse < 0xFFFFFFFF →
      Runs (.memberResponseTimeout a) s fun t => t.dev.reg Reg.memberNoResponse = s.dev.reg Reg.memberNoResponse + 1
        ∧ Answers (requesterOf r.origin) ((parseAsk r.message).abort false memberNoResponse) t
        ∧ t.dev.svc.requests = [] ∧ Keeps (orAnswer [Reg.memberNoResponse, Reg.memberRequestsWaiting]) s t) ∧
    (∀ bytes f, parseFrame bytes = some f → s.dev.drivesRows = true → f.1 = 3 → f.2.2.length = 27 →
        s.dev.on (Reg.mirrorState a) = true → a ≠ 1 →
      Runs (.floatFrameHead a bytes true) s fun t => t.dev.blob (Reg.diagnosticReport a).key [] = f.2.2
        ∧ t.dev.reg Reg.floatFrameErrors = s.dev.reg Reg.floatFrameErrors ∧ t.mem = s.mem
        ∧ KeepsRegs (within [] [Reg.memberRequestsWaiting]) s t) ∧
    (∀ bytes, s.dev.drivesRows = true → parseFrame bytes = none → s.dev.reg Reg.floatFrameErrors < 0xFFFFFFFF →
      ∀ intact, Runs (.floatFrameHead a bytes intact) s fun t =>
        t.dev.reg Reg.floatFrameErrors = s.dev.reg Reg.floatFrameErrors + 1 ∧ Keeps (these [Reg.floatFrameErrors]) s t)

/-! ## Translation, DMA and events (chapter 10) -/

/-- Page tables and memory errors (on R269 to R273, R280): a host-owned table takes 1024 entries that R271 allows as one
update, is refused whole with the value-out-of-range abort where an entry below TableLength is not allowed, and an entry at
or beyond TableLength is never used; a table that firmware owns takes no write of a host, and one of the firmware's own (the
model's choice, assumption 163); a faulted access of a requestor leaves a record and a count; an SRAM error is counted, a double one raised. Where
the manual leaves a point open it follows the model's choices (assumption 26). -/
def Obligations.TablesAndErrors : Prop :=
  ∀ s : State,
    (∀ who r entries, MayWrite s who (Reg.pageTable r) → hostOwned r = true → entries.length = 1024 →
        ((entries.map BitVec.toNat).take (s.dev.nat (Reg.tableLength r))).any (fun e => !entryAllowed e) = false →
      Runs (.pageTableWrite who r entries) s fun t =>
        (∀ p, p < 1024 → t.dev.pageEntry r p = nth (entries.map BitVec.toNat) p)
        ∧ (∀ q p, q ≠ r → p < 1024 → t.dev.pageEntry q p = s.dev.pageEntry q p)
        ∧ Keeps (withinAnswer [] [Reg.configStoreState]) s t) ∧
    (∀ who r entries, MayWrite s who (Reg.pageTable r) → hostOwned r = true → entries.length = 1024 →
        ((entries.map BitVec.toNat).take (s.dev.nat (Reg.tableLength r))).any (fun e => !entryAllowed e) = true →
      Runs (.pageTableWrite who r entries) s fun t =>
        Answers who ((⟨1, 0x8010 + r, 1, .read⟩ : Ask).abort (byAgent who) outOfRange) t
        ∧ (∀ q p, p < 1024 → t.dev.pageEntry q p = s.dev.pageEntry q p) ∧ Keeps (withinAnswer [] []) s t) ∧
    (∀ r v write, s.dev.nat (Reg.tableLength r) ≤ field v 12 21 → (s.dev.translate r v write).toOption = none) ∧
    (∀ r entries, MayWrite s .firmware (Reg.pageTable r) → r < 16 → hostOwned r = false → entries.length = 1024 →
      Runs (.pageTableWrite .firmware r entries) s fun t =>
        (∀ p, p < 1024 → t.dev.pageEntry r p = nth (entries.map BitVec.toNat) p)
        ∧ (∀ q p, q ≠ r → p < 1024 → t.dev.pageEntry q p = s.dev.pageEntry q p)
        ∧ Keeps (withinAnswer [] [Reg.configStoreState]) s t) ∧
    (∀ who r entries, MayWrite s who (Reg.pageTable r) → isHost who = true → r < 16 → hostOwned r = false →
        entries.length = 1024 →
      Runs (.pageTableWrite who r entries) s fun t =>
        Answers who ((⟨1, 0x8010 + r, 1, .read⟩ : Ask).abort (byAgent who) commandRefused) t
        ∧ (∀ q p, p < 1024 → t.dev.pageEntry q p = s.dev.pageEntry q p) ∧ Keeps (withinAnswer [] []) s t) ∧
    (∀ r (v : Word) write fetch, s.dev.cpuLive = true → r < 16 → isDmaRequestor r = false →
        (s.dev.access r v.toNat write fetch).toOption = none → s.dev.reg (Reg.faultCount r) < 0xFFFFFFFF →
      Runs (.translationFault r v write fetch) s fun t =>
        t.dev.reg (Reg.faultCount r) = s.dev.reg (Reg.faultCount r) + 1
        ∧ ((t.dev.blob (Reg.requestorFault r).key []).drop 4).take 4 = leBytes 4 v.toNat
        ∧ (9 ≤ r → r ≤ 13 → Raised 45 t) ∧ t.mem = s.mem
        ∧ (∀ q : Reg, q.key ≠ (Reg.faultCount r).key → eventKey q.key = false → t.dev.reg q = s.dev.reg q)) ∧
    (∀ (v : Word) phys, (s.dev.translate 0 v.toNat false).toOption = some phys → regionOf phys ≠ some .rom →
      (s.dev.access 0 v.toNat false true).toOption = none) ∧
    (∀ r (v : Word) write fetch phys, (s.dev.access r v.toNat write fetch).toOption = some phys →
      Runs (.translationFault r v write fetch) s fun t => t = s) ∧
    (∀ r a, r ≤ 15 → s.dev.cpuLive = true → s.dev.reg Reg.sramCorrected < 0xFFFFFFFF →
      Runs (.sramEccError r a false) s fun t => t.dev.reg Reg.sramCorrected = s.dev.reg Reg.sramCorrected + 1
        ∧ Raised 46 t ∧ Keeps (orEvents [Reg.sramCorrected]) s t) ∧
    (∀ r a, r ≤ 15 → s.dev.cpuLive = true → s.dev.reg Reg.sramUncorrectable < 0xFFFFFFFF →
      Runs (.sramEccError r a true) s fun t => t.dev.reg Reg.sramUncorrectable = s.dev.reg Reg.sramUncorrectable + 1
        ∧ Raised 47 t ∧ t.mem = s.mem ∧ KeepsRegs (fun k => tripKey k || within [(0x8010,
            0x802F)] [Reg.sramUncorrectable, Reg.abortsSent, Reg.lastAbort] k) s t)

/-- DMA channels (on R274 to R282): the commands, the fetch of a descriptor, one element, the write-back, a fault and a
trigger; channels 0 to 7 take their commands from the firmware, and a host's are refused. An element moves its bytes and changes
no other byte of the SRAM; a stage that meets a miss, a violation or an invalid descriptor faults there, and changes no byte. Where
the manual leaves a point open it follows the model's choices (assumptions 26, 141, 163, 164 and 166). -/
def Obligations.DmaChannels : Prop :=
  ∀ (s : State) (c : Nat), c < 16 → Shape s.dev →
    (∀ who, MayWrite s who (Reg.channelCommand c) → (8 ≤ c ∨ who = .firmware) →
      (s.dev.chanState c = 0 →
        Runs (.dmaStart who c) s fun t => t.dev.chanState c = 2 ∧ (t.dev.chan c).fetch = true
          ∧ t.dev.nat (Reg.currentDescriptor c) = s.dev.nat (Reg.firstDescriptor c)
          ∧ Keeps (orBoth [Reg.currentDescriptor c]) s t) ∧
      ((s.dev.chanState c = 1 ∨ s.dev.chanState c = 2 ∨ s.dev.chanState c = 3) →
        Runs (.dmaHalt who c) s fun t => t.dev.chanState c = 5 ∧ (t.dev.chan c).src = (s.dev.chan c).src
          ∧ t.dev.nat (Reg.remaining c) = s.dev.nat (Reg.remaining c) ∧ Keeps (withinBoth [] []) s t) ∧
      (s.dev.chanState c = 5 → (s.dev.chan c).held = 1 →
        Runs (.dmaResume who c) s fun t => t.dev.chanState c = 1 ∧ Keeps (orBoth []) s t) ∧
      (s.dev.chanState c = 4 →
        Runs (.dmaResume who c) s fun t => t.dev.chanState c = 2
          ∧ (t.dev.chan c).fetch = decide ((s.dev.chan c).faultStage = 0)
          ∧ (t.dev.chan c).writeBack = decide ((s.dev.chan c).faultStage = 3) ∧ Keeps (orBoth []) s t) ∧
      (s.dev.chanState c ≠ 0 →
        Runs (.dmaAbort who c) s fun t => t.dev.chanState c = 0
          ∧ t.dev.nat (Reg.remaining c) = s.dev.nat (Reg.remaining c) ∧ Keeps (withinBoth [] []) s t)) ∧
    (∀ v, v = s.dev.nat (Reg.currentDescriptor c) → ∀ phys,
        (s.dev.translate (chanRequestor c) v false).toOption = some phys → phys % 32 = 0 → regionOf phys = some .hostArea →
        s.dev.runsStage c true false = true → ∀ ws, ws = (s.readWords c phys 5).1 →
      (descriptorInvalid (nth ws 0) (nth ws 1) (nth ws 2) (nth ws 3) (nth ws 4) = false →
        Runs (.descriptorFetch c) s fun t => (t.dev.chan c).words = ws.map (BitVec.ofNat 32)
          ∧ (t.dev.chan c).src = nth ws 0 ∧ (t.dev.chan c).dst = nth ws 1 ∧ t.dev.nat (Reg.remaining c) = nth ws 2
          ∧ (t.dev.chan c).fetch = false ∧ t.dev.chanState c = (if (nth ws 3).testBit 6 then 1 else 2)
          ∧ Keeps (orEvents [Reg.remaining c]) s t) ∧
      (descriptorInvalid (nth ws 0) (nth ws 1) (nth ws 2) (nth ws 3) (nth ws 4) = true →
        Runs (.descriptorFetch c) s fun t => t.dev.chanState c = 4 ∧ Raised 44 t ∧ t.mem = s.mem
          ∧ (t.dev.chan c).fault = 5 ∧ (t.dev.chan c).faultStage = 0)) ∧
    (∀ who, MayWrite s who (Reg.channelCommand c) → c < 8 → isHost who = true →
        ∀ i ∈ [Instr.dmaStart who c, .dmaHalt who c, .dmaResume who c, .dmaAbort who c],
      Runs i s fun t => Answers who ((⟨1, 0x8020 + c, 1, .read⟩ : Ask).abort (byAgent who) commandRefused) t
        ∧ t.dev.ctl = s.dev.ctl ∧ Keeps (withinAnswer [] []) s t) ∧
    (s.dev.reg (Reg.faultCount (chanRequestor c)) < 0xFFFFFFFF →
      (∀ k, faultKind (s.dev.translateSpan (chanRequestor c) (s.dev.nat (Reg.currentDescriptor c)) 5 false) = some k →
          s.dev.runsStage c true false = true →
        Runs (.descriptorFetch c) s fun t => Halted c k 0 0 s t) ∧
      (∀ k ch, ch = s.dev.chan c →
          faultKind (s.dev.translateSpan (chanRequestor c) ch.src (ch.size / 4) false) = some k →
          s.dev.runsStage c false false = true → s.dev.on (Reg.remaining c) = true →
        Runs (.dmaElement c) s fun t => Halted c k 1 (s.dev.nat (Reg.remaining c)) s t) ∧
      (∀ k ch, ch = s.dev.chan c →
          faultKind (s.dev.translateSpan (chanRequestor c) ch.src (ch.size / 4) false) = none →
          faultKind (s.dev.translateSpan (chanRequestor c) ch.dst (ch.size / 4) true) = some k →
          s.dev.runsStage c false false = true → s.dev.on (Reg.remaining c) = true →
        Runs (.dmaElement c) s fun t => Halted c k 2 (s.dev.nat (Reg.remaining c)) s t) ∧
      (∀ k, faultKind (s.dev.translate (chanRequestor c) ((s.dev.nat (Reg.currentDescriptor c) + 20) % 2 ^ 32) true) = some k →
          s.dev.runsStage c false true = true →
        Runs (.dmaWriteBack c) s fun t => Halted c k 3 0 s t)) ∧
    (∀ kind stage, (kind = 1 ∨ kind = 2 ∨ kind = 5) → s.dev.cpuLive = true → s.dev.ctl.running = some c →
        s.dev.chanState c = 2 → s.dev.stageNow c stage = true → ∀ words, words < 8 →
        ∀ i, i = (if stage = 0 then Instr.descriptorFetch c else if stage = 3 then .dmaWriteBack c else .dmaElement c) →
      Runs i s fun u => Runs (.dmaFault c kind stage words) s fun t => t = if u.dev.chanState c = 4 then u else s) ∧
    (s.dev.runsStage c false false = true → s.dev.on (Reg.remaining c) = true →
      ∀ ch, ch = s.dev.chan c → ∀ src, (s.dev.translate (chanRequestor c) ch.src false).toOption = some src →
        ∀ dst, (s.dev.translate (chanRequestor c) ch.dst true).toOption = some dst → ch.src % ch.size = 0 →
        ch.dst % ch.size = 0 →
        (regionOf src = some .hostArea ∨ regionOf src = some .rowRing) → regionOf dst = some .hostArea →
      Runs (.dmaElement c) s fun t => memReadBytes t.mem dst ch.size = memReadBytes s.mem src ch.size
        ∧ (∀ a, (a < dst ∨ dst + ch.size ≤ a) → memRead a t.mem = memRead a s.mem)
        ∧ t.dev.nat (Reg.remaining c) = s.dev.nat (Reg.remaining c) - 1
        ∧ (t.dev.chan c).src = (if ch.bit 2 then (ch.src + ch.size) % 2 ^ 32 else ch.src)
        ∧ (∀ r : Reg, r.key ≠ (Reg.remaining c).key → r.key ≠ (Reg.preemptions c).key → eventKey r.key = false →
            t.dev.reg r = s.dev.reg r)) ∧
    (s.dev.runsStage c false true = true → ∀ v, v = (s.dev.nat (Reg.currentDescriptor c) + 20) % 2 ^ 32 → ∀ phys,
        (s.dev.translate (chanRequestor c) v true).toOption = some phys → regionOf phys = some .hostArea →
        s.dev.reg (Reg.descriptorsDone c) < 0xFFFFFFFF →
      Runs (.dmaWriteBack c) s fun t => KeepsRegs (withinEvents [(0x8020, 0x802F)] []) s t
          ∧ memReadWord t.mem (phys / 4 * 4) = (s.dev.chan c).status
          ∧ ((s.dev.chan c).fault = 0 → (s.dev.chan c).status = 1)
        ∧ (∀ a, (a < phys / 4 * 4 ∨ phys / 4 * 4 + 4 ≤ a) → memRead a t.mem = memRead a s.mem)
        ∧ t.dev.reg (Reg.descriptorsDone c) = s.dev.reg (Reg.descriptorsDone c) + 1
        ∧ ((s.dev.chan c).bit 4 = false → t.dev.chanState c = 0)
        ∧ ((s.dev.chan c).bit 4 = true → (t.dev.chan c).fetch = true
            ∧ t.dev.nat (Reg.currentDescriptor c) = (s.dev.chan c).word 4)
        ∧ ((s.dev.chan c).bit 5 = true → Raised (48 + c) t)) ∧
    (∀ kind stage words, s.dev.cpuLive = true → s.dev.ctl.running = some c → s.dev.chanState c = 2 →
        s.dev.stageNow c stage = true → (kind = 3 ∨ kind = 4) → words < 8 → ¬ (stage = 2 ∧ kind = 4) →
        s.dev.reg (Reg.faultCount (chanRequestor c)) < 0xFFFFFFFF →
      Runs (.dmaFault c kind stage words) s fun t => t.dev.chanState c = 4 ∧ (t.dev.chan c).faultStage = stage
        ∧ Raised 44 t ∧ t.dev.reg (Reg.faultCount (chanRequestor c)) = s.dev.reg (Reg.faultCount (chanRequestor c)) + 1
        ∧ t.dev.blob (Reg.faultRecord c).key [] = t.dev.blob (Reg.requestorFault (chanRequestor c)).key []
        ∧ (t.dev.blob (Reg.faultRecord c).key []).length = 32 ∧ t.mem = s.mem
        ∧ KeepsRegs (withinEvents [(0x8010, 0x802F)] []) s t) ∧
    (∀ e, s.dev.cpuLive = true → reservedSource e = false → s.dev.on (Reg.eventFlag e) = false → DmaWaits s.dev e c = true →
      Runs (.dmaTrigger e) s fun t => t.dev.chanState c = 2 ∧ Raised e t ∧ Keeps (orEvents []) s t) ∧
    (∀ e, s.dev.on (Reg.eventFlag e) = true → Runs (.dmaTrigger e) s fun t => t = s) ∧
    (∀ e, reservedSource e = true →
      Runs (.dmaTrigger e) s fun t => t = s ∨ t = s.onDev (·.engineRun))

/-- The event controller (on R256, R283 to R285, R403): a raise sets the flag, counts and notes the row; at the rising of an
enabled source its routes send one emergency frame and make one log entry, each as far as its queue has room, and a drop of a log
entry raises source 117; the frames that one command raises stand by priority and source; 1 written to EventFlag clears the
flag; an enable is stored; reserved sources take no part. Where the manual leaves a point open it follows the model's choices
(assumptions 80, 81 and 167). -/
def Obligations.EventController : Prop :=
  ∀ (s : State) (e : Nat),
    (s.dev.cpuLive = true → e < 128 → reservedSource e = false → (e = 117 → s.dev.stor.logQueue.length < 64) → s.dev.reg (Reg.eventCount e) < 0xFFFFFFFF →
      Runs (.eventRaise e) s fun t => Raised e t ∧ t.dev.reg (Reg.eventCount e) = s.dev.reg (Reg.eventCount e) + 1
        ∧ t.dev.nat (Reg.eventLastRow e) = s.dev.row ∧ Keeps (orEvents []) s t) ∧
    (∀ routed logged : Bool, routed = (!s.dev.on (Reg.eventFlag e) && s.dev.on (Reg.eventEnable e) && s.dev.bit (Reg.eventRouting e) 1) →
        logged = (!s.dev.on (Reg.eventFlag e) && s.dev.on (Reg.eventEnable e) && s.dev.bit (Reg.eventRouting e) 3) →
        s.dev.cpuLive = true → e < 128 → reservedSource e = false →
      (s.dev.stor.logQueue.length < 64 →
        Runs (.eventRaise e) s fun t => t.dev.stor.logQueue = s.dev.stor.logQueue
            ++ (if logged then [s.dev.logBytes 0x01 e (if e = 96 then s.dev.nat Reg.tripCause else t.dev.nat (Reg.eventCount e))] else [])
          ∧ t.dev.reg Reg.logDropped = s.dev.reg Reg.logDropped
          ∧ t.dev.svc.emergencies = s.dev.svc.emergencies
            ++ (if routed ∧ s.dev.svc.emergencies.length < 16 then [(s.dev.nat (Reg.eventPriority e), e, s.dev.row)] else [])
          ∧ (s.dev.reg Reg.emergencyDropped < 0xFFFFFFFF → t.dev.reg Reg.emergencyDropped
              = s.dev.reg Reg.emergencyDropped + (if routed ∧ 16 ≤ s.dev.svc.emergencies.length then 1 else 0))) ∧
      (64 ≤ s.dev.stor.logQueue.length → logged = true → e ≠ 117 →
        Runs (.eventRaise e) s fun t => t.dev.stor.logQueue = s.dev.stor.logQueue ∧ t.dev.stor.droppedRead = false
          ∧ s.dev.reg Reg.logDropped ≤ t.dev.reg Reg.logDropped
          ∧ (s.dev.reg Reg.logDropped < 0xFFFFFFFF → s.dev.stor.droppedRead = false →
              t.dev.reg Reg.logDropped = s.dev.reg Reg.logDropped + 1)
          ∧ (s.dev.stor.droppedRead = true → Raised 117 t)
          ∧ (s.dev.stor.droppedRead = false → t.dev.reg (Reg.eventFlag 117) = s.dev.reg (Reg.eventFlag 117)))) ∧
    (∀ (b : Bool) (n v : Nat), ∀ c ∈ [Instr.eventRaise e, .sramEccError n v true, .comparatorTestDone b false, .comparatorTestDone b true,
        .chargeFault n], Runs c s fun t => FramesInOrder s t) ∧
    (reservedSource e = true → Runs (.eventRaise e) s fun t => t = s) ∧
    (∀ who, MayWrite s who (Reg.eventFlag e) → e < 128 → reservedSource e = false →
      (Runs (.eventFlagClear who e 1) s fun t => t.dev.reg (Reg.eventFlag e) = 0
        ∧ Keeps (orAnswer [Reg.eventFlag e]) s t) ∧
      (Runs (.eventFlagClear who e 0) s fun t => t.dev.reg (Reg.eventFlag e) = s.dev.reg (Reg.eventFlag e)
        ∧ Keeps (orAnswer []) s t)) ∧
    (∀ who v, MayWrite s who (Reg.eventEnable e) → e < 128 → v ≤ 1 →
      (reservedSource e = false →
        Runs (.eventEnableWrite who e v) s fun t => t.dev.nat (Reg.eventEnable e) = v
          ∧ Keeps (orAnswer [Reg.eventEnable e, Reg.configStoreState]) s t) ∧
      (reservedSource e = true →
        Runs (.eventEnableWrite who e v) s fun t => t.dev.reg (Reg.eventEnable e) = s.dev.reg (Reg.eventEnable e)
          ∧ Keeps (orAnswer []) s t))

/-! ## The converter and the housekeeping bucks (chapter 11) -/

/-- A phase's cycle (on R290 to R293, R299): the grant starts the rising portion of the first phase of the list that waits,
each portion ends at its threshold, once that is not blanked, at an imposed length or at the peak limit, and not before; the
falling portion ends in the next request; a forced portion ends at its bound, or where 6.667 µs from the cycle's start cut an
imposed length, and opens an episode; a phase of low bootstrap voltage is held off; a cycle adapts the window within its bounds. Where the manual leaves a point open it follows the model's choices (assumptions 46, 121 and 122). -/
def Obligations.PhaseCycles : Prop :=
  ∀ (s : State) (p : Nat), 1 ≤ p → p ≤ 6 → Shape s.dev →
    (∀ ns, s.dev.convOn = true → (s.dev.phase p).requested = true → s.dev.isActive p = true → 20 ≤ ns →
        s.dev.nat Reg.throttleStep ≠ 16 → (s.dev.phase p).bstLow = false →
        ((s.dev.newRound.priorityList.filter (fun q =>
          (s.dev.newRound.phase q).requested && !(s.dev.newRound.phase q).bstLow)).head? = some p) →
      Runs (.turnOnGrant p ns) s fun t => (t.dev.phase p).portion = 1 ∧ (t.dev.phase p).requested = false
        ∧ p ∈ t.dev.conv.granted ∧ t.dev.nat (Reg.phaseRegion p) = s.dev.conv.region
        ∧ (∀ q, q ≠ p → 1 ≤ q → t.dev.phase q = s.dev.phase q) ∧ Keeps (these [Reg.phaseRegion p]) s t) ∧
    (∀ ns, ns < 20 → Runs (.turnOnGrant p ns) s fun t => t = s) ∧
    (∀ ns, (s.dev.phase p).bstLow = true → Runs (.turnOnGrant p ns) s fun t => t = s) ∧
    (∀ length ma, (s.dev.phase p).portion = 1 →
        ((s.dev.phase p).fixed = some length ∧ length ≤ 2667
          ∨ ((s.dev.phase p).fixed = none ∧ 40 ≤ length ∧ length ≤ s.dev.riseBound p
            ∧ 2 * s.dev.conv.share + s.dev.nat (Reg.phaseWindow p) ≤ 2 * ma)
          ∨ ((s.dev.nat Reg.phasePeakLimit : Int) ≤ ma ∧ length ≤ min 2667 ((s.dev.phase p).fixed.getD (s.dev.riseBound p)))) →
      Runs (.risingPortionEnd p length ma) s fun t => (t.dev.phase p).riseNow = length
        ∧ (s.dev.conv.shedding ≠ some p → (t.dev.phase p).portion = 2)
        ∧ (s.dev.conv.shedding = some p → (t.dev.phase p).portion = 0 ∧ (t.dev.phase p).requested = false)
        ∧ (∀ q, q ≠ p → 1 ≤ q → t.dev.phase q = s.dev.phase q) ∧ Keeps (these []) s t) ∧
    (∀ length ma, (s.dev.phase p).fixed = none → ma < (s.dev.nat Reg.phasePeakLimit : Int) →
        (length < 40 ∨ 2 * ma < 2 * s.dev.conv.share + s.dev.nat (Reg.phaseWindow p)) →
      Runs (.risingPortionEnd p length ma) s fun t => t = s) ∧
    (∀ length ma, (s.dev.phase p).portion = 2 →
        ((s.dev.phase p).fixed = some length ∧ (s.dev.phase p).reaches length = true
          ∨ ((s.dev.phase p).fixed = none ∧ 40 ≤ length ∧ length ≤ s.dev.fallBound p
            ∧ 2 * ma ≤ 2 * s.dev.conv.share - s.dev.nat (Reg.phaseWindow p))) →
      (s.dev.conv.shedding ≠ some p →
        Runs (.fallingPortionEnd p length ma) s fun t => (t.dev.phase p).portion = 0 ∧ (t.dev.phase p).requested = true
          ∧ (t.dev.phase p).due = true ∧ (t.dev.phase p).fallNow = max length (334 - (s.dev.phase p).riseNow)
          ∧ ((s.dev.phase p).riseNow + length < 334 → s.dev.reg (Reg.phaseClampedCycles p) < 0xFFFFFFFF →
              t.dev.reg (Reg.phaseClampedCycles p) = s.dev.reg (Reg.phaseClampedCycles p) + 1)
          ∧ (334 ≤ (s.dev.phase p).riseNow + length →
              t.dev.reg (Reg.phaseClampedCycles p) = s.dev.reg (Reg.phaseClampedCycles p))
          ∧ Keeps (these [Reg.phaseClampedCycles p]) s t) ∧
      (s.dev.conv.shedding = some p →
        Runs (.fallingPortionEnd p length ma) s fun t => (t.dev.phase p).portion = 0 ∧ (t.dev.phase p).requested = false
          ∧ Keeps (these [Reg.phaseClampedCycles p]) s t)) ∧
    (∀ length ma, (s.dev.phase p).fixed = none →
        (length < 40 ∨ 2 * s.dev.conv.share - s.dev.nat (Reg.phaseWindow p) < 2 * ma) →
      Runs (.fallingPortionEnd p length ma) s fun t => t = s) ∧
    (∀ rising, s.dev.convOn = true → (s.dev.phase p).portion = (if rising then 1 else 2) → (s.dev.phase p).fixed = none →
        (s.dev.phase p).forced = false →
      Runs (.portionForced p rising) s fun t =>
        ((rising = false ∨ s.dev.conv.shedding ≠ some p) → (t.dev.phase p).forced = true)
        ∧ (rising = true → s.dev.conv.shedding ≠ some p → (t.dev.phase p).portion = 2
            ∧ (t.dev.phase p).riseNow = s.dev.riseBound p
            ∧ (t.dev.phase p).fixed = (s.dev.references p).map (fun r => 2 * r.2))
        ∧ (rising = false → s.dev.conv.shedding ≠ some p → (t.dev.phase p).portion = 0 ∧ (t.dev.phase p).requested = true
            ∧ (t.dev.phase p).fallNow = max (s.dev.fallBound p) (334 - (s.dev.phase p).riseNow)
            ∧ (t.dev.phase p).fixed = (s.dev.references p).map (fun r => 2 * r.1))
        ∧ (rising = false → (s.dev.phase p).riseNow + s.dev.fallBound p < 334 →
            s.dev.reg (Reg.phaseClampedCycles p) < 0xFFFFFFFF →
              t.dev.reg (Reg.phaseClampedCycles p) = s.dev.reg (Reg.phaseClampedCycles p) + 1)
        ∧ ((rising = true ∨ 334 ≤ (s.dev.phase p).riseNow + s.dev.fallBound p) →
              t.dev.reg (Reg.phaseClampedCycles p) = s.dev.reg (Reg.phaseClampedCycles p))
        ∧ ((s.dev.phase p).mirrored = false → s.dev.cpuLive = true → Raised 67 t)
        ∧ Keeps (orEvents [Reg.phaseClampedCycles p]) s t) ∧
    (∀ rising n, s.dev.convOn = true → (s.dev.phase p).portion = (if rising then 1 else 2) → (s.dev.phase p).fixed = some n →
        (s.dev.phase p).reaches n = false → s.dev.conv.shedding ≠ some p →
      Runs (.portionForced p rising) s fun t => (t.dev.phase p).forced = true
        ∧ (rising = true → (t.dev.phase p).portion = 2 ∧ (t.dev.phase p).riseNow = 2667)
        ∧ (rising = false → (t.dev.phase p).portion = 0 ∧ (t.dev.phase p).requested = true ∧ (t.dev.phase p).due = true
            ∧ (t.dev.phase p).riseNow + (t.dev.phase p).fallNow = 2667)
        ∧ Keeps (orEvents [Reg.phaseClampedCycles p]) s t) ∧
    (∀ mean, s.dev.convOn = true → s.dev.isActive p = true → (s.dev.phase p).due = true → s.dev.reg Reg.windowMin ≤ s.dev.reg Reg.windowMax →
        (s.dev.phase p).forced = false → (s.dev.phase p).mirrored = false → s.dev.conv.shedding ≠ some p →
        s.dev.conv.share < s.dev.nat Reg.phaseCheckMin → 0 < s.dev.conv.share →
      Runs (.phaseCycleEnd p mean) s fun t => s.dev.nat Reg.windowMin ≤ t.dev.nat (Reg.phaseWindow p)
        ∧ t.dev.nat (Reg.phaseWindow p) ≤ s.dev.nat Reg.windowMax
        ∧ (t.dev.phase p).rowCycles = (s.dev.phase p).rowCycles + 1
        ∧ (t.dev.phase p).rowLength = (s.dev.phase p).rowLength + (s.dev.phase p).riseNow + (s.dev.phase p).fallNow
        ∧ (t.dev.phase p).due = false
        ∧ (t.dev.phase p).history = (((s.dev.phase p).riseNow, (s.dev.phase p).fallNow) :: (s.dev.phase p).history).take 16
        ∧ t.dev.reg (Reg.phaseDeviationCount p) = s.dev.reg (Reg.phaseDeviationCount p)
        ∧ t.dev.reg Reg.phaseExcluded = s.dev.reg Reg.phaseExcluded
        ∧ t.dev.reg Reg.phaseActive = s.dev.reg Reg.phaseActive ∧ Keeps (within [(0x4101, 0x4106)] []) s t) ∧
    (∀ mean, s.dev.convOn = true → s.dev.isActive p = true → (s.dev.phase p).due = true → (s.dev.phase p).forced = false →
        (s.dev.phase p).mirrored = false → s.dev.conv.shedding ≠ some p → 0 < s.dev.conv.share →
        (s.dev.nat Reg.phaseCheckMin : Int) ≤ s.dev.conv.share →
        (s.dev.nat Reg.failDeviation : Int) * s.dev.conv.share < (mean - s.dev.conv.share).natAbs * 100 →
        s.dev.nat Reg.failCycles ≤ s.dev.nat (Reg.phaseDeviationCount p) + 1 →
      Runs (.phaseCycleEnd p mean) s fun t => t.dev.bit Reg.phaseExcluded (p - 1) = true
        ∧ t.dev.isActive p = false ∧ t.dev.isUsable p = false ∧ (s.dev.cpuLive = true → Raised 65 t)
        ∧ Keeps (withinEvents [(0x4000, 0x4000), (0x4101, 0x4106)] []) s t) ∧
    ((s.dev.phase p).portion = 2 → s.dev.nat (Reg.phaseRegion p) ≠ 1 →
      Runs (.bootstrapRefresh p 0) s fun t => (t.dev.phase p).refreshed = true
        ∧ (t.dev.phase p).portion = (s.dev.phase p).portion ∧ Keeps (these []) s t) ∧
    (∀ n, 0 < n → Runs (.bootstrapRefresh p n) s fun t => t = s)

/-- The outer loop (on R294 to R298, Table 11.2): the demand stays within the limits in force, in Stopping it falls to zero
over 100 updates, within the limits still, and a shed that is done leaves the phase with its gates off. The housekeeping bucks (on R308, R309): HB2
off after its limit, and the synchronisation to SYNC_IN. Where the manual leaves a point open it follows the model's choices
(assumptions 25, 47 and 120). -/
def Obligations.OuterLoopAndBucks : Prop :=
  (∀ s : State,
      (∀ vs vr demands, s.dev.cnvRuns = true → (s.dev.convState = 1 ∨ s.dev.convState = 2) →
        Runs (.outerLoopUpdate vs vr demands) s fun t =>
          t.dev.reg Reg.demandCurrent ≤ t.dev.nat Reg.currentLimitInForce
          ∧ (t.dev.reg Reg.demandCurrent ≤ (t.dev.usableCount * s.dev.nat Reg.phaseCurrentLimit : Nat))
          ∧ -((t.dev.nat Reg.currentLimitInForce : Int) / 4) ≤ t.dev.reg Reg.demandCurrent
          ∧ t.dev.conv.region = s.dev.judgeRegion vs vr ∧ t.dev.conv.nodeMv = vr
          ∧ Keeps (withinEvents [(0x4000, 0x4000), (0x4101, 0x4106)] []) s t) ∧
      (∀ vs vr demands, s.dev.cnvRuns = true → s.dev.convState = 3 →
        Runs (.outerLoopUpdate vs vr demands) s fun t => t.dev.conv.stopUs = min 100 (s.dev.conv.stopUs + 1)
          ∧ t.dev.reg Reg.demandCurrent = t.dev.degradedClamp (t.dev.limitDemand vs (if s.dev.nat Reg.throttleStep = 16 then 0
              else s.dev.conv.stopFrom * ((100 - min 100 (s.dev.conv.stopUs + 1) : Nat) : Int) / 100)).2
          ∧ t.dev.reg Reg.demandCurrent ≤ t.dev.nat Reg.currentLimitInForce
          ∧ t.dev.bit Reg.converterStatus 0 = decide (t.dev.reg Reg.demandCurrent ≠ (if s.dev.nat Reg.throttleStep = 16 then 0
              else s.dev.conv.stopFrom * ((100 - min 100 (s.dev.conv.stopUs + 1) : Nat) : Int) / 100))
          ∧ t.dev.conv.region = s.dev.judgeRegion vs vr ∧ t.dev.conv.nodeMv = vr
          ∧ t.dev.reg Reg.phaseActive = s.dev.reg Reg.phaseActive ∧ t.mem = s.mem) ∧
      (∀ p, s.dev.conv.shedding = some p → 1 ≤ p → p ≤ 6 → Shape s.dev → s.dev.isActive p = false →
        Runs .shedComplete s fun t => t.dev.conv.shedding = none ∧ (t.dev.phase p).portion = 0
          ∧ (t.dev.phase p).requested = false ∧ t.dev.reg Reg.phaseActive = s.dev.reg Reg.phaseActive
          ∧ Keeps (within [(0x4101, 0x4106)] []) s t)) ∧
  (∀ s : State, s.dev.hb2On = true → s.dev.reg Reg.hbFaultCount < 0xFFFFFFFF →
      Runs (.hbCurrentLimitFault true) s fun t => t.dev.conv.hb2Off = true ∧ t.dev.hb2On = false ∧ Raised 73 t
        ∧ t.dev.reg Reg.hbFaultCount = s.dev.reg Reg.hbFaultCount + 1 ∧ Keeps (orEvents [Reg.hbFaultCount]) s t) ∧
  (∀ s : State, s.dev.cpuLive = true →
      (∀ periods us, s.dev.on Reg.hbSyncEnable = true → (s.dev.nat Reg.hbSyncState = 0 ∨ s.dev.nat Reg.hbSyncState = 2) →
        (syncFits periods = true →
          Runs (.syncAcquired periods us) s fun t => t.dev.nat Reg.hbSyncState = 1 ∧ t.dev.conv.syncHz = syncMean periods
            ∧ t.dev.conv.slewFrom = s.dev.buckHz us ∧ Raised 74 t ∧ Keeps (orEvents [Reg.hbSyncState]) s t) ∧
        (syncFits periods = false → Runs (.syncAcquired periods us) s fun t => t = s)) ∧
      (∀ period us, (s.dev.nat Reg.hbSyncState = 1 ∨ s.dev.nat Reg.hbSyncState = 3) →
        ((period = none ∨ ∃ x, period = some x ∧
            (1000000000000 : Int) < 10 * (((x * s.dev.conv.syncHz : Nat) : Int) - 1000000000000).natAbs) →
          Runs (.syncLost period us) s fun t => t.dev.nat Reg.hbSyncState = 2 ∧ t.dev.reg Reg.hbSyncFrequency = 0
            ∧ t.dev.conv.slewFrom = s.dev.buckHz us ∧ Raised 75 t
            ∧ Keeps (orEvents [Reg.hbSyncState, Reg.hbSyncFrequency]) s t) ∧
        (s.dev.syncBroken period = false → Runs (.syncLost period us) s fun t => t = s)) ∧
      (s.dev.nat Reg.hbSyncState = 1 →
        Runs .hbSyncSlewEnd s fun t => t.dev.nat Reg.hbSyncState = 3
          ∧ t.dev.nat Reg.hbSyncFrequency = s.dev.conv.syncHz
          ∧ Keeps (these [Reg.hbSyncState, Reg.hbSyncFrequency]) s t) ∧
      (s.dev.nat Reg.hbSyncState = 2 →
        Runs .hbSyncSlewEnd s fun t => t.dev.nat Reg.hbSyncState = 0 ∧ Keeps (these [Reg.hbSyncState]) s t))

/-- The converter's states (on Table 11.3, R287, R301, R303 to R306): start under the run command, the end of Start,
Stopping, Off; a fault turns every gate off and is cleared only once it is gone; throttling; telemetry. Where the manual
leaves a point open it follows the model's choices (assumptions 46, 47, 120 and 124). -/
def Obligations.ConverterStates : Prop :=
  ∀ s : State,
    (∀ vdrv node, s.dev.cnvRuns = true → s.dev.conv.run = true → s.dev.convState = 0 → 9000 ≤ vdrv →
        0 < s.dev.usableCount →
      Runs (.converterRun vdrv node) s fun t => t.dev.convState = 1
        ∧ t.dev.nat Reg.phaseActive = s.dev.nat Reg.phaseUsable ∧ t.dev.conv.rampMv = node
        ∧ t.dev.on Reg.directionInForce = s.dev.conv.reverse ∧ t.dev.conv.region = 1 ∧ Keeps (withinEvents [(0x4000, 0x4000), (0x4101,
            0x4106)] []) s t) ∧
    (∀ vdrv node, s.dev.convState = 0 → vdrv < 9000 →
      Runs (.converterRun vdrv node) s fun t => t.dev.convState = 0 ∧ Keeps (these [Reg.directionInForce]) s t) ∧
    (s.dev.convState = 1 → s.dev.conv.startReady = true →
      Runs .converterStartDone s fun t => t.dev.convState = 2 ∧ Keeps (these [Reg.converterState]) s t) ∧
    (s.dev.conv.run = false → (s.dev.convState = 1 ∨ s.dev.convState = 2) →
      Runs .converterStop s fun t => t.dev.convState = 3 ∧ t.dev.conv.stopFrom = s.dev.reg Reg.demandCurrent
        ∧ Keeps (these [Reg.converterState]) s t) ∧
    (s.dev.convState = 3 →
      Runs .converterStopped s fun t => t.dev.convState = 0 ∧ t.dev.nat Reg.phaseActive = 0
        ∧ t.dev.reg Reg.demandCurrent = 0 ∧ t.dev.nat Reg.converterFaultCause = 0
        ∧ Keeps (withinEvents [(0x4000, 0x4000), (0x4101, 0x4106)] []) s t) ∧
    (∀ cause, s.dev.convOn = true → cause < 4 →
      Runs (.converterFault cause) s fun t => t.dev.convState = 4 ∧ t.dev.bit Reg.converterFaultCause cause = true
        ∧ t.dev.nat Reg.phaseActive = 0 ∧ t.dev.reg Reg.demandCurrent = 0
        ∧ (s.dev.cpuLive = true → Raised 64 t ∧ (cause = 1 → Raised 70 t) ∧ ((cause = 0 ∨ cause = 3) → Raised 71 t))
        ∧ Keeps (withinEvents [(0x4000, 0x4000), (0x4101, 0x4106)] []) s t) ∧
    (∀ who, MayWrite s who Reg.converterFaultClear → s.dev.convState = 4 →
      (s.dev.persisting = 0 →
        Runs (.converterFaultClear who 1) s fun t => t.dev.convState = 0 ∧ t.dev.nat Reg.converterFaultCause = 0
          ∧ Keeps (withinBoth [(0x4000, 0x4000), (0x4101, 0x4106)] [Reg.configStoreState]) s t) ∧
      (s.dev.persisting ≠ 0 →
        Runs (.converterFaultClear who 1) s fun t => t.dev.convState = 4 ∧ t.dev.conv = s.dev.conv
          ∧ Keeps (orAnswer []) s t)) ∧
    (∀ who v, MayWrite s who Reg.phaseExcludedClear → 1 ≤ v → v ≤ 0x3F →
      (s.dev.convState = 0 →
        Runs (.phaseExcludedClear who v) s fun t =>
          t.dev.nat Reg.phaseExcluded = clearBits (s.dev.nat Reg.phaseExcluded) v
          ∧ t.dev.nat Reg.phaseUsable = clearBits (s.dev.nat Reg.phasePopulated) (clearBits (s.dev.nat Reg.phaseExcluded) v)
          ∧ Keeps (withinBoth [(0x4000, 0x4000), (0x4101, 0x4106)] [Reg.configStoreState]) s t) ∧
      (s.dev.convState ≠ 0 →
        Runs (.phaseExcludedClear who v) s fun t => Keeps (orAnswer []) s t)) ∧
    (∀ who v, MayWrite s who Reg.phasePopulated → 1 ≤ v → v ≤ 0x3F → s.dev.convState = 0 →
      Runs (.phasePopulatedWrite who v) s fun t => t.dev.nat Reg.phasePopulated = v
        ∧ t.dev.nat Reg.phaseUsable = clearBits v (s.dev.nat Reg.phaseExcluded)
        ∧ Keeps (withinBoth [(0x4000, 0x4000), (0x4101, 0x4106)] [Reg.configStoreState]) s t) ∧
    ((s.dev.convState = 1 ∨ s.dev.convState = 2) →
      Runs .throttleInterval s fun t => t.dev.stor.ctrlTempBusy = true ∧ Keeps (these []) s t) ∧
    (s.dev.cpuLive = true → s.dev.nat Reg.throttleStep < s.dev.throttleNew 0 →
      Runs .throttleCompute s fun t => t.dev.nat Reg.throttleStep = s.dev.throttleNew 0
        ∧ (s.dev.nat Reg.throttleStep = 0 → Raised 69 t) ∧ Keeps (orEvents [Reg.throttleStep]) s t) ∧
    (s.dev.cpuLive = true → s.dev.throttleNew 0 ≤ s.dev.nat Reg.throttleStep →
        s.dev.throttleNew 30 < s.dev.nat Reg.throttleStep →
      Runs .throttleCompute s fun t => t.dev.nat Reg.throttleStep = s.dev.nat Reg.throttleStep - 1
        ∧ Keeps (these [Reg.throttleStep]) s t) ∧
    (∀ vdrv vs node sensed, s.dev.cnvRuns = true → Shape s.dev →
      Runs (.converterTelemetry vdrv vs node sensed) s fun t => t.dev.reg Reg.outputVoltage = node
        ∧ t.dev.reg Reg.outputCurrent = rowSum sensed PhaseSense.delivered
        ∧ t.dev.reg Reg.inputPower = roundDiv (vs * rowSum sensed PhaseSense.drawn) 1000
        ∧ (∀ p ∈ allPhases, t.dev.reg (Reg.phaseMeanCurrent p) = meanInt ((readingsOf sensed p).map (·.ma))
            ∧ t.dev.reg (Reg.phasePeakCurrent p) = peakOf ((readingsOf sensed p).map (·.ma))
            ∧ t.dev.nat (Reg.phaseFrequency p) = (s.dev.phase p).frequency
            ∧ (t.dev.phase p).rowCycles = 0 ∧ (t.dev.phase p).rowLength = 0
            ∧ (readingsOf sensed p ≠ [] →
                (t.dev.phase p).bstLow = (readingsOf sensed p).any (fun y => decide (y.bstMv < bootstrapUv)))
            ∧ ((t.dev.phase p).bstLow = true → readingsOf sensed p ≠ [] → (t.dev.phase p).portion = 0))
        ∧ Keeps (withinEvents [(0x4000, 0x4000), (0x4101, 0x4106)] []) s t)

/-! ## Power path, charging, keep-alive (chapter 12) -/

/-- The power path (on R312 to R322, Table 12.2): a source qualifies, is selected with its limit, is searched, is lost, and
the path hands over; Reverse is entered under its conditions; BATFET follows. Where the manual leaves a point open it
follows the model's choices (assumptions 50, 51, 126 and 156). -/
def Obligations.PowerPath : Prop :=
  ∀ s : State,
    (s.dev.cpuLive = true →
      (∀ mv, 20000 ≤ mv → mv ≤ 60000 →
        Runs (.dockQualified mv) s fun t => t.dev.qualified 1 = true ∧ (s.dev.qualified 1 = false → Raised 76 t)
          ∧ Keeps (orEvents [Reg.sourceStatus]) s t) ∧
      (∀ mv, s.dev.pwr.logic = .active →
        Runs (.dockPresent mv) s fun t => t.dev.bit Reg.sourceStatus 0 = decide (15000 < mv)
          ∧ Keeps (these [Reg.sourceStatus]) s t) ∧
      (∀ mv src, (s.dev.pathState = 0 ∨ (s.dev.pathState = 1 ∧ s.dev.convState = 0
            ∧ (s.dev.pd.asking && s.dev.reverseAllowed) = false)) → s.dev.pickSource = some src →
        Runs (.sourceSelect mv) s fun t => t.dev.pathState = 2 ∧ t.dev.nat Reg.selectedSource = src
          ∧ t.dev.path.noLoadMv = mv ∧ t.dev.nat Reg.batfetState = 1 ∧ t.dev.conv.run = true
          ∧ t.dev.conv.reverse = false ∧ t.dev.conv.targetMv = s.dev.sysTarget
          ∧ (s.dev.searches src = true →
              t.dev.nat Reg.inputLimitInForce = min (s.dev.nat Reg.searchStart) (s.dev.searchCap src)
              ∧ (s.dev.searchCap src ≤ s.dev.nat Reg.searchStart → t.dev.searching = false
                  ∧ t.dev.nat Reg.searchResult = s.dev.searchCap src ∧ Raised 78 t))
          ∧ (s.dev.searches src = false → src = 2 → t.dev.nat Reg.inputLimitInForce = s.dev.path.allowMa)
          ∧ (s.dev.searches src = false → src = 1 → s.dev.nat Reg.dockCurrentLimit ≠ 0 →
              t.dev.nat Reg.inputLimitInForce = s.dev.nat Reg.dockCurrentLimit)
          ∧ Keeps (orEvents [Reg.pathState, Reg.selectedSource, Reg.batfetState, Reg.inputLimitInForce,
              Reg.sourceStatus, Reg.searchResult, Reg.frsState]) s t) ∧
      (∀ mv (ma : Int) (vbus : Bool) n, n = (if vbus then 2 else 1) →
          ((vbus = false ∧ (mv < s.dev.nat Reg.dockLossVoltage ∨ 62000 < mv))
            ∨ (vbus = true ∧ s.dev.pdState = 5 ∧ s.dev.pd.transition = none ∧ 100 * mv < 85 * s.dev.nat Reg.contractVoltage)
            ∨ (s.dev.pathState = 2 ∧ s.dev.nat Reg.selectedSource = n ∧ ma < -500)) →
        Runs (.sourceLost vbus mv ma) s fun t => t.dev.qualified n = false
          ∧ (s.dev.pathState = 2 → s.dev.nat Reg.selectedSource = n →
              t.dev.pathState = 3 ∧ t.dev.nat Reg.batfetState = 3 ∧ t.dev.conv.run = false ∧ Raised 77 t
              ∧ Keeps (orEvents [Reg.pathState, Reg.selectedSource, Reg.inputLimitInForce, Reg.sourceStatus,
                  Reg.batfetState, Reg.frsState]) s t)
          ∧ ((s.dev.pathState ≠ 2 ∨ s.dev.nat Reg.selectedSource ≠ n) → Keeps (these [Reg.sourceStatus]) s t)) ∧
      (∀ mv (ma : Int) vbus, s.dev.lossHolds (if vbus then 2 else 1) mv ma = false →
        Runs (.sourceLost vbus mv ma) s fun t => t = s) ∧
      (s.dev.pd.asking = true → s.dev.reverseAllowed = true →
        Runs .reverseEntry s fun t => t.dev.pathState = 4 ∧ t.dev.conv.run = true ∧ t.dev.conv.reverse = true
          ∧ t.dev.nat Reg.batfetState = 3 ∧ t.dev.pd.asking = false
          ∧ Keeps (these [Reg.pathState, Reg.batfetState, Reg.frsState]) s t) ∧
      (s.dev.nat Reg.batfetState = 3 →
        Runs .batfetFault s fun t => t.dev.nat Reg.batfetState = 4 ∧ t.dev.bit Reg.chargeFaultLatched 5 = true
          ∧ t.dev.nat Reg.chargeState = 7 ∧ Raised 82 t
          ∧ Keeps (orEvents [Reg.batfetState, Reg.chargeFaultLatched, Reg.chargeState, Reg.chargeTarget]) s t) ∧
      (s.dev.pathState = 2 → s.dev.disconnectClosed = false →
        (s.dev.on Reg.chargeFaultLatched = true ∨ s.dev.on Reg.chargeEnable = false) →
        Runs .disconnectOpenInSource s fun t => t.dev.nat Reg.batfetState = 0
          ∧ t.dev.bit Reg.chargeSuspendCause 1 = true ∧ t.dev.path.outLimit = none ∧ t.dev.conv.targetMv = s.dev.nat Reg.sysMinVoltage
          ∧ Keeps (orEvents [Reg.batfetState, Reg.chargeSuspendCause]) s t)) ∧
    (∀ us, s.dev.pathState = 3 → s.dev.reg Reg.handOverCount < 0xFFFFFFFF →
      Runs (.handOverComplete us) s fun t => t.dev.pathState = (if s.dev.disconnectClosed then 1 else 0)
        ∧ t.dev.nat Reg.handOverTime = us ∧ t.dev.reg Reg.handOverCount = s.dev.reg Reg.handOverCount + 1
        ∧ t.dev.bit Reg.sourceStatus 6 = false
        ∧ Keeps (these [Reg.pathState, Reg.batfetState, Reg.handOverTime, Reg.handOverCount, Reg.sourceStatus,
            Reg.frsState]) s t) ∧
    (s.dev.searching = true →
      (s.dev.nat Reg.inputLimitInForce + s.dev.nat Reg.searchStep < s.dev.searchCap (s.dev.nat Reg.selectedSource) →
        Runs (.searchStep true) s fun t =>
          t.dev.nat Reg.inputLimitInForce = s.dev.nat Reg.inputLimitInForce + s.dev.nat Reg.searchStep
          ∧ t.dev.path.good = some (s.dev.nat Reg.inputLimitInForce) ∧ t.dev.searching = true
          ∧ Keeps (these [Reg.inputLimitInForce]) s t) ∧
      (s.dev.searchCap (s.dev.nat Reg.selectedSource) ≤ s.dev.nat Reg.inputLimitInForce + s.dev.nat Reg.searchStep →
        Runs (.searchStep true) s fun t => t.dev.searching = false
          ∧ t.dev.nat Reg.searchResult = s.dev.searchCap (s.dev.nat Reg.selectedSource)
          ∧ (s.dev.cpuLive = true → Raised 78 t)
          ∧ Keeps (orEvents [Reg.inputLimitInForce, Reg.searchResult, Reg.sourceStatus]) s t) ∧
      (s.dev.path.good = none →
        Runs (.searchEnd true) s fun t =>
          t.dev.nat Reg.searchResult = min (s.dev.searchCap (s.dev.nat Reg.selectedSource)) (s.dev.nat Reg.searchStart)
          ∧ t.dev.nat Reg.inputLimitInForce = t.dev.nat Reg.searchResult ∧ t.dev.searching = false
          ∧ (s.dev.cpuLive = true → Raised 78 t)
          ∧ Keeps (orEvents [Reg.inputLimitInForce, Reg.searchResult, Reg.sourceStatus]) s t) ∧
      (∀ g, s.dev.path.good = some g →
        Runs (.searchEnd true) s fun t =>
          t.dev.nat Reg.searchResult = min (s.dev.searchCap (s.dev.nat Reg.selectedSource)) (g * 9 / 500 * 50)
          ∧ t.dev.nat Reg.inputLimitInForce = t.dev.nat Reg.searchResult ∧ t.dev.searching = false
          ∧ Keeps (orEvents [Reg.inputLimitInForce, Reg.searchResult, Reg.sourceStatus]) s t)) ∧
    ((s.dev.nat Reg.batfetState = 1 ∨ s.dev.nat Reg.batfetState = 2) →
      (Runs .batfetDiodeOn s fun t => t.dev.batfetOn = true ∧ t.dev.path.diodeOn = true ∧ Keeps (these []) s t) ∧
      (Runs .batfetDiodeOff s fun t => t.dev.path.diodeOn = false
        ∧ t.dev.batfetOn = decide (s.dev.nat Reg.batfetState = 2) ∧ Keeps (these []) s t))

/-- Traction charging (on R323 to R327): an evaluation shows the pack and obeys Table 12.4: no charge without the enable and
Source, suspended for a cause, a latched fault holds Fault with no target; done by current or timer; a read clears the
latched faults. Where the manual leaves a point open it follows the model's choices (assumptions 51, 53 and 153). -/
def Obligations.TractionCharging : Prop :=
  ∀ s : State,
    (s.dev.cpuLive = true →
      (∀ pack sys ms, s.dev.pathState ≠ 4 →
        Runs (.chargeEvaluation pack sys ms) s fun t => t.dev.nat Reg.packVoltage = pack ∧ t.dev.nat Reg.sysVoltage = sys
          ∧ t.dev.path.packMa = s.dev.packCurrent
          ∧ (t.dev.on Reg.chargeFaultLatched = true → t.dev.nat Reg.chargeState = 7 ∧ t.dev.reg Reg.chargeTarget = 0)
          ∧ (t.dev.on Reg.chargeFaultLatched = false → (s.dev.on Reg.chargeEnable = false ∨ s.dev.pathState ≠ 2) →
              t.dev.nat Reg.chargeState = 0 ∧ t.dev.reg Reg.chargeTarget = 0)
          ∧ (t.dev.on Reg.chargeFaultLatched = false → s.dev.on Reg.chargeEnable = true → s.dev.pathState = 2 →
              t.dev.nat Reg.chargeSuspendCause ≠ 0 → t.dev.nat Reg.chargeState = 6 ∧ t.dev.reg Reg.chargeTarget = 0)
          ∧ (t.dev.nat Reg.chargeState = 1 → t.dev.reg Reg.chargeTarget = s.dev.nat Reg.trickleCurrent)
          ∧ (t.dev.nat Reg.chargeState = 2 → t.dev.reg Reg.chargeTarget = s.dev.nat Reg.prechargeCurrent)
          ∧ (t.dev.nat Reg.chargeState = 3 → t.dev.reg Reg.chargeTarget = s.dev.nat Reg.chargeCurrent)
          ∧ t.dev.reg Reg.pathState = s.dev.reg Reg.pathState
          ∧ Keeps (orEvents [Reg.packVoltage, Reg.sysVoltage, Reg.chargeMaxCell, Reg.chargeMinCell, Reg.chargeSuspendCause,
              Reg.chargeFaultLatched, Reg.chargeState, Reg.chargeTarget, Reg.chargeTermination, Reg.chargeElapsed,
              Reg.batfetState, Reg.sourceStatus, Reg.frsState]) s t) ∧
      (∀ bit, bit < 7 → s.dev.chargeFaultHolds bit = true →
        Runs (.chargeFault bit) s fun t => t.dev.bit Reg.chargeFaultLatched bit = true ∧ t.dev.nat Reg.chargeState = 7
          ∧ t.dev.reg Reg.chargeTarget = 0 ∧ Raised 82 t
          ∧ Keeps (orEvents [Reg.chargeFaultLatched, Reg.chargeState, Reg.chargeTarget, Reg.batfetState]) s t) ∧
      (s.dev.nat Reg.chargeState = 4 → s.dev.nat Reg.terminationTime * 1000 ≤ s.dev.path.termMs →
        Runs (.chargeDone false) s fun t => t.dev.nat Reg.chargeState = 5 ∧ t.dev.nat Reg.chargeTermination = 1
          ∧ Raised 81 t ∧ t.dev.reg Reg.chargeTarget = 0 ∧ Keeps (withinEvents [] [Reg.chargeState,
              Reg.chargeTermination, Reg.chargeTarget, Reg.batfetState]) s t) ∧
      (s.dev.nat Reg.chargeState = 4 → s.dev.nat Reg.cvTimer * 60000 ≤ s.dev.path.cvMs →
        Runs (.chargeDone true) s fun t => t.dev.nat Reg.chargeState = 5 ∧ Raised 81 t
          ∧ t.dev.reg Reg.chargeTarget = 0 ∧ Keeps (withinEvents [] [Reg.chargeState, Reg.chargeTermination,
              Reg.chargeTarget, Reg.batfetState]) s t)) ∧
    (∀ who, Accepts s who → byAgent who = false →
      Runs (.chargeFaultRead who) s fun t => t.dev.reg Reg.chargeFaultLatched = 0
        ∧ Answers who ((⟨1, Reg.chargeFaultLatched.key / 256, Reg.chargeFaultLatched.key % 256, .read⟩ : Ask).reply 0x81
            (objectBytes Reg.chargeFaultLatched (s.dev.reg Reg.chargeFaultLatched))) t
        ∧ Keeps (orAnswer [Reg.chargeFaultLatched, Reg.snapReady]) s t)

/-- The keep-alive island (on R330 to R333, Table 12.5): the NiMH charger's states, its terminations and faults, KA_OUT: it
begins in Trickle or Fast, goes on to Fast after 10 s at 2.7 V and back to it after 60 s below 3.60 V in Maintenance, waits out a
temperature beyond its range, and leaves a cleared fault for Off. A source whose cause comes while the CPU does not run waits for
it. Where the manual leaves a point open it follows the model's choices (assumptions 52, 132, 154, 201 and 202). -/
def Obligations.KeepAlive : Prop :=
  ∀ s : State,
    (∀ mv code secs, s.dev.kaActive = true → s.dev.nimhMayRun = true → s.dev.nat Reg.kaChargeState = 0 → mv ≤ 65535 →
        s.dev.pwr.logic ≠ .inReset →
      Runs (.kaChargerTransition mv code secs) s fun t => t.dev.nat Reg.kaBatVoltage = mv
        ∧ t.dev.nat Reg.kaChargeState = (if mv < 1500 then 0 else if mv < 2700 then 1 else 2)
        ∧ (1500 ≤ mv → mv < 2700 → t.dev.nat Reg.kaChargeCurrent = 20)
        ∧ (2700 ≤ mv → t.dev.nat Reg.kaChargeCurrent = max 20 (min 300 (s.dev.nat Reg.kaCapacity / 2)))
        ∧ Keeps (these [Reg.kaBatVoltage, Reg.kaChargeState, Reg.kaChargeCurrent]) s t) ∧
    (∀ mv code secs, s.dev.kaActive = true → s.dev.nimhMayRun = false →
        s.dev.nat Reg.kaFaultLatched = 0 →
      Runs (.kaChargerTransition mv code secs) s fun t => t.dev.nat Reg.kaChargeState = 0
        ∧ Keeps (these [Reg.kaBatVoltage, Reg.kaChargeState, Reg.kaChargeCurrent]) s t) ∧
    (∀ mv code secs, s.dev.kaActive = true → s.dev.nimhMayRun = false → s.dev.nat Reg.kaFaultLatched ≠ 0 →
        s.dev.nat Reg.kaChargeState = 5 →
      Runs (.kaChargerTransition mv code secs) s fun t => t.dev.nat Reg.kaChargeState = 5 ∧ Keeps (these [Reg.kaBatVoltage]) s t) ∧
    (∀ mv code secs, s.dev.kaActive = true → s.dev.nimhMayRun = true → s.dev.nat Reg.kaChargeState = 5 →
      Runs (.kaChargerTransition mv code secs) s fun t => t.dev.nat Reg.kaChargeState = (if mv ≤ 4950 then 0 else 5)
        ∧ Keeps (these [Reg.kaBatVoltage, Reg.kaChargeState, Reg.kaChargeCurrent]) s t) ∧
    (∀ code temp, s.dev.kaTempOf code = some temp → s.dev.kaActive = true → s.dev.nimhMayRun = true → ∀ mv secs,
      (1 ≤ s.dev.nat Reg.kaChargeState → s.dev.nat Reg.kaChargeState ≤ 3 → temp ≠ -32768 → -32768 ≤ temp → temp ≤ 32767 →
          (temp < 0 ∨ 450 < temp) →
        Runs (.kaChargerTransition mv code secs) s fun t => t.dev.nat Reg.kaChargeState = 4 ∧ t.dev.nat Reg.kaChargeCurrent = 0
          ∧ t.dev.path.nimhBack = s.dev.nat Reg.kaChargeState ∧ t.dev.reg Reg.kaTemperature = temp
          ∧ Keeps (these [Reg.kaBatVoltage, Reg.kaTemperature, Reg.kaChargeState, Reg.kaChargeCurrent]) s t) ∧
      (s.dev.nat Reg.kaChargeState = 4 →
        Runs (.kaChargerTransition mv code secs) s fun t =>
          t.dev.nat Reg.kaChargeState = (if 20 ≤ temp ∧ temp ≤ 430 then s.dev.path.nimhBack else 4)
          ∧ t.dev.reg Reg.kaTemperature = s.dev.reg Reg.kaTemperature
          ∧ Keeps (these [Reg.kaBatVoltage, Reg.kaChargeState, Reg.kaChargeCurrent]) s t) ∧
      (s.dev.nat Reg.kaChargeState = 1 → 0 ≤ temp → temp ≤ 450 → 1 ≤ secs →
        Runs (.kaChargerTransition mv code secs) s fun t =>
          t.dev.nat Reg.kaChargeState = (if 2700 ≤ mv ∧ 10 ≤ s.dev.path.nimhHoldS + secs then 2 else 1)
          ∧ (t.dev.nat Reg.kaChargeState = 2 → t.dev.nat Reg.kaChargeCurrent = max 20 (min 300 (s.dev.nat Reg.kaCapacity / 2)))
          ∧ (t.dev.nat Reg.kaChargeState = 1 → t.dev.path.nimhHoldS = (if 2700 ≤ mv then s.dev.path.nimhHoldS + secs else 0))
          ∧ Keeps (these [Reg.kaBatVoltage, Reg.kaTemperature, Reg.kaChargeState, Reg.kaChargeCurrent]) s t) ∧
      (s.dev.nat Reg.kaChargeState = 2 → 0 ≤ temp → temp ≤ 450 →
        Runs (.kaChargerTransition mv code secs) s fun t => t.dev.nat Reg.kaChargeState = 2
          ∧ t.dev.path.nimhS = s.dev.path.nimhS + secs
          ∧ Keeps (these [Reg.kaBatVoltage, Reg.kaTemperature]) s t) ∧
      (s.dev.nat Reg.kaChargeState = 3 → 0 ≤ temp → temp ≤ 450 → 1 ≤ secs →
        Runs (.kaChargerTransition mv code secs) s fun t =>
          t.dev.nat Reg.kaChargeState = (if mv < 3600 ∧ 60 ≤ s.dev.path.nimhHoldS + secs then 2 else 3)
          ∧ (t.dev.nat Reg.kaChargeState = 2 → t.dev.nat Reg.kaChargeCurrent = max 20 (min 300 (s.dev.nat Reg.kaCapacity / 2)))
          ∧ (t.dev.nat Reg.kaChargeState = 3 → t.dev.nat Reg.kaChargeCurrent
              = (if (s.dev.path.nimhS + secs) % 10 * 100 < s.dev.nat Reg.kaCapacity then 20 else 0))
          ∧ Keeps (these [Reg.kaBatVoltage, Reg.kaTemperature, Reg.kaChargeState, Reg.kaChargeCurrent]) s t)) ∧
    (∀ cause, s.dev.nat Reg.kaChargeState = 2 → s.dev.nimhEnds cause = true →
      Runs (.kaTermination cause) s fun t => t.dev.nat Reg.kaChargeState = 3 ∧ t.dev.nat Reg.kaTermination = cause
        ∧ (s.dev.cpuLive = true → Raised 86 t) ∧ (s.dev.cpuLive = false → t.dev.path.kaWaiting.contains 86 = true)
        ∧ Keeps (orEvents [Reg.kaChargeState, Reg.kaChargeCurrent, Reg.kaTermination]) s t) ∧
    (∀ bit, s.dev.nimhFaultCan bit = false → Runs (.kaFault bit) s fun t => t = s) ∧
    (∀ bit, (bit = 0 ∧ 0 < s.dev.nimhCurrent ∨ bit = 1 ∧ 1 ≤ s.dev.nat Reg.kaChargeState ∧ s.dev.nat Reg.kaChargeState ≤ 3
          ∨ bit = 2 ∧ 1 ≤ s.dev.nat Reg.kaChargeState ∧ s.dev.nat Reg.kaChargeState ≤ 4) →
      Runs (.kaFault bit) s fun t => t.dev.nat Reg.kaChargeState = 5 ∧ t.dev.nat Reg.kaChargeCurrent = 0
        ∧ t.dev.bit Reg.kaFaultLatched bit = true ∧ (s.dev.cpuLive = true → Raised 85 t)
        ∧ (s.dev.cpuLive = false → t.dev.path.kaWaiting.contains 85 = true)
        ∧ Keeps (orEvents [Reg.kaChargeState, Reg.kaChargeCurrent, Reg.kaFaultLatched]) s t) ∧
    ((s.dev.nat Reg.kaOutState = 1 ∨ s.dev.nat Reg.kaOutState = 2 ∨ s.dev.nat Reg.kaOutState = 3) →
      (∀ ms, 10 ≤ ms →
        Runs (.kaOutFault ms) s fun t => t.dev.nat Reg.kaOutState = 4 ∧ (s.dev.cpuLive = true → Raised 87 t)
          ∧ (s.dev.cpuLive = false → t.dev.path.kaWaiting.contains 87 = true)
          ∧ Keeps (orEvents [Reg.kaOutState]) s t) ∧
      (∀ ms, 0 < ms → ms < 10 →
        Runs (.kaOutFault ms) s fun t => t.dev.nat Reg.kaOutState = 3 ∧ Keeps (these [Reg.kaOutState]) s t) ∧
      (Runs (.kaOutFault 0) s fun t => t.dev.nat Reg.kaOutState = s.dev.kaOutSupply ∧ Keeps (these [Reg.kaOutState]) s t)) ∧
    (s.dev.nat Reg.kaOutState = 4 →
      Runs .kaOutRestart s fun t => t.dev.nat Reg.kaOutState =
          (if s.dev.pwr.role ≠ .head ∨ s.dev.on Reg.kaOutEnable = false ∨ s.dev.pwr.ka = .none then 0
           else if s.dev.pwr.vlog = true ∧ s.dev.pwr.logic ≠ .ship then 1 else if s.dev.path.kaBatOk then 2 else 0)
        ∧ Keeps (these [Reg.kaOutState]) s t)

/-! ## USB-C Power Delivery (chapter 13) -/

/-- The port as sink (on R337 to R343, R346, R347, R352): attach and detach, a usable VBUS, the capabilities and the
request, the transition and its contract, EPR, and a Hard Reset. Where the manual leaves a point open it follows the model's
choices (assumptions 54, 125 and 142). -/
def Obligations.PortAsSink : Prop :=
  ∀ s : State,
    (s.dev.portRuns = true →
      (∀ code vbus us, s.dev.pdState = 3 → (code = 3 ∨ code = 4 ∨ code = 5) → 150000 ≤ us → 4000 < vbus →
        Runs (.typecTransition code 0 vbus us) s fun t => t.dev.pdState = 5 ∧ t.dev.nat Reg.powerRole = 1
          ∧ t.dev.nat Reg.orientation = 1 ∧ t.dev.nat Reg.typeCCurrent = rpCurrent code
          ∧ t.dev.nat Reg.contractVoltage = 5000 ∧ t.dev.path.allowMa = rpCurrent code ∧ Raised 88 t
          ∧ Keeps (withinEvents [(0x4400, 0x4400), (0x4600, 0x4601)] []) s t) ∧
      (∀ code vbus us, s.dev.pdState = 1 → (code = 3 ∨ code = 4 ∨ code = 5) →
        Runs (.typecTransition 0 code vbus us) s fun t => t.dev.pdState = 3 ∧ t.dev.nat Reg.vbusVoltage = vbus
          ∧ Keeps (these [Reg.pdPortState, Reg.vbusVoltage]) s t) ∧
      (s.dev.pdState = 5 → s.dev.pd.discharging = false →
        Runs .detach s fun t => t.dev.pdState = 1 ∧ t.dev.nat Reg.powerRole = 0 ∧ t.dev.nat Reg.contractState = 0
          ∧ t.dev.qualified 2 = false ∧ t.dev.path.allowMa = 0 ∧ Raised 89 t
          ∧ Keeps (withinEvents [(0x4400, 0x4400), (0x4600, 0x4601)] []) s t) ∧
      (∀ mv, s.dev.pdState = 5 → s.dev.pd.policy = true → s.dev.on Reg.frsEnable = false → s.dev.pd.transition = none →
          9 * s.dev.expectedMv ≤ 10 * mv → 10 * mv ≤ 11 * s.dev.expectedMv →
        Runs (.vbusUsable mv) s fun t => t.dev.qualified 2 = true ∧ t.dev.nat Reg.vbusVoltage = mv
          ∧ (s.dev.nat Reg.contractState = 0 → t.dev.path.allowMa = s.dev.nat Reg.typeCCurrent)
          ∧ (s.dev.qualified 2 = false → Raised 76 t)
          ∧ Keeps (orEvents [Reg.vbusVoltage, Reg.sourceStatus, Reg.inputLimitInForce]) s t) ∧
      (s.dev.pdState = 5 → s.dev.pd.transition = none →
        Runs .vbusLost s fun t => t.dev.qualified 2 = false ∧ Keeps (withinEvents [(0x4400, 0x4400), (0x4600,
            0x4600)] []) s t) ∧
      (∀ epr pdos raw, s.dev.pd.policy = true → s.dev.pdState = 5 → (epr = false ∨ s.dev.pd.epr = true) →
        Runs (.sourceCapabilities epr pdos raw) s fun t =>
          (t.dev.blob Reg.partnerCaps.key []).take 4 = [pdos.length, 0, 0, 0]
          ∧ (t.dev.blob Reg.partnerCaps.key []).length = 56 ∧ t.dev.pd.awaitCaps = false
          ∧ (∀ r, s.dev.bestRequest pdos = some r → t.dev.pd.request = some r
              ∧ t.dev.pd.sent = some (.request r.1 r.2.1 r.2.2.1 r.2.2.2))
          ∧ t.dev.regs = s.dev.regs ∧ t.mem = s.mem) ∧
      (s.dev.pdState = 5 → s.dev.explicit = true → s.dev.nat Reg.contractPdoType = 1 → s.dev.pd.transition = none →
        Runs .ppsRerequest s fun t => t.dev.pd.sent = some (.request (s.dev.nat Reg.contractPdoPosition) 1
            (s.dev.nat Reg.contractVoltage) (s.dev.nat Reg.contractCurrent)) ∧ Keeps (these []) s t) ∧
      (∀ r, s.dev.pd.request = some r → s.dev.pdState = 5 →
        Runs .sinkAccept s fun t => t.dev.pd.transition =
            some ⟨s.dev.expectedMv, r.2.2.1, r.2.2.2, r.2.1, r.1, s.dev.pd.epr, false⟩
          ∧ t.dev.pd.request = none ∧ t.dev.path.floorOff = s.dev.vbusSelected ∧ t.dev.nat Reg.contractState = 3
          ∧ t.dev.path.allowMa = 2500000 / min s.dev.expectedMv r.2.2.1 / 10 * 10
          ∧ Keeps (these [Reg.contractState, Reg.inputLimitInForce, Reg.frsState]) s t) ∧
      (∀ x, s.dev.pd.transition = some x → ∀ mean, s.dev.pdState = 5 → s.dev.reg Reg.transitionCount < 0xFFFFFFFF →
        Runs (.sinkPsRdy mean) s fun t => t.dev.pd.transition = none ∧ t.dev.nat Reg.contractVoltage = x.newMv
          ∧ t.dev.nat Reg.contractCurrent = x.currentMa ∧ t.dev.nat Reg.contractState = (if x.epr then 2 else 1)
          ∧ t.dev.path.noLoadMv = (if s.dev.vbusSelected then mean else s.dev.path.noLoadMv)
          ∧ t.dev.path.floorOff = false ∧ t.dev.path.allowMa = x.currentMa ∧ Raised 90 t
          ∧ t.dev.reg Reg.transitionCount = s.dev.reg Reg.transitionCount + 1 ∧ t.dev.pd.sent = some .getSinkCap
          ∧ Keeps (withinEvents [(0x4600, 0x4600)] [Reg.inputLimitInForce]) s t) ∧
      (∀ x, s.dev.pd.transition = some x → s.dev.pdState = 5 → s.dev.pd.policy = true →
        Runs .psRdyTimeout s fun t => t.dev.nat Reg.hardResetCause = 3 ∧ t.dev.pd.transition = none
          ∧ t.dev.nat Reg.contractState = 0 ∧ Raised 91 t ∧ Keeps (withinEvents [(0x4400, 0x4400), (0x4600,
              0x4600)] []) s t) ∧
      (s.dev.pd.awaitCaps = true → s.dev.pdState = 5 → s.dev.pd.policy = true →
        Runs .sourceCapsTimeout s fun t => t.dev.nat Reg.hardResetCause = 6 ∧ t.dev.pd.sent = some .hardReset
          ∧ t.dev.pd.awaitCaps = false ∧ Raised 91 t ∧ t.mem = s.mem) ∧
      (∀ why, (s.dev.pdState = 5 ∨ s.dev.pdState = 6) → s.dev.pd.policy = true → s.dev.sourcingEnded = false →
          s.dev.reg Reg.hardResetCount < 0xFFFFFFFF →
        Runs (.hardReset why) s fun t => t.dev.reg Reg.hardResetCount = s.dev.reg Reg.hardResetCount + 1
          ∧ t.dev.nat Reg.hardResetCause = causeOf why ∧ t.dev.nat Reg.contractState = 0
          ∧ t.dev.nat Reg.contractVoltage = 5000 ∧ t.dev.pd.transition = none ∧ Raised 91 t ∧ t.mem = s.mem) ∧
      (∀ why, s.dev.sourcingEnded = true → Runs (.hardReset why) s fun t => t = s) ∧
      (∀ vbus, s.dev.pdState = 5 → s.dev.pd.policy = true → 55000 < vbus →
        Runs (.sinkOvervoltage vbus) s fun t => t.dev.bit Reg.vbusFault 1 = true ∧ t.dev.qualified 2 = false
          ∧ Raised 95 t ∧ Raised 91 t ∧ t.dev.nat Reg.hardResetCause = 5
          ∧ Keeps (withinEvents [(0x4400, 0x4400), (0x4600, 0x4600)] []) s t) ∧
      (∀ ma, s.dev.pd.policy = true → s.dev.pdState = 5 →
        Runs (.sinkCapabilitiesReceived ma) s fun t => t.dev.nat Reg.partnerFrsCurrent = ma
          ∧ Keeps (these [Reg.partnerFrsCurrent, Reg.frsState]) s t)) ∧
    (s.dev.headActive = true →
      Runs .policyEngineStart s fun t => t.dev.pd.policy = true
        ∧ (s.dev.pdState = 5 → s.dev.explicit = false → t.dev.pd.sent = some .softReset ∧ t.dev.pd.awaitCaps = true)
        ∧ Keeps (these []) s t)

/-- What both roles answer (on R342, R346, Table 13.3): messages that the port does not support, BIST Carrier Mode, EPR.
Fast role swap (on R353 to R355): the signal, the start of sourcing, completion as source, and abandonment. Where the manual
leaves a point open it follows the model's choices (assumptions 55, 56 and 127). -/
def Obligations.MessagesAndFastSwap : Prop :=
  (∀ s : State, s.dev.attached = true →
      (∀ m, m ≠ .unstructuredVdm →
        Runs (.unsupportedMessage m) s fun t =>
          t.dev.pd.sent = some (if m = .bistOther ∧ s.dev.busyPd = true then .wait else .notSupported)
          ∧ Keeps (these []) s t) ∧
      (Runs (.unsupportedMessage .unstructuredVdm) s fun t => t = s) ∧
      (Runs .bistCarrierMode s fun t => t.dev.pd.sent = some (if s.dev.busyPd then .wait
          else if s.dev.nat Reg.contractVoltage == 5000 then .carrier else .notSupported)
        ∧ Keeps (these []) s t) ∧
      (s.dev.busyPd = false → s.dev.pdState = 5 → s.dev.pdCfg Reg.sinkEprEnable = 1 → s.dev.nat Reg.contractState = 1 →
        Runs (.eprModeEnter true true) s fun t => t.dev.pd.epr = true
          ∧ t.dev.pd.sent = some (.eprEnter (s.dev.pdCfg Reg.sinkPowerMax / 1000)) ∧ Keeps (these []) s t) ∧
      (s.dev.busyPd = false → s.dev.pdState = 6 → s.dev.nat Reg.contractState = 1 →
          field (s.dev.pdCfg Reg.sourcePdoMask) 4 6 ≠ 0 → s.dev.nat Reg.cableCurrent = 2 → s.dev.on Reg.cableEpr = true →
        ∀ capable succeeded, Runs (.eprModeEnter capable succeeded) s fun t => t.dev.pd.epr = true
          ∧ t.dev.pd.sent = some .eprEnterSucceeded ∧ Keeps (these []) s t) ∧
      (s.dev.pdState = 5 → s.dev.pd.epr = true →
        Runs .eprKeepAlive s fun t => t.dev.pd.sent = some .eprKeepAlive ∧ Keeps (these []) s t) ∧
      (s.dev.pdState = 6 → s.dev.pd.epr = true →
        Runs .eprKeepAliveLost s fun t => t.dev.nat Reg.hardResetCause = 4 ∧ t.dev.pd.sent = some .hardReset
          ∧ t.dev.pd.epr = false ∧ Raised 91 t ∧ t.mem = s.mem) ∧
      (s.dev.pd.epr = true →
        Runs .eprModeExit s fun t => t.dev.pd.epr = false
          ∧ (s.dev.nat Reg.contractState = 2 → t.dev.nat Reg.contractState = 1) ∧ Keeps (these [Reg.contractState]) s t)) ∧
  (∀ s : State, s.dev.portRuns = true →
      (s.dev.frsStandby = true → s.dev.nat Reg.frsState ≠ 2 →
        Runs .frsSignal s fun t => t.dev.nat Reg.frsState = 2 ∧ t.dev.nat Reg.contractState = 4
          ∧ t.dev.pd.sent = some .frSwap ∧ Keeps (these [Reg.frsState, Reg.contractState]) s t) ∧
      (s.dev.nat Reg.frsState = 2 → s.dev.pathState ≠ 4 →
        (s.dev.reverseAllowed = true →
          Runs .frsSourceStart s fun t => t.dev.pd.asking = true ∧ Keeps (these []) s t) ∧
        (s.dev.reverseAllowed = false →
          Runs .frsSourceStart s fun t => t.dev.nat Reg.frsState = 4
            ∧ t.dev.nat Reg.contractState = (if s.dev.pd.epr then 2 else 1) ∧ Raised 94 t
            ∧ Keeps (orEvents [Reg.frsState, Reg.contractState]) s t)) ∧
      (s.dev.nat Reg.frsState = 2 → s.dev.pathState = 4 →
        Runs .frsComplete s fun t => t.dev.pdState = 6 ∧ t.dev.nat Reg.powerRole = 2 ∧ t.dev.nat Reg.frsState = 3
          ∧ t.dev.nat Reg.contractState = 0 ∧ t.dev.pd.sent = some .psRdy ∧ Raised 93 t ∧ t.mem = s.mem) ∧
      (s.dev.nat Reg.frsState = 2 → s.dev.pdState = 5 → s.dev.pd.policy = true →
        Runs .frsAbandon s fun t => t.dev.nat Reg.frsState ≠ 2 ∧ Raised 94 t ∧ Raised 91 t
          ∧ t.dev.nat Reg.hardResetCause = 1 ∧ t.dev.nat Reg.contractState = 0 ∧ t.dev.pd.discharging = true
          ∧ Keeps (withinEvents [(0x4400, 0x4400), (0x4600, 0x4600)] []) s t))

/-- The port as source (on R344, R345, R348 to R352): sourcing is asked for, the cable and the partner are told, a request
within an offer is accepted, ramps and is confirmed; a transition that goes wrong and an end of sourcing discharge VBUS.
Where the manual leaves a point open it follows the model's choices (assumptions 54, 55, 117 and 155). -/
def Obligations.PortAsSource : Prop :=
  ∀ s : State,
    (s.dev.portRuns = true → s.dev.pdState = 6 →
      (∀ ra, s.dev.pd.asking = false → s.dev.pd.discharging = false → s.dev.pd.restart = false → s.dev.pd.after ≠ 6 →
          s.dev.pathState ≠ 4 →
        (s.dev.reverseAllowed = true →
          Runs (.sourceAttach ra) s fun t => t.dev.pd.asking = true ∧ t.dev.pd.vconn = ra ∧ Keeps (these []) s t) ∧
        (s.dev.reverseAllowed = false →
          Runs (.sourceAttach ra) s fun t => t.dev.pdState = 7 ∧ Keeps (within [(0x4600, 0x4600)] []) s t)) ∧
      (∀ answered five epr far, s.dev.pd.policy = true → s.dev.pd.farSent = none → s.dev.pd.discoverSent < 4 →
          s.dev.nat Reg.cableCurrent = 0 →
        Runs (.discoverIdentity answered five epr far) s fun t => t.dev.pd.sent = some (.discoverIdentity false)
          ∧ t.dev.pd.discoverSent = s.dev.pd.discoverSent + 1
          ∧ t.dev.pd.farSent = (if answered = true ∧ far = true then some 0 else none)
          ∧ (answered = true → t.dev.nat Reg.cableCurrent = (if five then 2 else 1) ∧ t.dev.on Reg.cableEpr = epr
              ∧ Keeps (these [Reg.cableCurrent, Reg.cableEpr]) s t)
          ∧ (answered = false → Keeps (these []) s t)) ∧
      (∀ n answered five epr far, s.dev.pd.policy = true → s.dev.pd.farSent = some n → n < 4 →
        Runs (.discoverIdentity answered five epr far) s fun t => t.dev.pd.sent = some (.discoverIdentity true)
          ∧ t.dev.pd.discoverSent = s.dev.pd.discoverSent ∧ t.dev.pd.farSent = some (if answered then 4 else n + 1)
          ∧ Keeps (these [Reg.cableCurrent, Reg.cableEpr]) s t) ∧
      (∀ ack, s.dev.pd.policy = true → s.dev.pathState = 4 → s.dev.pd.capsAcked = false → s.dev.pd.capsSent < 50 →
        Runs (.sendSourceCapabilities ack) s fun t => t.dev.pd.sent = some (.sourceCapabilities s.dev.offers)
          ∧ t.dev.pd.capsSent = s.dev.pd.capsSent + 1 ∧ t.dev.pd.capsAcked = ack
          ∧ (s.dev.explicit = true → t.dev.nat Reg.typeCCurrent = 1500) ∧ Keeps (these [Reg.typeCCurrent]) s t) ∧
      (∀ pos o, s.dev.offers.find? (fun x => x.1 == pos) = some o → s.dev.pd.policy = true → s.dev.pathState = 4 →
          s.dev.busyPd = false → ∀ ma,
        (ma ≤ o.2.2 →
          Runs (.sourceRequest pos ma) s fun t => t.dev.pd.sent = some .accept
            ∧ t.dev.pd.transition = some ⟨s.dev.expectedMv, o.2.1, ma, 0, pos, s.dev.pd.epr, false⟩
            ∧ t.dev.nat Reg.contractState = 3 ∧ Keeps (these [Reg.contractState]) s t) ∧
        (o.2.2 < ma →
          Runs (.sourceRequest pos ma) s fun t => t.dev.pd.sent = some .reject
            ∧ (s.dev.explicit = true → t.dev.nat Reg.typeCCurrent = 3000) ∧ Keeps (these [Reg.typeCCurrent]) s t)) ∧
      (s.dev.pd.restart = true → s.dev.pd.discharging = false → s.dev.sourceAllowed = true →
        Runs .hardResetSourceRestart s fun t => t.dev.pd.asking = true ∧ t.dev.pd.restart = false
          ∧ t.dev.pd.vconn = s.dev.pd.ra ∧ t.dev.reg Reg.cableCurrent = 0 ∧ t.dev.reg Reg.cableEpr = 0
          ∧ Keeps (these [Reg.cableCurrent, Reg.cableEpr]) s t) ∧
      (s.dev.pd.restart = true → s.dev.pd.discharging = false → s.dev.sourceAllowed = false →
        Runs .hardResetSourceRestart s fun t => t.dev.pdState = 7 ∧ Keeps (within [(0x4600, 0x4600)] []) s t) ∧
      (s.dev.pd.endDue = true → s.dev.pd.discharging = false →
        Runs .endSourcing s fun t => t.dev.pd.discharging = true ∧ t.dev.pd.vconn = false ∧ t.dev.pd.asking = false
          ∧ t.dev.pathState ≠ 4 ∧ Keeps (withinEvents [(0x4400, 0x4400), (0x4600, 0x4600)] []) s t)) ∧
    (∀ x, s.dev.pd.transition = some x → s.dev.pdState = 6 →
      (x.ramping = false →
        Runs .sourceRampStart s fun t => t.dev.conv.targetMv = x.newMv
          ∧ t.dev.pd.transition = some { x with ramping := true } ∧ Keeps (these []) s t) ∧
      (∀ vbus, x.ramping = true → 95 * x.newMv ≤ 100 * vbus → 100 * vbus ≤ 105 * x.newMv →
        Runs (.sourcePsRdy vbus) s fun t => t.dev.pd.sent = some .psRdy ∧ t.dev.pd.transition = none
          ∧ t.dev.nat Reg.contractVoltage = x.newMv ∧ t.dev.path.outLimit = some (plus10 x.currentMa)
          ∧ t.dev.nat Reg.typeCCurrent = 3000
          ∧ (s.dev.cpuLive = true → Raised 90 t) ∧ t.mem = s.mem) ∧
      (s.dev.portRuns = true → s.dev.pd.policy = true → s.dev.pd.discharging = false →
        (Runs .transitionWatchdog s fun t => t.dev.nat Reg.hardResetCause = 2 ∧ t.dev.pd.transition = none
          ∧ t.dev.pd.discharging = true ∧ Raised 92 t ∧ Raised 91 t
          ∧ Keeps (withinEvents [(0x4400, 0x4400), (0x4600, 0x4600)] []) s t) ∧
        (∀ vbus, 11 * max x.oldMv x.newMv + 5000 < 10 * vbus →
          Runs (.envelopeFault vbus) s fun t => t.dev.bit Reg.vbusFault 3 = true ∧ t.dev.nat Reg.hardResetCause = 5
            ∧ t.dev.pd.transition = none ∧ Raised 95 t ∧ Keeps (withinEvents [(0x4400, 0x4400), (0x4600,
                0x4600)] []) s t))) ∧
    (∀ ms, s.dev.pd.discharging = true → s.dev.pd.after = 1 →
      Runs (.dischargeDone ms) s fun t => t.dev.nat Reg.dischargeTime = ms ∧ t.dev.pd.discharging = false
        ∧ t.dev.pdState = 1 ∧ Keeps (withinEvents [(0x4400, 0x4400), (0x4600, 0x4600)] []) s t) ∧
    (s.dev.pd.discharging = true →
      Runs .dischargeTimeout s fun t => t.dev.nat Reg.dischargeTime = 650 ∧ t.dev.bit Reg.vbusFault 0 = true
        ∧ t.dev.pd.discharging = false ∧ (s.dev.cpuLive = true → Raised 95 t) ∧ t.dev.pd.restart = s.dev.pd.restart
        ∧ Keeps (withinEvents [(0x4400, 0x4400), (0x4600, 0x4600)] []) s t) ∧
    (∀ ms, s.dev.pd.discharging = true → s.dev.pd.after = 6 →
      Runs (.dischargeDone ms) s fun t => t.dev.pd.restart = true ∧ t.dev.pd.discharging = false
        ∧ t.dev.nat Reg.dischargeTime = ms ∧ Keeps (these [Reg.dischargeTime]) s t) ∧
    (∀ ms, s.dev.pd.discharging = true → s.dev.pd.after = 0 →
      Runs (.dischargeDone ms) s fun t => t.dev.pd.discharging = false
        ∧ t.dev.nat Reg.dischargeTime = ms ∧ Keeps (these [Reg.dischargeTime]) s t)

/-! ## Safety functions (chapter 14) -/

/-- Faults (on R359 to R364, R366): a fault detected is active and latched; one of class D trips: TripCause, the trip latch,
the row, SD_DRV off; one whose condition has gone is no longer active. A safety cycle counts the quiet cycles and judges
lane F. A core that fails is reset (R383). Where the manual leaves a point open it follows the model's choices (assumptions
26, 29, 30, 32, 33, 34, 165 and 170). -/
def Obligations.SafetyFaults : Prop :=
  ∀ s : State, s.dev.cpuLive = true →
    (∀ n, n < 28 → s.dev.faultHolds n = true → s.dev.bit Reg.activeFaults n = false → s.dev.classD n = true →
      Runs (.safetyFaultDetect n true) s fun t => t.dev.bit Reg.activeFaults n = true ∧ t.dev.bit Reg.faultLatched n = true
        ∧ t.dev.bit Reg.tripCause n = true ∧ t.dev.safe.trip = true ∧ t.dev.safe.drive = false ∧ t.dev.safe.held = false
        ∧ t.dev.nat Reg.lastTripRow = s.dev.row ∧ Raised 96 t
        ∧ (n = 8 → t.dev.convState = 0 ∧ t.dev.pathState = 0) ∧ Keeps tripKey s t) ∧
    (∀ n, n < 28 → s.dev.faultHolds n = true → s.dev.bit Reg.activeFaults n = false → s.dev.classD n = false →
      Runs (.safetyFaultDetect n true) s fun t => t.dev.bit Reg.activeFaults n = true ∧ t.dev.bit Reg.faultLatched n = true
        ∧ t.dev.reg Reg.tripCause = s.dev.reg Reg.tripCause ∧ t.dev.safe.drive = s.dev.safe.drive
        ∧ (s.dev.safe.held = true → s.dev.classG n = true → t.dev.safe.degraded = true)
        ∧ Keeps (orEvents [Reg.activeFaults, Reg.faultLatched, Reg.safetyState, Reg.dischargeLimitInForce]) s t) ∧
    (∀ n, n < 28 → s.dev.faultHolds n = false →
      Runs (.safetyFaultDetect n false) s fun t => t.dev.bit Reg.activeFaults n = false
        ∧ t.dev.reg Reg.faultLatched = s.dev.reg Reg.faultLatched
        ∧ Keeps (these [Reg.activeFaults, Reg.safetyState, Reg.dischargeLimitInForce]) s t) ∧
    (s.dev.faultHolds 5 = true → s.dev.bit Reg.activeFaults 5 = false →
      Runs .shortCircuit s fun t => t.dev.bit Reg.tripCause 5 = true ∧ t.dev.safe.drive = false ∧ Raised 96 t
        ∧ Keeps tripKey s t) ∧
    (∀ a temp ntc, a ∈ s.dev.presentMembers → 2 ≤ s.dev.memberAuxMode a → temp ≠ -32768 → s.dev.reg Reg.cellTempMax < temp →
      Runs (.cellTempRead a temp ntc) s fun t => a ∈ t.dev.safe.hotDevices ∧ t.dev.bit Reg.activeFaults 7 = true
        ∧ Keeps tripKey s t) ∧
    (∀ levels n, s.dev.pairEnabled n = true → n < 4 →
      Runs (.dcinSample levels) s fun t => t.dev.bit Reg.dcinState (2 * n) = levels.testBit (2 * n)
        ∧ t.dev.bit Reg.dcinState (2 * n + 1) = levels.testBit (2 * n + 1)
        ∧ (levels.testBit (2 * n) = true → 1 ≤ nth s.dev.safe.dcinOpenMs (2 * n) →
            t.dev.safe.dcinDemand.testBit n = true ∧ t.dev.bit Reg.activeFaults 10 = true)
                ∧ Keeps (fun k => k == Reg.dcinState.key || tripKey k) s t) ∧
    (s.dev.safe.resetDue = none → s.dev.cycleTick = true →
      Runs .safetyCycle s fun t => t.dev.safe.nextA5 = !s.dev.safe.nextA5 ∧ t.dev.safe.ageMs ≤ s.dev.safe.ageMs + 1
        ∧ (s.dev.laneFLevel = true → t.dev.safe.quiet = 0 ∧ t.dev.bit Reg.activeFaults 0 = true)
        ∧ (s.dev.laneFLevel = false → t.dev.safe.quiet = min 3 (s.dev.safe.quiet + 1))
        ∧ t.dev.link.alarmSeen = false ∧ Keeps (fun k => cellKey k || within [(0x2060, 0x2070)] [Reg.latentAge,
            Reg.memberRequestsWaiting] k || tripKey k) s t) ∧
    (s.dev.cycleTick = false → Runs .safetyCycle s fun t => t = s) ∧
    (s.dev.safe.resetDue = none → s.dev.bit Reg.activeFaults 2 = false →
      Runs .watchdogExpiry s fun t => t.dev.safe.resetDue = some 1 ∧ t.dev.bit Reg.tripCause 2 = true
        ∧ t.dev.convState = 0 ∧ t.dev.pathState = 0 ∧ Raised 96 t ∧ Keeps tripKey s t) ∧
    (s.dev.safe.resetDue = none → s.dev.bit Reg.activeFaults 3 = false →
      Runs .lockstepDisagreement s fun t => t.dev.safe.resetDue = some 2 ∧ t.dev.bit Reg.lockstepStatus 0 = true
        ∧ t.dev.bit Reg.activeFaults 3 = true ∧ t.dev.bit Reg.tripCause 3 = true ∧ t.dev.safe.trip = true
        ∧ t.dev.safe.drive = false ∧ t.dev.convState = 0 ∧ Raised 96 t
        ∧ Keeps (fun k => k == Reg.lockstepStatus.key || tripKey k) s t) ∧
    (∀ a, s.dev.safe.resetDue = none → s.dev.bit Reg.activeFaults 4 = false →
      Runs (.sramEccError 0 a true) s fun t => t.dev.safe.resetDue = some 3 ∧ t.dev.bit Reg.activeFaults 4 = true
        ∧ t.dev.bit Reg.tripCause 4 = true ∧ t.dev.safe.trip = true ∧ t.dev.safe.drive = false ∧ t.dev.convState = 0
        ∧ Keeps (fun k => k == Reg.sramUncorrectable.key || tripKey k) s t) ∧
    (∀ c, s.dev.safe.resetDue = some c → (c = 2 ∨ c = 3) → s.dev.reg Reg.safetyResetCount < 0xFFFFFFFF →
      Runs .safetyReset s fun t =>
        LogicReset 3 [Reg.safetyResetCause, Reg.safetyResetCount] s t ∧ t.dev.pwr.logic = .inReset ∧ t.dev.nat Reg.safetyResetCause = c
        ∧ t.dev.reg Reg.safetyResetCount = s.dev.reg Reg.safetyResetCount + 1)

/-- The safe disconnect (on R367, R370 to R376): it closes on command only when every condition holds, shows closed, opens,
and fails where its feedback does not follow; a test pulse is counted. Where the manual leaves a point open it follows the
model's choices (assumptions 28, 30, 32, 37 and 165). -/
def Obligations.SafeDisconnect : Prop :=
  ∀ s : State,
    (∀ who, MayWrite s who Reg.disconnectCommand →
      (s.dev.closeReady = true → s.dev.safe.held = false → s.dev.safe.closing = false →
        Runs (.disconnectClose who false) s fun t => t.dev.safe.drive = true ∧ t.dev.safe.closing = true
          ∧ t.dev.nat Reg.safetyState = 2
          ∧ Keeps (orAnswer [Reg.safetyState, Reg.dischargeLimitInForce]) s t) ∧
      (s.dev.closeReady = false → s.dev.cpuLive = true →
        Runs (.disconnectClose who false) s fun t => t.dev.safe = s.dev.safe ∧ Raised 108 t
          ∧ Keeps (orBoth [Reg.safetyState, Reg.dischargeLimitInForce]) s t)) ∧
    (∀ who, s.dev.cpuLive = true → s.dev.on Reg.sdAutoClose = true → s.dev.safe.held = false →
        s.dev.safe.closing = false → s.dev.closeReady = true →
      Runs (.disconnectClose who true) s fun t => t.dev.safe.drive = true ∧ t.dev.safe.closing = true
        ∧ Keeps (these [Reg.safetyState, Reg.dischargeLimitInForce]) s t) ∧
    (∀ who, MayWrite s who Reg.disconnectCommand → s.dev.safe.drive = true → s.dev.cpuLive = true →
      Runs (.disconnectOpen who) s fun t => t.dev.safe.drive = false ∧ t.dev.safe.held = false
        ∧ t.dev.safe.opening = true ∧ Raised 101 t ∧ t.dev.pathState ≠ 1
        ∧ Keeps (fun k => answerKey k || tripKey k) s t) ∧
    (s.dev.safe.drive = true →
      Runs .enableToggleLost s fun t => t.dev.safe.drive = false ∧ t.dev.safe.held = false
        ∧ t.dev.safe.opening = true ∧ t.dev.reg Reg.tripCause = s.dev.reg Reg.tripCause ∧ Keeps tripKey s t) ∧
    (s.dev.pwr.role = .head → s.dev.pwr.vlog = true → s.dev.safe.closing = true →
      ∀ us, Runs (.sdFbChange (!s.dev.on Reg.sdFbPolarity) us) s fun t => t.dev.safe.fbClosed = true
        ∧ t.dev.safe.held = true ∧ t.dev.safe.closing = false ∧ (s.dev.cpuLive = true → Raised 100 t) ∧ Keeps tripKey s t) ∧
    (s.dev.pwr.role = .head → s.dev.pwr.vlog = true → s.dev.safe.opening = true → s.dev.safe.byTrip = true →
        s.dev.safe.held = false → s.dev.bit Reg.activeFaults 8 = false →
      ∀ us, Runs (.sdFbChange (s.dev.on Reg.sdFbPolarity) us) s fun t => t.dev.nat Reg.reactionTime = us
        ∧ t.dev.safe.opening = !s.dev.safe.fbClosed ∧ t.dev.safe.fbClosed = false
        ∧ Keeps (these [Reg.reactionTime, Reg.safetyState, Reg.dischargeLimitInForce]) s t) ∧
    (s.dev.pwr.role = .head → s.dev.pwr.vlog = true → s.dev.safe.held = true → s.dev.safe.pulse = .none →
      ∀ us, 1000 ≤ us → Runs (.sdFbChange (s.dev.on Reg.sdFbPolarity) us) s fun t =>
        t.dev.bit Reg.tripCause 8 = true ∧ t.dev.safe.held = false ∧ t.dev.safe.drive = false ∧ Keeps tripKey s t) ∧
    (s.dev.safe.closing = true → s.dev.safe.fbClosed = false →
      Runs .sdCloseTimeout s fun t => t.dev.bit Reg.tripCause 8 = true ∧ t.dev.safe.closing = false
        ∧ t.dev.safe.drive = false ∧ t.dev.bit Reg.activeFaults 8 = false ∧ Keeps tripKey s t) ∧
    (s.dev.safe.opening = true → s.dev.safe.fbClosed = true → s.dev.cpuLive = true →
      Runs .sdOpenTimeout s fun t => t.dev.safe.failed = true ∧ t.dev.nat Reg.safetyState = 6 ∧ Raised 99 t
        ∧ t.dev.bit Reg.faultLatched 8 = true ∧ Keeps tripKey s t) ∧
    (s.dev.safe.held = true → s.dev.reg Reg.sdTestCount < 0xFFFFFFFF →
      Runs (.testPulse .start) s fun t => t.dev.reg Reg.sdTestCount = s.dev.reg Reg.sdTestCount + 1
        ∧ t.dev.safe.pulse = .running ∧ t.dev.driven = false ∧ Keeps (these [Reg.sdTestCount]) s t) ∧
    (s.dev.safe.pulse = .running →
      (∀ us, us ≤ s.dev.nat Reg.sdTestPulse →
        Runs (.testPulse (.readback (some us))) s fun t => t.dev.safe.pulse = .after
          ∧ t.dev.safe.drive = s.dev.safe.drive ∧ Keeps (these []) s t) ∧
      (∀ fell, s.dev.cpuLive = true → (∀ us, fell = some us → s.dev.nat Reg.sdTestPulse < us) →
        Runs (.testPulse (.readback fell)) s fun t => t.dev.safe.failed = true ∧ t.dev.bit Reg.tripCause 9 = true
          ∧ Raised 99 t ∧ t.dev.safe.drive = false ∧ t.dev.safe.pulse = .after ∧ Keeps tripKey s t)) ∧
    (s.dev.safe.pulse = .after →
      Runs (.testPulse .over) s fun t => t.dev.safe.pulse = .none ∧ Keeps (these []) s t)

/-- Degraded mode, the latent tests and the check value (on R378 to R381, R385 to R387): each second of degraded mode takes
one from DegradedRemaining, at 0 fault 12 is active, out of degraded mode it returns to DegradedTime, and the discharge limit
becomes the fraction set; a latent cycle asks for the test of every cell and of every present member, and one that is overdue
is fault 25; the check value is formed anew, one that differs from the confirmed one sets ConfirmState 3, and a host confirms
it. Where the manual leaves a point
open it follows the model's choices (assumptions 31, 35, 36, 168, 171 and 203). -/
def Obligations.DegradedAndLatent : Prop :=
  ∀ s : State,
    (s.dev.cpuLive = true →
      (s.dev.safe.degraded = true → 1 < s.dev.nat Reg.degradedRemaining →
        Runs .degradedTick s fun t => t.dev.nat Reg.degradedRemaining = s.dev.nat Reg.degradedRemaining - 1
          ∧ Keeps (these [Reg.degradedRemaining]) s t) ∧
      (s.dev.safe.degraded = true → s.dev.nat Reg.degradedRemaining = 1 →
        Runs .degradedTick s fun t => t.dev.nat Reg.degradedRemaining = 0 ∧ Raised 98 t
          ∧ t.dev.bit Reg.activeFaults 12 = true ∧ Keeps (fun k => k == Reg.degradedRemaining.key || tripKey k) s t) ∧
      (s.dev.safe.degraded = false → 0 < s.dev.nat Reg.degradedTime →
        Runs .degradedReset s fun t => t.dev.nat Reg.degradedRemaining = s.dev.nat Reg.degradedTime
          ∧ t.dev.bit Reg.activeFaults 12 = false
          ∧ Keeps (these [Reg.degradedRemaining, Reg.activeFaults, Reg.safetyState, Reg.dischargeLimitInForce]) s t) ∧
      (s.dev.safe.degraded = true →
        Runs .degradedDischargeLimit s fun t => t.dev.safe.limited = true
          ∧ t.dev.nat Reg.dischargeLimitInForce =
              s.dev.nat Reg.overcurrentDischarge * s.dev.nat Reg.degradedFraction / 16
          ∧ Keeps (these [Reg.safetyState, Reg.dischargeLimitInForce]) s t) ∧
      (s.dev.pwr.logic = .active → s.dev.safe.latentRuns = false →
        Runs .latentCycle s fun t => t.dev.safe.latentRuns = true
          ∧ (∀ k ∈ upTo s.dev.samp.cells ++ [25, 26], (1, k) ∈ t.dev.safe.latent)
          ∧ (∀ a ∈ s.dev.presentMembers, (a, 26) ∈ t.dev.safe.latent)
          ∧ Keeps (these [Reg.memberRequestsWaiting]) s t) ∧
      (s.dev.safe.latentRuns = true →
        Runs .latentOverdue s fun t => t.dev.safe.overdue = true ∧ t.dev.safe.latentRuns = false
          ∧ t.dev.safe.latent = [] ∧ Raised 107 t ∧ t.dev.bit Reg.activeFaults 25 = true
          ∧ Keeps tripKey s t) ∧
      (Runs .checkValueRecompute s fun t => t.dev.nat Reg.checkValueComputed = crc32 s.dev.checkBytes
        ∧ t.dev.safe.checkFormed = true ∧ t.dev.safe.checkDue = false
        ∧ (s.dev.nat Reg.confirmState = 1 → crc32 s.dev.checkBytes ≠ s.dev.nat Reg.checkValueConfirmed →
            t.dev.nat Reg.confirmState = 3 ∧ Raised 104 t)
        ∧ (s.dev.nat Reg.confirmState = 3 → crc32 s.dev.checkBytes = s.dev.nat Reg.checkValueConfirmed →
            t.dev.nat Reg.confirmState = 1) ∧ Keeps (fun k => tripKey k || these [Reg.checkValueComputed,
                Reg.confirmState] k) s t)) ∧
    (∀ who value code run, MayWrite s who Reg.checkValueConfirm → s.dev.cpuLive = true →
        (s.dev.rights who).commissioned = true → s.dev.svc.codeLocked = false → s.dev.nat Reg.configStoreState = 0 →
        s.dev.on Reg.safetyUnlockState = false → value = s.dev.nat Reg.checkValueComputed → code = s.dev.svc.code →
        code < 2 ^ 32 → value < 2 ^ 32 → s.dev.stor.jobs = [] → s.dev.commitCause run.cresMv run.ecc = 0 →
      (run.stop = none →
        Runs (.checkValueConfirm who value code run) s fun t => t.dev.nat Reg.confirmState = 1
          ∧ t.dev.nat Reg.checkValueConfirmed = value ∧ Raised 103 t
          ∧ Keeps (fun k => answerKey k || tripKey k || these [Reg.checkValueConfirmed, Reg.confirmState,
              Reg.commitsDone] k) s t) ∧
      (run.stop ≠ none → s.dev.nat Reg.confirmState ≠ 1 →
        Runs (.checkValueConfirm who value code run) s fun t => t.dev.nat Reg.confirmState = s.dev.nat Reg.confirmState
          ∧ t.dev.nat Reg.checkValueConfirmed = s.dev.nat Reg.checkValueConfirmed ∧ t.dev.stor.journal ≠ none
          ∧ Answers who ((⟨1, 0x5000, 0x1D, .write (leBytes 4 value ++ leBytes 4 code)⟩ : Ask).abort (byAgent who) hardwareFault) t
          ∧ Keeps (orBoth []) s t))

/-! ## Storage, log, calendar and self-test (chapter 15) -/

/-- FRAM commits and the measurement of CRES (on R393 to R399): the oldest commit requested is refused with its cause or
takes effect; a store takes effect with its generation; one that a fault stops leaves its journal row set. Where the manual
leaves a point open it follows the model's choices (assumptions 39, 40, 44, 110 and 174). -/
def Obligations.FramCommits : Prop :=
  ∀ s : State, s.dev.cpuLive = true →
    (∀ j, s.dev.stor.jobs.head? = some j → ∀ ecc cresMv,
      (s.dev.commitCause cresMv ecc ≠ 0 → s.dev.reg Reg.commitsRefused < 0xFFFFFFFF →
        Runs (.framCommit cresMv ecc none) s fun t =>
          t.dev.reg Reg.commitsRefused = s.dev.reg Reg.commitsRefused + 1
          ∧ t.dev.nat Reg.lastRefusal = s.dev.commitCause cresMv ecc ∧ Raised 112 t
          ∧ t.dev.stor.generation = s.dev.stor.generation ∧ t.dev.stor.record = s.dev.stor.record
          ∧ (storeJob j = true → t.dev.nat Reg.configStoreState = 3 ∧ ∀ k, k ∈ t.dev.stor.jobs → storeJob k = false)
          ∧ (∀ c, j = .code c → t.dev.stor.jobs = s.dev.stor.jobs ∧ t.dev.svc.code = s.dev.svc.code)
          ∧ Keeps (orEvents [Reg.commitsRefused, Reg.lastRefusal, Reg.configStoreState]) s t) ∧
      (s.dev.commitCause cresMv ecc = 0 → s.dev.reg Reg.commitsDone < 0xFFFFFFFF →
        Runs (.framCommit cresMv ecc none) s fun t =>
          t.dev.reg Reg.commitsDone = s.dev.reg Reg.commitsDone + 1 ∧ t.dev.stor.jobs = s.dev.stor.jobs.drop 1
          ∧ (j = .generation → t.dev.stor.generation = (s.dev.stor.generation + 1) % 2 ^ 32
              ∧ t.dev.nat Reg.storeGeneration = t.dev.stor.generation ∧ t.dev.bit Reg.framStatus 5 = false)
          ∧ (j ≠ .generation → t.dev.stor.generation = s.dev.stor.generation)
          ∧ (∀ c, j = .code c → t.dev.svc.code = c) ∧ t.dev.stor.journal = none
          ∧ (∀ e, e ∈ t.dev.stor.badSignatures → e.1 ≠ s.dev.stor.jobPage j)
          ∧ Keeps (these [Reg.commitsDone, Reg.storeGeneration, Reg.framStatus, Reg.configStoreState]) s t) ∧
      (s.dev.commitCause cresMv ecc = 0 → ∀ row,
        Runs (.framCommit cresMv ecc (some row)) s fun t =>
          t.dev.stor.journal = some ⟨s.dev.stor.jobPage j, s.dev.stor.jobFirst j, jobRows j, (s.dev.stor.commitSeq + 1) % 2 ^ 32⟩
          ∧ t.dev.reg Reg.commitsDone = s.dev.reg Reg.commitsDone
          ∧ Keeps (these [Reg.configStoreState, Reg.storeGeneration, Reg.framStatus]) s t)) ∧
    (s.dev.stor.jobs.head? = some (.image 1) → s.dev.stor.record.length = 5 → s.dev.stor.generation + 1 < 2 ^ 32 →
      ∀ cresMv, s.dev.commitCause cresMv false = 0 →
      Runs (.framCommit cresMv false none) s fun t => Keeps (within [] [Reg.commitsDone, Reg.storeGeneration,
          Reg.framStatus, Reg.configStoreState]) s t ∧ ∀ x, x = t.dev.stor.record.getD 0 .blank →
        x.inForce s.dev.stor.generation = (s.dev.stor.record.getD 0 .blank).inForce s.dev.stor.generation
        ∧ x.inForce (s.dev.stor.generation + 1) = some (s.dev.imageOf (inRecord 0))) ∧
    (∀ mv uv, 0 < uv → mv < 65536 →
      Runs (.cresMeasure mv uv) s fun t => t.dev.nat Reg.cresVoltage = mv
        ∧ t.dev.nat Reg.cresCapacitance = min 65535 (1000000 / uv)
        ∧ (t.dev.bit Reg.framStatus 4 = true ↔ t.dev.nat Reg.cresCapacitance < 47)
        ∧ (t.dev.nat Reg.cresCapacitance < 47 → Raised 114 t)
        ∧ Keeps (orEvents [Reg.cresVoltage, Reg.cresCapacitance, Reg.framStatus]) s t)

/-- The history log (on R401 to R406): the oldest entry waiting goes into the open page, or is dropped after a double error;
a page due is programmed under the next sequence number; formatting, closing, reading, erasing and retiring. Where the
manual leaves a point open it follows the model's choices (assumptions 41, 42, 45, 110 and 175). -/
def Obligations.HistoryLog : Prop :=
  ∀ s : State, s.dev.cpuLive = true →
    (∀ e, s.dev.stor.logQueue.head? = some e →
      (∀ run, s.dev.stor.jobs = [] → s.dev.stor.openPage.length < s.dev.pageCapacity →
          s.dev.commitCause run.cresMv run.ecc = 0 → run.stop = none →
        Runs (.logEntry false run) s fun t => t.dev.stor.openPage = s.dev.stor.openPage ++ [e]
          ∧ t.dev.stor.logQueue = s.dev.stor.logQueue.drop 1
          ∧ Keeps (these [Reg.commitsDone, Reg.logOldestSequence, Reg.logNewestSequence, Reg.logEntriesOpen]) s t) ∧
      (∀ run, s.dev.stor.jobs = [] → s.dev.pageCapacity ≤ s.dev.stor.openPage.length → s.dev.nat Reg.logState ≠ 2 →
          s.dev.commitCause run.cresMv run.ecc = 0 → run.stop = none →
        Runs (.logEntry false run) s fun t => t.dev.stor.openPage = s.dev.stor.openPage.drop 1 ++ [e]
          ∧ t.dev.stor.logQueue = s.dev.stor.logQueue.drop 1 ∧ Keeps (within [] [Reg.commitsDone,
              Reg.logOldestSequence, Reg.logNewestSequence, Reg.logEntriesOpen]) s t) ∧
      (∀ run, s.dev.stor.jobs = [] → s.dev.commitCause run.cresMv run.ecc ≠ 0 →
          s.dev.stor.openPage.length < s.dev.pageCapacity →
        Runs (.logEntry false run) s fun t => Keeps (withinEvents [] [Reg.commitsRefused, Reg.lastRefusal]) s t
            ∧ t.dev.stor.logQueue.take s.dev.stor.logQueue.length = s.dev.stor.logQueue
          ∧ t.dev.stor.openPage = s.dev.stor.openPage ∧ Raised 112 t) ∧
      (∀ run, s.dev.stor.jobs ≠ [] → ∀ ecc, Runs (.logEntry ecc run) s fun t => t = s) ∧
      (∀ run, s.dev.stor.jobs = [] → s.dev.reg Reg.logDropped < 0xFFFFFFFF → s.dev.stor.logQueue.length ≤ 64 →
        Runs (.logEntry true run) s fun t => t.dev.reg Reg.logDropped = s.dev.reg Reg.logDropped + 1
          ∧ t.dev.stor.logQueue.take (s.dev.stor.logQueue.length - 1) = s.dev.stor.logQueue.drop 1
              ∧ t.dev.stor.openPage = s.dev.stor.openPage
          ∧ Keeps (withinEvents [] []) s t)) ∧
    (∀ x y, s.dev.nat Reg.logState = 2 → s.dev.programDue = true → s.dev.pageReady = true → s.dev.stor.jobs = [] →
        s.dev.stor.ended = none → s.dev.commitCause x.cresMv x.ecc = 0 → x.stop = none →
        s.dev.commitCause y.cresMv y.ecc = 0 → y.stop = none →
      (Runs (.logPageProgram .ok x y) s fun t => t.dev.stor.openPage = []
          ∧ (t.dev.stor.pages.getLast?).map (fun g => (g.seq, g.entries)) = some (s.dev.stor.nextSeq, s.dev.stor.openPage)
          ∧ t.dev.stor.nextSeq = (s.dev.stor.nextSeq + 1) % 2 ^ 32 ∧ t.dev.stor.intent = none
          ∧ Keeps (within [] [Reg.commitsDone, Reg.logOldestSequence, Reg.logNewestSequence, Reg.logEntriesOpen,
              Reg.logWraps]) s t) ∧
      (Runs (.logPageProgram .cut x y) s fun t => t.dev.stor.openPage = s.dev.stor.openPage
          ∧ t.dev.stor.intent = some (s.dev.stor.nextBlock, s.dev.stor.nextPage, s.dev.stor.nextSeq)
          ∧ t.dev.stor.nextSeq = s.dev.stor.nextSeq ∧ Keeps (these [Reg.commitsDone]) s t) ∧
      (s.dev.goodBlock s.dev.stor.nextBlock = true → s.dev.stor.nextBlock < s.dev.nat Reg.logBlockCount →
        Runs (.logPageProgram .failed x y) s fun t => t.dev.stor.openPage = s.dev.stor.openPage
          ∧ t.dev.stor.nextSeq = s.dev.stor.nextSeq ∧ t.dev.goodBlock s.dev.stor.nextBlock = false ∧ Raised 115 t
          ∧ (s.dev.stor.nextBlock, s.dev.stor.nextPage) ∈ t.dev.stor.voids
          ∧ Keeps (withinEvents [] [Reg.commitsDone, Reg.logOldestSequence, Reg.logNewestSequence,
              Reg.logEntriesOpen, Reg.logBadBlocks, Reg.logVoidPages, Reg.logState, Reg.logWraps]) s t)) ∧
    (∀ x y, s.dev.nat Reg.logState = 2 → s.dev.programDue = true → s.dev.pageReady = true → s.dev.stor.jobs = [] →
        s.dev.stor.ended = none → s.dev.commitCause x.cresMv x.ecc = 0 → x.stop = none →
        s.dev.commitCause y.cresMv y.ecc ≠ 0 →
      Runs (.logPageProgram .ok x y) s fun t => t.dev.stor.openPage = s.dev.stor.openPage
        ∧ t.dev.stor.ended = some .ok
        ∧ t.dev.stor.intent = some (s.dev.stor.nextBlock, s.dev.stor.nextPage, s.dev.stor.nextSeq) ∧ Raised 112 t
        ∧ Keeps (withinEvents [] [Reg.commitsDone, Reg.commitsRefused, Reg.lastRefusal]) s t) ∧
    (s.dev.nat Reg.logState = 2 → s.dev.stor.erasedSkein = none → 2 ≤ s.dev.usableSkeins.length →
      Runs (.skeinErase []) s fun t => t.dev.stor.erasedSkein.isSome = true
        ∧ (∀ k, t.dev.stor.erasedSkein = some k → k ∈ s.dev.usableSkeins
        ∧ (∀ g, g ∈ t.dev.stor.pages → g.block / 8 ≠ k)
        ∧ (∀ g, g ∈ s.dev.stor.pages → g.block / 8 ≠ k → g ∈ t.dev.stor.pages))
        ∧ Keeps (these [Reg.logOldestSequence, Reg.logNewestSequence, Reg.logEntriesOpen]) s t) ∧
    (∀ b, s.dev.goodBlock b = true → b < s.dev.nat Reg.logBlockCount →
      Runs (.blockRetire b) s fun t => t.dev.goodBlock b = false ∧ Raised 115 t
        ∧ (∀ c, c ≠ b → t.dev.goodBlock c = s.dev.goodBlock c)
        ∧ Keeps (withinEvents [] [Reg.logBadBlocks, Reg.logState, Reg.logWraps]) s t) ∧
    (∀ who, MayWrite s who Reg.logCommand →
      ((s.dev.rights who).commissioned = true → s.dev.nat Reg.logState ≠ 0 →
        Runs (.logFormat who) s fun t => t.dev.stor.pages = [] ∧ t.dev.stor.nextSeq = 0 ∧ t.dev.stor.formatted = true
          ∧ (∀ b, b ∈ s.dev.stor.factoryBad → t.dev.goodBlock b = false) ∧ Keeps (withinBoth [(0x5810, 0x5810)] []) s t) ∧
      ((s.dev.rights who).commissioned = false →
        Runs (.logFormat who) s fun t => t.dev.stor = s.dev.stor ∧ Keeps (orBoth []) s t) ∧
      (Runs (.logClosePage who) s fun t => t.dev.stor.closeDue = true ∧ t.dev.stor.openPage = s.dev.stor.openPage
        ∧ Keeps (orBoth []) s t)) ∧
    (∀ who b, MayWrite s who Reg.logWrite → b.length = 5 → s.dev.nat Reg.logState ≠ 0 → s.dev.stor.logQueue.length < 64 →
      Runs (.logWrite who b) s fun t =>
        t.dev.stor.logQueue = s.dev.stor.logQueue ++ [s.dev.logBytes 0x03 (nth b 0) (ofLe ((b.drop 1).take 4))]
          ∧ Keeps (orBoth []) s t) ∧
    (∀ who seq ok, MayWrite s who Reg.logReadSequence → s.dev.nat Reg.logOldestSequence ≤ seq →
        seq ≤ s.dev.nat Reg.logNewestSequence → seq < 2 ^ 32 →
      Runs (.logReadSequence who seq ok) s fun t => t.dev.nat Reg.logReadSequence = seq
        ∧ (∀ g, g ∈ t.dev.stor.pages → g.seq = seq → g.crcOk = ok)
        ∧ Keeps (orBoth [Reg.logReadSequence]) s t)

/-- The calendar, the die temperatures and the swatches (on R407 to R417): a tick counts, rests at the largest value, meets
the alarm and takes a value written; a value above the largest is refused; a request and a compensation step ask for a
conversion, whose result is taken or, outside its limits, counted, and corrects the crystal; the monitor die's result forms new gauge factors from 0.2 °C on; a
swatch moves on or records its failure, the ROM's at the end of its region, and the last one ends a cycle. Where the manual leaves a point open it follows
the model's choices (assumptions 17 and 44). -/
def Obligations.ClockAndSelfTest : Prop :=
  ∀ s : State,
    (s.dev.kaActive = true → s.dev.pwr.crystal = true →
      (s.dev.stor.calendarWrite = none → s.dev.nat Reg.calendarTime < calendarMax →
        s.dev.nat Reg.calendarTime + 1 ≠ s.dev.nat Reg.calendarAlarm → s.dev.nat Reg.calendarTime + 1 ≠ calendarMax →
        Runs .calendarTick s fun t => t.dev.nat Reg.calendarTime = s.dev.nat Reg.calendarTime + 1
          ∧ Keeps (these [Reg.calendarTime, Reg.calendarStatus, Reg.supplyStatus]) s t) ∧
      (s.dev.stor.calendarWrite = none → s.dev.nat Reg.calendarTime = calendarMax →
        Runs .calendarTick s fun t => t.dev.nat Reg.calendarTime = calendarMax ∧ Keeps (these [Reg.supplyStatus]) s t) ∧
      (s.dev.stor.calendarWrite = none → s.dev.nat Reg.calendarTime + 1 = s.dev.nat Reg.calendarAlarm →
          s.dev.nat Reg.calendarTime < calendarMax → s.dev.cpuLive = true →
        Runs .calendarTick s fun t => t.dev.bit Reg.calendarStatus 2 = true ∧ t.dev.bit Reg.wakeSource 7 = true ∧ Raised 118 t
          ∧ (s.dev.pwr.logic = .sleepEntry → s.dev.pwr.shipEntry = false → s.dev.bit Reg.wakeEnable 7 = true →
              t.dev.pwr.logic = .active ∧ t.dev.nat Reg.powerMode = 1)
          ∧ Keeps (orEvents [Reg.calendarTime, Reg.calendarStatus, Reg.wakeSource, Reg.powerMode, Reg.supplyStatus]) s t) ∧
      (s.dev.stor.calendarWrite = none → s.dev.nat Reg.calendarTime + 1 = s.dev.nat Reg.calendarAlarm →
          s.dev.nat Reg.calendarTime < calendarMax → s.dev.pwr.logic = .sleep →
        Runs .calendarTick s fun t => t.dev.bit Reg.calendarStatus 2 = true ∧ t.dev.bit Reg.wakeSource 7 = true
          ∧ (s.dev.bit Reg.wakeEnable 7 = true → t.dev.pwr.wakeDue = true)
          ∧ Keeps (these [Reg.calendarTime, Reg.calendarStatus, Reg.wakeSource, Reg.supplyStatus]) s t) ∧
      (∀ v, s.dev.stor.calendarWrite = some v → v < 2 ^ 64 →
        Runs .calendarTick s fun t => t.dev.nat Reg.calendarTime = v ∧ t.dev.bit Reg.calendarStatus 0 = false
          ∧ t.dev.stor.calendarWrite = none ∧ Keeps (orEvents [Reg.calendarTime, Reg.calendarStatus, Reg.wakeSource,
              Reg.powerMode, Reg.supplyStatus]) s t)) ∧
    (∀ who v, MayWrite s who Reg.calendarTime →
      (v ≤ calendarMax →
        Runs (.calendarTimeWrite who v) s fun t => t.dev.stor.calendarWrite = some v ∧ Keeps (orAnswer []) s t) ∧
      (calendarMax < v → v < 2 ^ 64 →
        Runs (.calendarTimeWrite who v) s fun t => t.dev.stor.calendarWrite = s.dev.stor.calendarWrite
          ∧ Answers who ((⟨1, 0x5820, 1, .write (leBytes 8 v)⟩ : Ask).abort (byAgent who) outOfRange) t
          ∧ Keeps (orBoth []) s t)) ∧
    (s.dev.kaActive = true → Runs .compensationStep s fun t => t.dev.stor.compensationDue = true
      ∧ t.dev.stor.ctrlTempBusy = true ∧ Keeps (these []) s t) ∧
    (∀ who ctrl, MayWrite s who (if ctrl then Reg.ctrlDieTempRequest else Reg.monDieTempRequest) →
      Runs (.dieTempRequest ctrl who) s fun t =>
        (if ctrl then t.dev.stor.ctrlTempBusy else t.dev.stor.monTempBusy) = true ∧ Keeps (orAnswer []) s t) ∧
    (s.dev.stor.ctrlTempBusy = true → s.dev.stor.compensationDue = false → ∀ c : Int,
      (-600 ≤ c → c ≤ 1800 → Runs (.dieTempDone true c) s fun t => t.dev.reg Reg.ctrlDieTemperature = c
        ∧ t.dev.stor.ctrlTempBusy = false ∧ t.dev.bit Reg.ctrlDieTempStatus 1 = false
        ∧ (2 ≤ s.dev.stor.ctrlTempValid → t.dev.bit Reg.ctrlDieTempStatus 0 = false)
        ∧ Keeps (these [Reg.ctrlDieTemperature, Reg.ctrlDieTempStatus]) s t) ∧
      (c < -600 ∨ 1800 < c → s.dev.reg Reg.ctrlDieTempBroken < 0xFFFFFFFF →
        Runs (.dieTempDone true c) s fun t => t.dev.reg Reg.ctrlDieTemperature = s.dev.reg Reg.ctrlDieTemperature
          ∧ t.dev.bit Reg.ctrlDieTempStatus 0 = true
          ∧ t.dev.reg Reg.ctrlDieTempBroken = s.dev.reg Reg.ctrlDieTempBroken + 1
          ∧ (s.dev.bit Reg.ctrlDieTempStatus 0 = false → s.dev.cpuLive = true → Raised 119 t)
          ∧ Keeps (orEvents [Reg.ctrlDieTempBroken, Reg.ctrlDieTempStatus]) s t)) ∧
    (s.dev.stor.ctrlTempBusy = true → s.dev.stor.compensationDue = true → ∀ c : Int, -600 ≤ c → c ≤ 1800 →
      ∀ e, e = s.dev.reg Reg.crystalOffset * 1000
          + s.dev.reg Reg.crystalCurvature * ((c - s.dev.reg Reg.crystalTurnover) * (c - s.dev.reg Reg.crystalTurnover)) →
      Runs (.dieTempDone true c) s fun t => t.dev.reg Reg.compensationTemp = c
        ∧ t.dev.reg Reg.compensationInForce = roundDiv e 1000
        ∧ (t.dev.stor.ticksToCorrect.natAbs : Int) = roundDiv ((e.natAbs : Int) * 1966080) (10 ^ 11)
        ∧ (0 ≤ e → 0 ≤ t.dev.stor.ticksToCorrect) ∧ (e < 0 → t.dev.stor.ticksToCorrect ≤ 0)
        ∧ Keeps (these [Reg.ctrlDieTemperature, Reg.ctrlDieTempStatus, Reg.compensationTemp,
            Reg.compensationInForce]) s t) ∧
    (∀ c : Int, s.dev.monLive = true → s.dev.stor.monTempBusy = true →
      (-600 ≤ c → c ≤ 1800 → Runs (.dieTempDone false c) s fun t => t.dev.reg Reg.monDieTemperature = c
        ∧ t.dev.stor.monTempBusy = false ∧ t.dev.bit Reg.monDieTempStatus 1 = false
        ∧ (2 ≤ s.dev.stor.monTempValid → t.dev.bit Reg.monDieTempStatus 0 = false)
        ∧ ((c - s.dev.reg Reg.gaugeTempInForce).natAbs < 2 → t.dev.samp.ready = s.dev.samp.ready)
        ∧ (2 ≤ (c - s.dev.reg Reg.gaugeTempInForce).natAbs →
            t.dev.samp.ready = some ((factorsAt c s.dev.gaugeTable).1, (factorsAt c s.dev.gaugeTable).2, c))
        ∧ Keeps (these [Reg.monDieTemperature, Reg.monDieTempStatus, Reg.startupState]) s t) ∧
      (c < -600 ∨ 1800 < c →
        Runs (.dieTempDone false c) s fun t => t.dev.reg Reg.monDieTemperature = s.dev.reg Reg.monDieTemperature
          ∧ t.dev.bit Reg.monDieTempStatus 0 = true ∧ t.dev.stor.monTempValid = 0
          ∧ (s.dev.bit Reg.monDieTempStatus 0 = false → s.dev.cpuLive = true → Raised 119 t)
          ∧ Keeps (orEvents [Reg.monDieTempStatus, Reg.startupState]) s t)) ∧
    (s.dev.cpuLive = true → s.dev.on Reg.swatchControl = true → s.dev.nat Reg.swatchPosition < 1150 →
      (∀ failed, s.swatchFails failed = false →
        Runs (.swatch false failed) s fun t => t.dev.nat Reg.swatchPosition = s.dev.nat Reg.swatchPosition + 1
          ∧ (1024 ≤ s.dev.nat Reg.swatchPosition → s.dev.nat Reg.swatchPosition < 1087 →
              t.dev.stor.romFailed = (failed || s.dev.stor.romFailed))
          ∧ Keeps (these [Reg.swatchPosition]) s t) ∧
      (s.dev.nat Reg.swatchPosition = 1087 → ∀ failed, (failed || s.dev.stor.romFailed) = true →
        Runs (.swatch false failed) s fun t => t.dev.nat Reg.swatchPosition = 1088
          ∧ t.dev.bit Reg.selfTestStatus 1 = true ∧ t.dev.nat Reg.romFailBlock = 63 ∧ t.dev.stor.romFailed = false
          ∧ Raised 121 t
          ∧ Keeps (orEvents [Reg.swatchPosition, Reg.selfTestStatus, Reg.romFailBlock, Reg.swatchFailures]) s t) ∧
      (1088 ≤ s.dev.nat Reg.swatchPosition → ∀ failed,
          (failed || s.dev.stor.pageDiffers (s.dev.nat Reg.swatchPosition - 1087)) = true →
        Runs (.swatch false failed) s fun t => t.dev.nat Reg.swatchPosition = s.dev.nat Reg.swatchPosition + 1
          ∧ t.dev.bit Reg.selfTestStatus 2 = true
          ∧ t.dev.nat Reg.framFailPage = s.dev.nat Reg.swatchPosition - 1087 ∧ Raised 122 t
          ∧ Keeps (orEvents [Reg.swatchPosition, Reg.selfTestStatus, Reg.framFailPage, Reg.swatchFailures]) s t) ∧
      (s.dev.nat Reg.swatchPosition < 1024 →
        Runs (.swatch false true) s fun t => t.dev.nat Reg.swatchPosition = s.dev.nat Reg.swatchPosition + 1
          ∧ t.dev.bit Reg.selfTestStatus 0 = true ∧ t.dev.nat Reg.sramFailBlock = s.dev.nat Reg.swatchPosition
          ∧ Raised 120 t
          ∧ Keeps (orEvents [Reg.swatchPosition, Reg.selfTestStatus, Reg.sramFailBlock, Reg.swatchFailures]) s t)) ∧
    (s.dev.cpuLive = true → s.dev.on Reg.swatchControl = true → s.dev.nat Reg.swatchPosition = 1150 →
      Runs (.swatch false false) s fun t => t.dev.nat Reg.swatchPosition = 0 ∧ Raised 126 t
          ∧ Keeps (withinEvents [] [Reg.swatchPosition, Reg.swatchCycles, Reg.selfTestStatus, Reg.framFailPage,
          Reg.swatchFailures]) s t) ∧
    (s.dev.monLive = true → s.dev.on Reg.monSwatchControl = true → s.dev.stor.monSwatch < 256 → s.dev.nat Reg.bufferState ≠ 3 →
      (Runs (.swatch true false) s fun t => t.dev.stor.monSwatch = s.dev.stor.monSwatch + 1 ∧ Keeps (these []) s t) ∧
      (Runs (.swatch true true) s fun t => t.dev.bit Reg.monSelfTestStatus 0 = true
        ∧ t.dev.nat Reg.monFailBlock = s.dev.stor.monSwatch
        ∧ Keeps (orEvents [Reg.monSelfTestStatus, Reg.monFailBlock, Reg.monSwatchFailures]) s t)) ∧
    (s.dev.monLive = true → s.dev.on Reg.monSwatchControl = true →
      (s.dev.stor.monSwatch < 256 → s.dev.nat Reg.bufferState = 3 →
        Runs (.swatch true false) s fun t => t.dev.stor.monSwatch = 257 ∧ t.dev.stor.monSkipped = true
          ∧ Keeps (these []) s t) ∧
      (s.dev.stor.monSwatch = 257 → s.dev.reg Reg.monSwatchCycles < 0xFFFFFFFF →
        Runs (.swatch true false) s fun t => t.dev.stor.monSwatch = 0 ∧ t.dev.stor.monSkipped = false
          ∧ t.dev.bit Reg.monSelfTestStatus 2 = s.dev.stor.monSkipped
          ∧ t.dev.reg Reg.monSwatchCycles = s.dev.reg Reg.monSwatchCycles + 1
          ∧ Keeps (these [Reg.monSelfTestStatus, Reg.monSwatchCycles]) s t)) ∧
    (∀ who mon v, MayWrite s who (if mon then Reg.monSwatchControl else Reg.swatchControl) → v < 2 →
      Runs (.swatchControl who mon v) s fun t =>
        t.dev.nat (if mon then Reg.monSwatchControl else Reg.swatchControl) = v
          ∧ (s.dev.on (if mon then Reg.monSwatchControl else Reg.swatchControl) = true → v = 0 → s.dev.cpuLive = true →
              Raised 125 t)
          ∧ Keeps (withinBoth [] [Reg.swatchControl, Reg.monSwatchControl, Reg.configStoreState]) s t)
end

