-- ==== Sys2Proof/Laws/Tab.lean ====
section
/-! SUPPORT. The register file: what a read gives after a write. -/

namespace Sys2Proof.Machine

@[simp] theorem Tab.find_put_self (q : Nat) (v : Int) (t : Tab) : Tab.find q (Tab.put q v t) = some v := by
  induction t with
  | nil => simp [Tab.put, Tab.find]
  | cons e t ih =>
    obtain ⟨k, w⟩ := e
    unfold Tab.put
    split
    · simp [Tab.find]
    · split
      · simp [Tab.find]
      · rename_i h; simp [Tab.find, h, ih]

theorem Tab.find_put_ne {q r : Nat} (h : r ≠ q) (v : Int) (t : Tab) : Tab.find r (Tab.put q v t) = Tab.find r t := by
  induction t with
  | nil => simp [Tab.put, Tab.find, Ne.symm h]
  | cons e t ih =>
    obtain ⟨k, w⟩ := e
    unfold Tab.put
    split
    · simp [Tab.find, Ne.symm h]
    · split
      · rename_i hk; simp [Tab.find, Ne.symm h, hk]
      · simp [Tab.find, ih]

theorem Tab.find_dropIf (p : Nat → Bool) (r : Nat) (t : Tab) :
    Tab.find r (Tab.dropIf p t) = if p r then none else Tab.find r t := by
  induction t with
  | nil => simp [Tab.dropIf, Tab.find]
  | cons e t ih =>
    obtain ⟨k, w⟩ := e
    unfold Tab.dropIf
    by_cases hk : p k
    · simp only [hk, if_true, ih, Tab.find]
      by_cases hr : k = r
      · subst hr; simp [hk]
      · simp [hr]
    · by_cases hr : k = r
      · subst hr; simp [Tab.find, hk]
      · simp [Tab.find, hk, hr, ih]

@[simp] theorem Tab.val_assign_self (t : Tab) (r : Reg) (v : Int) : (t.assign r v).val r = v := by
  unfold Tab.assign Tab.val
  split
  · rename_i h; simp [Tab.find_dropIf, h]
  · simp

theorem Tab.val_assign_ne {r q : Reg} (h : q.key ≠ r.key) (t : Tab) (v : Int) : (t.assign r v).val q = t.val q := by
  unfold Tab.assign Tab.val
  split
  · simp [Tab.find_dropIf, h]
  · simp [Tab.find_put_ne h]

end Sys2Proof.Machine
end

