-- ==== Sys2Proof/Laws/State.lean ====
section
/-! SUPPORT. One lemma per field per update, so that no proof unfolds a record update; and what a register reads after the
named operations. -/

namespace Sys2Proof.Machine

/-! ## The rest of the device under a register write -/

@[simp] theorem Dev.set_blobs (d : Dev) (r : Reg) (v : Int) : (d.set r v).blobs = d.blobs := rfl
@[simp] theorem Dev.set_free (d : Dev) (r : Reg) (v : Int) : (d.set r v).free = d.free := rfl
@[simp] theorem Dev.set_pwr (d : Dev) (r : Reg) (v : Int) : (d.set r v).pwr = d.pwr := rfl
@[simp] theorem Dev.set_snaps (d : Dev) (r : Reg) (v : Int) : (d.set r v).snaps = d.snaps := rfl
@[simp] theorem Dev.set_samp (d : Dev) (r : Reg) (v : Int) : (d.set r v).samp = d.samp := rfl
@[simp] theorem Dev.set_sup (d : Dev) (r : Reg) (v : Int) : (d.set r v).sup = d.sup := rfl
@[simp] theorem Dev.set_bal (d : Dev) (r : Reg) (v : Int) : (d.set r v).bal = d.bal := rfl
@[simp] theorem Dev.set_link (d : Dev) (r : Reg) (v : Int) : (d.set r v).link = d.link := rfl
@[simp] theorem Dev.set_chain (d : Dev) (r : Reg) (v : Int) : (d.set r v).chain = d.chain := rfl
@[simp] theorem Dev.set_svc (d : Dev) (r : Reg) (v : Int) : (d.set r v).svc = d.svc := rfl
@[simp] theorem Dev.set_ctl (d : Dev) (r : Reg) (v : Int) : (d.set r v).ctl = d.ctl := rfl
@[simp] theorem Dev.set_stor (d : Dev) (r : Reg) (v : Int) : (d.set r v).stor = d.stor := rfl
@[simp] theorem Dev.set_conv (d : Dev) (r : Reg) (v : Int) : (d.set r v).conv = d.conv := rfl
@[simp] theorem Dev.set_path (d : Dev) (r : Reg) (v : Int) : (d.set r v).path = d.path := rfl
@[simp] theorem Dev.set_pd (d : Dev) (r : Reg) (v : Int) : (d.set r v).pd = d.pd := rfl
@[simp] theorem Dev.set_safe (d : Dev) (r : Reg) (v : Int) : (d.set r v).safe = d.safe := rfl
@[simp] theorem Dev.setNat_blobs (d : Dev) (r : Reg) (v : Nat) : (d.setNat r v).blobs = d.blobs := rfl
@[simp] theorem Dev.setNat_free (d : Dev) (r : Reg) (v : Nat) : (d.setNat r v).free = d.free := rfl
@[simp] theorem Dev.setNat_pwr (d : Dev) (r : Reg) (v : Nat) : (d.setNat r v).pwr = d.pwr := rfl
@[simp] theorem Dev.setNat_snaps (d : Dev) (r : Reg) (v : Nat) : (d.setNat r v).snaps = d.snaps := rfl
@[simp] theorem Dev.setNat_samp (d : Dev) (r : Reg) (v : Nat) : (d.setNat r v).samp = d.samp := rfl
@[simp] theorem Dev.setNat_sup (d : Dev) (r : Reg) (v : Nat) : (d.setNat r v).sup = d.sup := rfl
@[simp] theorem Dev.setNat_bal (d : Dev) (r : Reg) (v : Nat) : (d.setNat r v).bal = d.bal := rfl
@[simp] theorem Dev.setNat_link (d : Dev) (r : Reg) (v : Nat) : (d.setNat r v).link = d.link := rfl
@[simp] theorem Dev.setNat_chain (d : Dev) (r : Reg) (v : Nat) : (d.setNat r v).chain = d.chain := rfl
@[simp] theorem Dev.setNat_svc (d : Dev) (r : Reg) (v : Nat) : (d.setNat r v).svc = d.svc := rfl
@[simp] theorem Dev.setNat_ctl (d : Dev) (r : Reg) (v : Nat) : (d.setNat r v).ctl = d.ctl := rfl
@[simp] theorem Dev.setNat_stor (d : Dev) (r : Reg) (v : Nat) : (d.setNat r v).stor = d.stor := rfl
@[simp] theorem Dev.setNat_conv (d : Dev) (r : Reg) (v : Nat) : (d.setNat r v).conv = d.conv := rfl
@[simp] theorem Dev.setNat_path (d : Dev) (r : Reg) (v : Nat) : (d.setNat r v).path = d.path := rfl
@[simp] theorem Dev.setNat_pd (d : Dev) (r : Reg) (v : Nat) : (d.setNat r v).pd = d.pd := rfl
@[simp] theorem Dev.setNat_safe (d : Dev) (r : Reg) (v : Nat) : (d.setNat r v).safe = d.safe := rfl
@[simp] theorem Dev.setBool_blobs (d : Dev) (r : Reg) (b : Bool) : (d.setBool r b).blobs = d.blobs := rfl
@[simp] theorem Dev.setBool_free (d : Dev) (r : Reg) (b : Bool) : (d.setBool r b).free = d.free := rfl
@[simp] theorem Dev.setBool_pwr (d : Dev) (r : Reg) (b : Bool) : (d.setBool r b).pwr = d.pwr := rfl
@[simp] theorem Dev.setBool_snaps (d : Dev) (r : Reg) (b : Bool) : (d.setBool r b).snaps = d.snaps := rfl
@[simp] theorem Dev.setBool_samp (d : Dev) (r : Reg) (b : Bool) : (d.setBool r b).samp = d.samp := rfl
@[simp] theorem Dev.setBool_sup (d : Dev) (r : Reg) (b : Bool) : (d.setBool r b).sup = d.sup := rfl
@[simp] theorem Dev.setBool_bal (d : Dev) (r : Reg) (b : Bool) : (d.setBool r b).bal = d.bal := rfl
@[simp] theorem Dev.setBool_link (d : Dev) (r : Reg) (b : Bool) : (d.setBool r b).link = d.link := rfl
@[simp] theorem Dev.setBool_chain (d : Dev) (r : Reg) (b : Bool) : (d.setBool r b).chain = d.chain := rfl
@[simp] theorem Dev.setBool_svc (d : Dev) (r : Reg) (b : Bool) : (d.setBool r b).svc = d.svc := rfl
@[simp] theorem Dev.setBool_ctl (d : Dev) (r : Reg) (b : Bool) : (d.setBool r b).ctl = d.ctl := rfl
@[simp] theorem Dev.setBool_stor (d : Dev) (r : Reg) (b : Bool) : (d.setBool r b).stor = d.stor := rfl
@[simp] theorem Dev.setBool_conv (d : Dev) (r : Reg) (b : Bool) : (d.setBool r b).conv = d.conv := rfl
@[simp] theorem Dev.setBool_path (d : Dev) (r : Reg) (b : Bool) : (d.setBool r b).path = d.path := rfl
@[simp] theorem Dev.setBool_pd (d : Dev) (r : Reg) (b : Bool) : (d.setBool r b).pd = d.pd := rfl
@[simp] theorem Dev.setBool_safe (d : Dev) (r : Reg) (b : Bool) : (d.setBool r b).safe = d.safe := rfl
@[simp] theorem Dev.setBit_blobs (d : Dev) (r : Reg) (n : Nat) (b : Bool) : (d.setBit r n b).blobs = d.blobs := rfl
@[simp] theorem Dev.setBit_free (d : Dev) (r : Reg) (n : Nat) (b : Bool) : (d.setBit r n b).free = d.free := rfl
@[simp] theorem Dev.setBit_pwr (d : Dev) (r : Reg) (n : Nat) (b : Bool) : (d.setBit r n b).pwr = d.pwr := rfl
@[simp] theorem Dev.setBit_snaps (d : Dev) (r : Reg) (n : Nat) (b : Bool) : (d.setBit r n b).snaps = d.snaps := rfl
@[simp] theorem Dev.setBit_samp (d : Dev) (r : Reg) (n : Nat) (b : Bool) : (d.setBit r n b).samp = d.samp := rfl
@[simp] theorem Dev.setBit_sup (d : Dev) (r : Reg) (n : Nat) (b : Bool) : (d.setBit r n b).sup = d.sup := rfl
@[simp] theorem Dev.setBit_bal (d : Dev) (r : Reg) (n : Nat) (b : Bool) : (d.setBit r n b).bal = d.bal := rfl
@[simp] theorem Dev.setBit_link (d : Dev) (r : Reg) (n : Nat) (b : Bool) : (d.setBit r n b).link = d.link := rfl
@[simp] theorem Dev.setBit_chain (d : Dev) (r : Reg) (n : Nat) (b : Bool) : (d.setBit r n b).chain = d.chain := rfl
@[simp] theorem Dev.setBit_svc (d : Dev) (r : Reg) (n : Nat) (b : Bool) : (d.setBit r n b).svc = d.svc := rfl
@[simp] theorem Dev.setBit_ctl (d : Dev) (r : Reg) (n : Nat) (b : Bool) : (d.setBit r n b).ctl = d.ctl := rfl
@[simp] theorem Dev.setBit_stor (d : Dev) (r : Reg) (n : Nat) (b : Bool) : (d.setBit r n b).stor = d.stor := rfl
@[simp] theorem Dev.setBit_conv (d : Dev) (r : Reg) (n : Nat) (b : Bool) : (d.setBit r n b).conv = d.conv := rfl
@[simp] theorem Dev.setBit_path (d : Dev) (r : Reg) (n : Nat) (b : Bool) : (d.setBit r n b).path = d.path := rfl
@[simp] theorem Dev.setBit_pd (d : Dev) (r : Reg) (n : Nat) (b : Bool) : (d.setBit r n b).pd = d.pd := rfl
@[simp] theorem Dev.setBit_safe (d : Dev) (r : Reg) (n : Nat) (b : Bool) : (d.setBit r n b).safe = d.safe := rfl
@[simp] theorem Dev.orBits_blobs (d : Dev) (r : Reg) (m : Nat) : (d.orBits r m).blobs = d.blobs := rfl
@[simp] theorem Dev.orBits_free (d : Dev) (r : Reg) (m : Nat) : (d.orBits r m).free = d.free := rfl
@[simp] theorem Dev.orBits_pwr (d : Dev) (r : Reg) (m : Nat) : (d.orBits r m).pwr = d.pwr := rfl
@[simp] theorem Dev.orBits_snaps (d : Dev) (r : Reg) (m : Nat) : (d.orBits r m).snaps = d.snaps := rfl
@[simp] theorem Dev.orBits_samp (d : Dev) (r : Reg) (m : Nat) : (d.orBits r m).samp = d.samp := rfl
@[simp] theorem Dev.orBits_sup (d : Dev) (r : Reg) (m : Nat) : (d.orBits r m).sup = d.sup := rfl
@[simp] theorem Dev.orBits_bal (d : Dev) (r : Reg) (m : Nat) : (d.orBits r m).bal = d.bal := rfl
@[simp] theorem Dev.orBits_link (d : Dev) (r : Reg) (m : Nat) : (d.orBits r m).link = d.link := rfl
@[simp] theorem Dev.orBits_chain (d : Dev) (r : Reg) (m : Nat) : (d.orBits r m).chain = d.chain := rfl
@[simp] theorem Dev.orBits_svc (d : Dev) (r : Reg) (m : Nat) : (d.orBits r m).svc = d.svc := rfl
@[simp] theorem Dev.orBits_ctl (d : Dev) (r : Reg) (m : Nat) : (d.orBits r m).ctl = d.ctl := rfl
@[simp] theorem Dev.orBits_stor (d : Dev) (r : Reg) (m : Nat) : (d.orBits r m).stor = d.stor := rfl
@[simp] theorem Dev.orBits_conv (d : Dev) (r : Reg) (m : Nat) : (d.orBits r m).conv = d.conv := rfl
@[simp] theorem Dev.orBits_path (d : Dev) (r : Reg) (m : Nat) : (d.orBits r m).path = d.path := rfl
@[simp] theorem Dev.orBits_pd (d : Dev) (r : Reg) (m : Nat) : (d.orBits r m).pd = d.pd := rfl
@[simp] theorem Dev.orBits_safe (d : Dev) (r : Reg) (m : Nat) : (d.orBits r m).safe = d.safe := rfl
@[simp] theorem Dev.andNot_blobs (d : Dev) (r : Reg) (m : Nat) : (d.andNot r m).blobs = d.blobs := rfl
@[simp] theorem Dev.andNot_free (d : Dev) (r : Reg) (m : Nat) : (d.andNot r m).free = d.free := rfl
@[simp] theorem Dev.andNot_pwr (d : Dev) (r : Reg) (m : Nat) : (d.andNot r m).pwr = d.pwr := rfl
@[simp] theorem Dev.andNot_snaps (d : Dev) (r : Reg) (m : Nat) : (d.andNot r m).snaps = d.snaps := rfl
@[simp] theorem Dev.andNot_samp (d : Dev) (r : Reg) (m : Nat) : (d.andNot r m).samp = d.samp := rfl
@[simp] theorem Dev.andNot_sup (d : Dev) (r : Reg) (m : Nat) : (d.andNot r m).sup = d.sup := rfl
@[simp] theorem Dev.andNot_bal (d : Dev) (r : Reg) (m : Nat) : (d.andNot r m).bal = d.bal := rfl
@[simp] theorem Dev.andNot_link (d : Dev) (r : Reg) (m : Nat) : (d.andNot r m).link = d.link := rfl
@[simp] theorem Dev.andNot_chain (d : Dev) (r : Reg) (m : Nat) : (d.andNot r m).chain = d.chain := rfl
@[simp] theorem Dev.andNot_svc (d : Dev) (r : Reg) (m : Nat) : (d.andNot r m).svc = d.svc := rfl
@[simp] theorem Dev.andNot_ctl (d : Dev) (r : Reg) (m : Nat) : (d.andNot r m).ctl = d.ctl := rfl
@[simp] theorem Dev.andNot_stor (d : Dev) (r : Reg) (m : Nat) : (d.andNot r m).stor = d.stor := rfl
@[simp] theorem Dev.andNot_conv (d : Dev) (r : Reg) (m : Nat) : (d.andNot r m).conv = d.conv := rfl
@[simp] theorem Dev.andNot_path (d : Dev) (r : Reg) (m : Nat) : (d.andNot r m).path = d.path := rfl
@[simp] theorem Dev.andNot_pd (d : Dev) (r : Reg) (m : Nat) : (d.andNot r m).pd = d.pd := rfl
@[simp] theorem Dev.andNot_safe (d : Dev) (r : Reg) (m : Nat) : (d.andNot r m).safe = d.safe := rfl

@[simp] theorem Dev.bump_blobs (d : Dev) (r : Reg) : (d.bump r).blobs = d.blobs := by unfold Dev.bump; split <;> rfl
@[simp] theorem Dev.bump_free (d : Dev) (r : Reg) : (d.bump r).free = d.free := by unfold Dev.bump; split <;> rfl
@[simp] theorem Dev.bump_pwr (d : Dev) (r : Reg) : (d.bump r).pwr = d.pwr := by unfold Dev.bump; split <;> rfl
@[simp] theorem Dev.bump_snaps (d : Dev) (r : Reg) : (d.bump r).snaps = d.snaps := by unfold Dev.bump; split <;> rfl
@[simp] theorem Dev.bump_samp (d : Dev) (r : Reg) : (d.bump r).samp = d.samp := by unfold Dev.bump; split <;> rfl
@[simp] theorem Dev.bump_sup (d : Dev) (r : Reg) : (d.bump r).sup = d.sup := by unfold Dev.bump; split <;> rfl
@[simp] theorem Dev.bump_bal (d : Dev) (r : Reg) : (d.bump r).bal = d.bal := by unfold Dev.bump; split <;> rfl
@[simp] theorem Dev.bump_link (d : Dev) (r : Reg) : (d.bump r).link = d.link := by unfold Dev.bump; split <;> rfl
@[simp] theorem Dev.bump_chain (d : Dev) (r : Reg) : (d.bump r).chain = d.chain := by unfold Dev.bump; split <;> rfl
@[simp] theorem Dev.bump_svc (d : Dev) (r : Reg) : (d.bump r).svc = d.svc := by unfold Dev.bump; split <;> rfl
@[simp] theorem Dev.bump_ctl (d : Dev) (r : Reg) : (d.bump r).ctl = d.ctl := by unfold Dev.bump; split <;> rfl
@[simp] theorem Dev.bump_stor (d : Dev) (r : Reg) : (d.bump r).stor = d.stor := by unfold Dev.bump; split <;> rfl
@[simp] theorem Dev.bump_conv (d : Dev) (r : Reg) : (d.bump r).conv = d.conv := by unfold Dev.bump; split <;> rfl
@[simp] theorem Dev.bump_path (d : Dev) (r : Reg) : (d.bump r).path = d.path := by unfold Dev.bump; split <;> rfl
@[simp] theorem Dev.bump_pd (d : Dev) (r : Reg) : (d.bump r).pd = d.pd := by unfold Dev.bump; split <;> rfl
@[simp] theorem Dev.bump_safe (d : Dev) (r : Reg) : (d.bump r).safe = d.safe := by unfold Dev.bump; split <;> rfl
@[simp] theorem Dev.bumpBy_blobs (d : Dev) (r : Reg) (n : Nat) : (d.bumpBy r n).blobs = d.blobs := rfl
@[simp] theorem Dev.bumpBy_free (d : Dev) (r : Reg) (n : Nat) : (d.bumpBy r n).free = d.free := rfl
@[simp] theorem Dev.bumpBy_pwr (d : Dev) (r : Reg) (n : Nat) : (d.bumpBy r n).pwr = d.pwr := rfl
@[simp] theorem Dev.bumpBy_snaps (d : Dev) (r : Reg) (n : Nat) : (d.bumpBy r n).snaps = d.snaps := rfl
@[simp] theorem Dev.bumpBy_samp (d : Dev) (r : Reg) (n : Nat) : (d.bumpBy r n).samp = d.samp := rfl
@[simp] theorem Dev.bumpBy_sup (d : Dev) (r : Reg) (n : Nat) : (d.bumpBy r n).sup = d.sup := rfl
@[simp] theorem Dev.bumpBy_bal (d : Dev) (r : Reg) (n : Nat) : (d.bumpBy r n).bal = d.bal := rfl
@[simp] theorem Dev.bumpBy_link (d : Dev) (r : Reg) (n : Nat) : (d.bumpBy r n).link = d.link := rfl
@[simp] theorem Dev.bumpBy_chain (d : Dev) (r : Reg) (n : Nat) : (d.bumpBy r n).chain = d.chain := rfl
@[simp] theorem Dev.bumpBy_svc (d : Dev) (r : Reg) (n : Nat) : (d.bumpBy r n).svc = d.svc := rfl
@[simp] theorem Dev.bumpBy_ctl (d : Dev) (r : Reg) (n : Nat) : (d.bumpBy r n).ctl = d.ctl := rfl
@[simp] theorem Dev.bumpBy_stor (d : Dev) (r : Reg) (n : Nat) : (d.bumpBy r n).stor = d.stor := rfl
@[simp] theorem Dev.bumpBy_conv (d : Dev) (r : Reg) (n : Nat) : (d.bumpBy r n).conv = d.conv := rfl
@[simp] theorem Dev.bumpBy_path (d : Dev) (r : Reg) (n : Nat) : (d.bumpBy r n).path = d.path := rfl
@[simp] theorem Dev.bumpBy_pd (d : Dev) (r : Reg) (n : Nat) : (d.bumpBy r n).pd = d.pd := rfl
@[simp] theorem Dev.bumpBy_safe (d : Dev) (r : Reg) (n : Nat) : (d.bumpBy r n).safe = d.safe := rfl
@[simp] theorem Dev.setBlob_regs (d : Dev) (k : Nat) (v : List Nat) : (d.setBlob k v).regs = d.regs := rfl
@[simp] theorem Dev.setBlob_free (d : Dev) (k : Nat) (v : List Nat) : (d.setBlob k v).free = d.free := rfl
@[simp] theorem Dev.setBlob_pwr (d : Dev) (k : Nat) (v : List Nat) : (d.setBlob k v).pwr = d.pwr := rfl
@[simp] theorem Dev.setBlob_snaps (d : Dev) (k : Nat) (v : List Nat) : (d.setBlob k v).snaps = d.snaps := rfl
@[simp] theorem Dev.setBlob_samp (d : Dev) (k : Nat) (v : List Nat) : (d.setBlob k v).samp = d.samp := rfl
@[simp] theorem Dev.setBlob_sup (d : Dev) (k : Nat) (v : List Nat) : (d.setBlob k v).sup = d.sup := rfl
@[simp] theorem Dev.setBlob_bal (d : Dev) (k : Nat) (v : List Nat) : (d.setBlob k v).bal = d.bal := rfl
@[simp] theorem Dev.setBlob_link (d : Dev) (k : Nat) (v : List Nat) : (d.setBlob k v).link = d.link := rfl
@[simp] theorem Dev.setBlob_chain (d : Dev) (k : Nat) (v : List Nat) : (d.setBlob k v).chain = d.chain := rfl
@[simp] theorem Dev.setBlob_svc (d : Dev) (k : Nat) (v : List Nat) : (d.setBlob k v).svc = d.svc := rfl
@[simp] theorem Dev.setBlob_ctl (d : Dev) (k : Nat) (v : List Nat) : (d.setBlob k v).ctl = d.ctl := rfl
@[simp] theorem Dev.setBlob_stor (d : Dev) (k : Nat) (v : List Nat) : (d.setBlob k v).stor = d.stor := rfl
@[simp] theorem Dev.setBlob_conv (d : Dev) (k : Nat) (v : List Nat) : (d.setBlob k v).conv = d.conv := rfl
@[simp] theorem Dev.setBlob_path (d : Dev) (k : Nat) (v : List Nat) : (d.setBlob k v).path = d.path := rfl
@[simp] theorem Dev.setBlob_pd (d : Dev) (k : Nat) (v : List Nat) : (d.setBlob k v).pd = d.pd := rfl
@[simp] theorem Dev.setBlob_safe (d : Dev) (k : Nat) (v : List Nat) : (d.setBlob k v).safe = d.safe := rfl

/-! ## Registers after a write -/

@[simp] theorem Dev.reg_set_self (d : Dev) (r : Reg) (v : Int) : (d.set r v).reg r = v := by simp [Dev.set, Dev.reg]

theorem Dev.reg_set_ne {r q : Reg} (h : q.key ≠ r.key) (d : Dev) (v : Int) : (d.set r v).reg q = d.reg q := by
  simp [Dev.set, Dev.reg, Tab.val_assign_ne h]

/-- A register after a write to one, by their keys. -/
theorem Dev.reg_set (d : Dev) (r q : Reg) (v : Int) (hd : q.key = r.key → q = r) :
    (d.set r v).reg q = if q.key = r.key then v else d.reg q := by
  split
  · rename_i h; rw [hd h]; simp
  · rename_i h; exact Dev.reg_set_ne h d v

@[simp] theorem Dev.nat_set_self (d : Dev) (r : Reg) (v : Int) : (d.set r v).nat r = v.toNat := by simp [Dev.nat]
@[simp] theorem Dev.nat_setNat_self (d : Dev) (r : Reg) (v : Nat) : (d.setNat r v).nat r = v := by simp [Dev.nat, Dev.setNat]
@[simp] theorem Dev.reg_setNat_self (d : Dev) (r : Reg) (v : Nat) : (d.setNat r v).reg r = v := by simp [Dev.setNat]

theorem Dev.nat_set_ne {r q : Reg} (h : q.key ≠ r.key) (d : Dev) (v : Int) : (d.set r v).nat q = d.nat q := by
  simp [Dev.nat, Dev.reg_set_ne h]
theorem Dev.reg_setNat_ne {r q : Reg} (h : q.key ≠ r.key) (d : Dev) (v : Nat) : (d.setNat r v).reg q = d.reg q :=
  Dev.reg_set_ne h d v
theorem Dev.nat_setNat_ne {r q : Reg} (h : q.key ≠ r.key) (d : Dev) (v : Nat) : (d.setNat r v).nat q = d.nat q :=
  Dev.nat_set_ne h d v
theorem Dev.reg_setBit_ne {r q : Reg} (h : q.key ≠ r.key) (d : Dev) (n : Nat) (b : Bool) :
    (d.setBit r n b).reg q = d.reg q := Dev.reg_set_ne h d _
theorem Dev.reg_setBool_ne {r q : Reg} (h : q.key ≠ r.key) (d : Dev) (b : Bool) :
    (d.setBool r b).reg q = d.reg q := Dev.reg_set_ne h d _
theorem Dev.reg_orBits_ne {r q : Reg} (h : q.key ≠ r.key) (d : Dev) (m : Nat) :
    (d.orBits r m).reg q = d.reg q := Dev.reg_set_ne h d _
theorem Dev.reg_andNot_ne {r q : Reg} (h : q.key ≠ r.key) (d : Dev) (m : Nat) :
    (d.andNot r m).reg q = d.reg q := Dev.reg_set_ne h d _
theorem Dev.reg_bump_ne {r q : Reg} (h : q.key ≠ r.key) (d : Dev) : (d.bump r).reg q = d.reg q := by
  unfold Dev.bump; split
  · exact Dev.reg_set_ne h d _
  · rfl
theorem Dev.reg_bumpBy_ne {r q : Reg} (h : q.key ≠ r.key) (d : Dev) (n : Nat) : (d.bumpBy r n).reg q = d.reg q :=
  Dev.reg_set_ne h d _

/-- A counter counts up and sticks at 0xFFFF_FFFF. -/
@[simp] theorem Dev.reg_bump_self (d : Dev) (r : Reg) :
    (d.bump r).reg r = if d.reg r < 0xFFFFFFFF then d.reg r + 1 else d.reg r := by
  unfold Dev.bump; split <;> simp

@[simp] theorem Dev.reg_setBlob (d : Dev) (k : Nat) (v : List Nat) (r : Reg) : (d.setBlob k v).reg r = d.reg r := rfl

/-- Registers that a reset drops read their defaults, the others are unchanged. -/
theorem Dev.reg_dropRegs (d : Dev) (p : Nat → Bool) (r : Reg) :
    (d.dropRegs p).reg r = if p r.key then r.dflt else d.reg r := by
  simp only [Dev.dropRegs, Dev.reg, Tab.val, Tab.find_dropIf]
  split <;> simp

/-! ## Strings -/

@[simp] theorem findBlob_putBlob_self (q : Nat) (v : List Nat) (l : List (Nat × List Nat)) :
    findBlob q (putBlob q v l) = some v := by
  induction l with
  | nil => simp [putBlob, findBlob]
  | cons e t ih =>
    obtain ⟨k, w⟩ := e
    unfold putBlob
    split
    · simp [findBlob]
    · split
      · simp [findBlob]
      · rename_i h; simp [findBlob, h, ih]

@[simp] theorem Dev.blob_setBlob_self (d : Dev) (k : Nat) (v dflt : List Nat) : (d.setBlob k v).blob k dflt = v := by
  simp [Dev.setBlob, Dev.blob]

/-! ## The state around the device -/

@[simp] theorem State.onDev_pending (s : State) (f : Dev → Dev) : (s.onDev f).pending = s.pending := rfl
@[simp] theorem State.onDev_mem (s : State) (f : Dev → Dev) : (s.onDev f).mem = s.mem := rfl
@[simp] theorem State.onDev_dev (s : State) (f : Dev → Dev) : (s.onDev f).dev = f s.dev := rfl

/-! ## Bits of a word -/

theorem testBit_withBit_self (v n : Nat) (b : Bool) : (withBit v n b).testBit n = b := by
  unfold withBit
  by_cases h : v.testBit n
  · cases b
    · simp only [h, if_true, Bool.false_eq_true, if_false]
      have hge : 2 ^ n ≤ v := Nat.ge_two_pow_of_testBit h
      obtain ⟨w, hw⟩ := Nat.exists_eq_add_of_le hge
      subst hw
      rw [Nat.add_sub_cancel_left]
      have := Nat.testBit_two_pow_add_eq w n
      rw [h] at this
      cases hb : w.testBit n
      · rfl
      · rw [hb] at this; simp at this
    · simp [h]
  · have h' : v.testBit n = false := by simpa using h
    cases b
    · simp [h']
    · simp only [h', Bool.false_eq_true, if_false, if_true]
      rw [Nat.add_comm, Nat.testBit_two_pow_add_eq, h']; rfl

@[simp] theorem Dev.bit_setBit_self (d : Dev) (r : Reg) (n : Nat) (b : Bool) : (d.setBit r n b).bit r n = b := by
  simp [Dev.bit, Dev.setBit, testBit_withBit_self]

end Sys2Proof.Machine
end

