-- ==== Sys2Proof/Laws/Raise.lean ====
section
/-! SUPPORT. What raising event sources can change: the event registers, the states of DMA channels that wait for a source,
the emergency queue, the log queue; nothing else. -/

namespace Sys2Proof.Machine

/-- Two devices agree on everything that a raise leaves alone. -/
structure SameButRaise (d d' : Dev) : Prop where
  reg : ∀ r : Reg, eventKey r.key = false → d'.reg r = d.reg r
  blobs : d'.blobs = d.blobs
  free : d'.free = d.free
  pwr : d'.pwr = d.pwr
  snaps : d'.snaps = d.snaps
  samp : d'.samp = d.samp
  sup : d'.sup = d.sup
  bal : d'.bal = d.bal
  link : d'.link = d.link
  chain : d'.chain = d.chain
  conv : d'.conv = d.conv
  path : d'.path = d.path
  pd : d'.pd = d.pd
  safe : d'.safe = d.safe
  pages : d'.ctl.pages = d.ctl.pages
  running : d'.ctl.running = d.ctl.running
  irqHeld : d'.ctl.irqHeld = d.ctl.irqHeld
  canA : d'.svc.canA = d.svc.canA
  canB : d'.svc.canB = d.svc.canB
  spi : d'.svc.spi = d.svc.spi
  agent : d'.svc.agent = d.svc.agent
  code : d'.svc.code = d.svc.code
  codeLocked : d'.svc.codeLocked = d.svc.codeLocked
  wrongInRow : d'.svc.wrongInRow = d.svc.wrongInRow
  requests : d'.svc.requests = d.svc.requests

namespace SameButRaise

theorem refl (d : Dev) : SameButRaise d d := by constructor <;> first | rfl | (intro r _; rfl)

theorem trans {a b c : Dev} (h : SameButRaise a b) (k : SameButRaise b c) : SameButRaise a c := by
  constructor
  · intro r hr; rw [k.reg r hr, h.reg r hr]
  all_goals (first
    | rw [k.blobs, h.blobs] | rw [k.free, h.free] | rw [k.pwr, h.pwr] | rw [k.snaps, h.snaps] | rw [k.samp, h.samp]
    | rw [k.sup, h.sup] | rw [k.bal, h.bal] | rw [k.link, h.link] | rw [k.chain, h.chain] | rw [k.conv, h.conv]
    | rw [k.path, h.path] | rw [k.pd, h.pd] | rw [k.safe, h.safe] | rw [k.pages, h.pages] | rw [k.running, h.running]
    | rw [k.irqHeld, h.irqHeld] | rw [k.canA, h.canA] | rw [k.canB, h.canB] | rw [k.spi, h.spi] | rw [k.agent, h.agent]
    | rw [k.code, h.code] | rw [k.codeLocked, h.codeLocked] | rw [k.wrongInRow, h.wrongInRow] | rw [k.requests, h.requests])

/-- A write to an event register. -/
theorem set (d : Dev) (r : Reg) (v : Int) (h : eventKey r.key = true) : SameButRaise d (d.set r v) := by
  constructor
  · intro q hq
    refine Dev.reg_set_ne ?_ d v
    intro e; rw [e, h] at hq; exact Bool.noConfusion hq
  all_goals rfl

theorem bump (d : Dev) (r : Reg) (h : eventKey r.key = true) : SameButRaise d (d.bump r) := by
  unfold Dev.bump; split
  · exact set d r _ h
  · exact refl d

theorem foldl {α : Type} (f : Dev → α → Dev) (hf : ∀ d a, SameButRaise d (f d a)) :
    ∀ (l : List α) (d : Dev), SameButRaise d (l.foldl f d)
  | [], d => refl d
  | a :: t, d => (hf d a).trans (foldl f hf t (f d a))

end SameButRaise

theorem foldl_mem {α β : Type} (P : β → β → Prop) (hr : ∀ b, P b b) (ht : ∀ {a b c}, P a b → P b c → P a c)
    (f : β → α → β) : ∀ (l : List α) (b : β), (∀ x ∈ l, ∀ b, P b (f b x)) → P b (l.foldl f b)
  | [], b, _ => hr b
  | x :: t, b, h => ht (h x (List.mem_cons_self ..) b)
      (foldl_mem P hr ht f t (f b x) (fun y hy => h y (List.mem_cons_of_mem _ hy)))

theorem eventKey_event {e : Nat} (h : reservedSource e = false) :
    eventKey (Reg.eventFlag e).key = true ∧ eventKey (Reg.eventCount e).key = true
      ∧ eventKey (Reg.eventLastRow e).key = true := by
  have he : e < 128 := by
    simp only [reservedSource, Bool.or_eq_false_iff, Bool.and_eq_false_iff, decide_eq_false_iff_not] at h
    omega
  refine ⟨?_, ?_, ?_⟩ <;>
  · simp only [eventKey, Reg.eventFlag, Reg.eventCount, Reg.eventLastRow, Bool.or_eq_true, Bool.and_eq_true,
      beq_iff_eq]
    exact .inl (.inl (.inl ⟨⟨decide_eq_true (by omega), decide_eq_true (by omega)⟩, by omega⟩))

theorem eventKey_channel {c : Nat} (h : c < 16) : eventKey (Reg.channelState c).key = true := by
  simp only [eventKey, Reg.channelState, Bool.or_eq_true, Bool.and_eq_true, beq_iff_eq]
  exact .inl (.inl (.inr ⟨⟨decide_eq_true (by omega), decide_eq_true (by omega)⟩, by omega⟩))

theorem same_markSource {e : Nat} (h : reservedSource e = false) (d : Dev) : SameButRaise d (d.markSource e) := by
  obtain ⟨h1, h2, h3⟩ := eventKey_event h
  exact ((SameButRaise.set d _ 1 h1).trans (SameButRaise.bump _ _ h2)).trans (SameButRaise.set _ _ _ h3)

theorem same_dmaReady {c : Nat} (h : c < 16) (d : Dev) : SameButRaise d (d.dmaReady c) := by
  unfold Dev.dmaReady
  refine (SameButRaise.set d _ 2 (eventKey_channel h)).trans ?_
  dsimp only
  split
  · constructor <;> first | rfl | (intro r _; rfl)
  · exact SameButRaise.refl _

theorem same_dmaTrigger (e : Nat) (d : Dev) : SameButRaise d (d.dmaTrigger e) := by
  unfold Dev.dmaTrigger
  apply foldl_mem SameButRaise SameButRaise.refl SameButRaise.trans
  intro c hc b
  split
  · exact same_dmaReady (List.mem_range.mp hc) b
  · exact SameButRaise.refl b

theorem same_queueEmergency (d : Dev) (e : Nat) : SameButRaise d (d.queueEmergency e) := by
  unfold Dev.queueEmergency
  split
  · constructor <;> first | rfl | (intro r _; rfl)
  · exact SameButRaise.bump d _ (by decide)

theorem same_raiseBare (d : Dev) (es : List Nat) : SameButRaise d (d.raiseBare es).1 := by
  unfold Dev.raiseBare
  dsimp only
  refine SameButRaise.trans (b := List.foldl Dev.dmaTrigger (List.foldl Dev.markSource d
    (es.filter (fun e => !reservedSource e))) ((es.filter (fun e => !reservedSource e)).filter
      (fun e => !d.on (Reg.eventFlag e)))) ?_ (SameButRaise.foldl _ same_queueEmergency _ _)
  refine SameButRaise.trans ?_ (SameButRaise.foldl _ (fun d e => same_dmaTrigger e d) _ _)
  apply foldl_mem SameButRaise SameButRaise.refl SameButRaise.trans
  intro e he b
  have := (List.mem_filter.mp he).2
  exact same_markSource (by simpa using this) b

theorem same_logPut (d : Dev) (e : List Nat) : SameButRaise d (d.logPut e) := by
  constructor <;> first | rfl | (intro r _; rfl)

theorem same_logDrop (d : Dev) : SameButRaise d d.logDrop := by
  have h0 : SameButRaise d (d.bump Reg.logDropped) := SameButRaise.bump d _ (by decide)
  unfold Dev.logDrop
  refine h0.trans ?_
  dsimp only
  split
  · refine SameButRaise.trans (b := { d.bump Reg.logDropped with
      stor := { (d.bump Reg.logDropped).stor with droppedRead := false } }) ?_ ?_
    · constructor <;> first | rfl | (intro r _; rfl)
    · split
      · exact same_raiseBare _ _
      · split
        · exact (same_raiseBare _ _).trans (same_logPut _ _)
        · exact (same_raiseBare _ _).trans (SameButRaise.bump _ _ (by decide))
  · exact SameButRaise.refl _

theorem same_log (d : Dev) (kind code data : Nat) : SameButRaise d (d.log kind code data) := by
  unfold Dev.log
  split
  · exact same_logPut d _
  · exact same_logDrop d

/-- Everything that raising sources together leaves alone. -/
theorem same_raiseMany (d : Dev) (es : List Nat) : SameButRaise d (d.raiseMany es) := by
  unfold Dev.raiseMany
  split
  · exact (same_raiseBare d es).trans (SameButRaise.foldl _ (fun d e => same_log d _ _ _) _ _)
  · exact SameButRaise.refl d

theorem same_raise (d : Dev) (e : Nat) : SameButRaise d (d.raise e) := same_raiseMany d [e]

theorem same_raiseIf (d : Dev) (c : Bool) (e : Nat) : SameButRaise d (d.raiseIf c e) := by
  unfold Dev.raiseIf; split
  · exact same_raise d e
  · exact SameButRaise.refl d

/-! ## Sources raised in one command -/

/-- The order of frames that fell due together is all that sorting changes. -/
theorem same_sortRaised (d : Dev) (n : Nat) : SameButRaise d (d.sortRaised n) := by
  unfold Dev.sortRaised; constructor <;> first | rfl | (intro r _; rfl)

@[simp] theorem sortRaised_regs (d : Dev) (n : Nat) : (d.sortRaised n).regs = d.regs := rfl
@[simp] theorem sortRaised_reg (d : Dev) (n : Nat) (r : Reg) : (d.sortRaised n).reg r = d.reg r := rfl
@[simp] theorem sortRaised_stor (d : Dev) (n : Nat) : (d.sortRaised n).stor = d.stor := rfl

/-- Frames queued before the command keep their places. -/
theorem sortRaised_take (d : Dev) (n : Nat) (h : n ≤ d.svc.emergencies.length) :
    (d.sortRaised n).svc.emergencies.take n = d.svc.emergencies.take n := by
  have hl : (d.svc.emergencies.take n).length = n := List.length_take_of_le h
  unfold Dev.sortRaised
  dsimp only
  rw [List.take_append_of_le_length (by omega), List.take_take, Nat.min_self]

/-- A command that raises its sources together leaves all that it would leave without the sorting, but for that order. -/
theorem together_same (s t : State) : SameButRaise t.dev (s.together t).dev := same_sortRaised _ _
@[simp] theorem together_mem (s t : State) : (s.together t).mem = t.mem := rfl
@[simp] theorem together_pending (s t : State) : (s.together t).pending = t.pending := rfl
@[simp] theorem together_regs (s t : State) : (s.together t).dev.regs = t.dev.regs := rfl
@[simp] theorem together_reg (s t : State) (r : Reg) : (s.together t).dev.reg r = t.dev.reg r := rfl
@[simp] theorem together_blobs (s t : State) : (s.together t).dev.blobs = t.dev.blobs := rfl
@[simp] theorem together_free (s t : State) : (s.together t).dev.free = t.dev.free := rfl
@[simp] theorem together_pwr (s t : State) : (s.together t).dev.pwr = t.dev.pwr := rfl
@[simp] theorem together_samp (s t : State) : (s.together t).dev.samp = t.dev.samp := rfl
@[simp] theorem together_sup (s t : State) : (s.together t).dev.sup = t.dev.sup := rfl
@[simp] theorem together_bal (s t : State) : (s.together t).dev.bal = t.dev.bal := rfl
@[simp] theorem together_link (s t : State) : (s.together t).dev.link = t.dev.link := rfl
@[simp] theorem together_chain (s t : State) : (s.together t).dev.chain = t.dev.chain := rfl
@[simp] theorem together_ctl (s t : State) : (s.together t).dev.ctl = t.dev.ctl := rfl
@[simp] theorem together_conv (s t : State) : (s.together t).dev.conv = t.dev.conv := rfl
@[simp] theorem together_path (s t : State) : (s.together t).dev.path = t.dev.path := rfl
@[simp] theorem together_pd (s t : State) : (s.together t).dev.pd = t.dev.pd := rfl
@[simp] theorem together_safe (s t : State) : (s.together t).dev.safe = t.dev.safe := rfl
@[simp] theorem together_stor (s t : State) : (s.together t).dev.stor = t.dev.stor := rfl

end Sys2Proof.Machine
end

