-- ==== Sys2Proof/Laws/Flag.lean ====
section
/-! SUPPORT. A raised source reads raised: its flag is 1 afterwards, whatever was raised with it. -/

namespace Sys2Proof.Machine

/-- The flag of source `e` is set. -/
def FlagSet (e : Nat) (d : Dev) : Prop := d.reg (Reg.eventFlag e) = 1

theorem FlagSet.set {e : Nat} {d : Dev} (h : FlagSet e d) {r : Reg} (v : Int) (hr : (Reg.eventFlag e).key ≠ r.key) :
    FlagSet e (d.set r v) := by unfold FlagSet; rw [Dev.reg_set_ne hr]; exact h

theorem FlagSet.bump {e : Nat} {d : Dev} (h : FlagSet e d) {r : Reg} (hr : (Reg.eventFlag e).key ≠ r.key) :
    FlagSet e (d.bump r) := by unfold FlagSet; rw [Dev.reg_bump_ne hr]; exact h

theorem FlagSet.foldl {α : Type} {e : Nat} (f : Dev → α → Dev) (hf : ∀ d a, FlagSet e d → FlagSet e (f d a)) :
    ∀ (l : List α) (d : Dev), FlagSet e d → FlagSet e (l.foldl f d)
  | [], _, h => h
  | a :: t, d, h => FlagSet.foldl f hf t (f d a) (hf d a h)

theorem FlagSet.markSource {e : Nat} {d : Dev} (q : Nat) (h : FlagSet e d ∨ q = e) : FlagSet e (d.markSource q) := by
  unfold Dev.markSource Dev.setNat
  apply FlagSet.set
  · apply FlagSet.bump
    · by_cases hq : q = e
      · subst hq; exact Dev.reg_set_self _ _ _
      · refine FlagSet.set (h.resolve_right hq) _ ?_
        simp only [Reg.eventFlag]; omega
    · simp only [Reg.eventFlag, Reg.eventCount]; omega
  · simp only [Reg.eventFlag, Reg.eventLastRow]; omega

theorem FlagSet.dmaReady {e : Nat} {d : Dev} (c : Nat) (h : FlagSet e d) : FlagSet e (d.dmaReady c) := by
  unfold Dev.dmaReady
  have : FlagSet e (d.set (Reg.channelState c) 2) := by
    apply FlagSet.set h
    simp only [Reg.eventFlag, Reg.channelState]; omega
  dsimp only
  split
  · exact this
  · exact this

theorem FlagSet.dmaTrigger {e : Nat} {d : Dev} (q : Nat) (h : FlagSet e d) : FlagSet e (d.dmaTrigger q) := by
  unfold Dev.dmaTrigger
  refine FlagSet.foldl _ ?_ _ _ h
  intro d c h
  split
  · exact FlagSet.dmaReady c h
  · exact h

theorem FlagSet.queueEmergency {e : Nat} {d : Dev} (he : e < 128) (q : Nat) (h : FlagSet e d) :
    FlagSet e (d.queueEmergency q) := by
  unfold Dev.queueEmergency
  split
  · exact h
  · apply FlagSet.bump h
    simp only [Reg.eventFlag, Reg.emergencyDropped]; omega

theorem FlagSet.marks {e : Nat} : ∀ (l : List Nat) (d : Dev), FlagSet e d ∨ e ∈ l → FlagSet e (l.foldl Dev.markSource d)
  | [], d, h => by simpa using h
  | a :: t, d, h => by
    apply FlagSet.marks t
    by_cases ha : a = e
    · exact .inl (FlagSet.markSource a (.inr ha))
    · rcases h with h | h
      · exact .inl (FlagSet.markSource a (.inl h))
      · right; simpa [Ne.symm ha] using h

theorem FlagSet.raiseBare {e : Nat} {d : Dev} (he : e < 128) (es : List Nat)
    (h : FlagSet e d ∨ (e ∈ es ∧ reservedSource e = false)) : FlagSet e (d.raiseBare es).1 := by
  unfold Dev.raiseBare
  dsimp only
  refine FlagSet.foldl _ (fun d a h => FlagSet.queueEmergency he a h) _ _ ?_
  refine FlagSet.foldl _ (fun d a h => FlagSet.dmaTrigger a h) _ _ ?_
  apply FlagSet.marks
  rcases h with h | ⟨h1, h2⟩
  · exact .inl h
  · right; simp [h1, h2]

theorem FlagSet.log {e : Nat} {d : Dev} (he : e < 128) (k c x : Nat) (h : FlagSet e d) : FlagSet e (d.log k c x) := by
  unfold Dev.log
  split
  · exact h
  · unfold Dev.logDrop
    have hn : (Reg.eventFlag e).key ≠ Reg.logDropped.key := by simp only [Reg.eventFlag, Reg.logDropped]; omega
    have h0 : FlagSet e (d.bump Reg.logDropped) := FlagSet.bump h hn
    dsimp only
    split
    · have h1 : FlagSet e (({ d.bump Reg.logDropped with
        stor := { (d.bump Reg.logDropped).stor with droppedRead := false } } : Dev).raiseBare [117]).1 :=
          FlagSet.raiseBare he _ (.inl h0)
      split
      · exact h1
      · split
        · exact h1
        · exact FlagSet.bump h1 hn
    · exact h0

/-- Sources raised together all read raised, while the CPU runs. -/
theorem raiseMany_flag {d : Dev} (hc : d.cpuLive = true) {e : Nat} (es : List Nat) (hm : e ∈ es)
    (hr : reservedSource e = false) : (d.raiseMany es).reg (Reg.eventFlag e) = 1 := by
  have he : e < 128 := by
    simp only [reservedSource, Bool.or_eq_false_iff, decide_eq_false_iff_not] at hr; omega
  show FlagSet e (d.raiseMany es)
  unfold Dev.raiseMany
  rw [if_pos hc]
  exact FlagSet.foldl _ (fun d a h => FlagSet.log he _ _ _ h) _ _ (FlagSet.raiseBare he es (.inr ⟨hm, hr⟩))

theorem raise_flag {d : Dev} (hc : d.cpuLive = true) {e : Nat} (hr : reservedSource e = false) :
    (d.raise e).reg (Reg.eventFlag e) = 1 := raiseMany_flag hc [e] (List.mem_singleton.mpr rfl) hr

/-- A raised flag stays raised under a further raise. -/
theorem raiseMany_flag_kept {d : Dev} {e : Nat} (he : e < 128) (es : List Nat) (h : d.reg (Reg.eventFlag e) = 1) :
    (d.raiseMany es).reg (Reg.eventFlag e) = 1 := by
  show FlagSet e (d.raiseMany es)
  unfold Dev.raiseMany
  split
  · exact FlagSet.foldl _ (fun d a h => FlagSet.log he _ _ _ h) _ _ (FlagSet.raiseBare he es (.inl h))
  · exact h

end Sys2Proof.Machine
end

