-- ==== Sys2Proof/Laws/Request.lean ====
section
/-! SUPPORT. What taking and answering a request leaves alone, and what a write of one object comes to: the effect of the
write on the device, and the answer around it. -/

namespace Sys2Proof.Machine

/-- Two devices agree on everything that the object service's own bookkeeping leaves alone. -/
structure SameService (d d' : Dev) : Prop where
  reg : ∀ r : Reg, answerKey r.key = false → d'.reg r = d.reg r
  blobs : d'.blobs = d.blobs
  free : d'.free = d.free
  pwr : d'.pwr = d.pwr
  snaps : d'.snaps = d.snaps
  samp : d'.samp = d.samp
  sup : d'.sup = d.sup
  bal : d'.bal = d.bal
  chain : d'.chain = d.chain
  ctl : d'.ctl = d.ctl
  stor : d'.stor = d.stor
  conv : d'.conv = d.conv
  path : d'.path = d.path
  pd : d'.pd = d.pd
  safe : d'.safe = d.safe
  link : { d'.link with upResponse := none } = { d.link with upResponse := none }
  code : d'.svc.code = d.svc.code
  codeLocked : d'.svc.codeLocked = d.svc.codeLocked
  wrongInRow : d'.svc.wrongInRow = d.svc.wrongInRow
  unlockUsed : d'.svc.unlockUsed = d.svc.unlockUsed
  pubStart : d'.svc.pubStart = d.svc.pubStart
  pubLatches : d'.svc.pubLatches = d.svc.pubLatches
  emergencies : d'.svc.emergencies = d.svc.emergencies
  requests : d'.svc.requests = d.svc.requests

namespace SameService

theorem refl (d : Dev) : SameService d d := by constructor <;> first | rfl | (intro r _; rfl)

theorem trans {a b c : Dev} (h : SameService a b) (k : SameService b c) : SameService a c := by
  constructor
  · intro r hr; rw [k.reg r hr, h.reg r hr]
  all_goals (first
    | rw [k.blobs, h.blobs] | rw [k.free, h.free] | rw [k.pwr, h.pwr] | rw [k.snaps, h.snaps] | rw [k.samp, h.samp]
    | rw [k.sup, h.sup] | rw [k.bal, h.bal] | rw [k.link, h.link] | rw [k.chain, h.chain] | rw [k.ctl, h.ctl]
    | rw [k.stor, h.stor] | rw [k.conv, h.conv] | rw [k.path, h.path] | rw [k.pd, h.pd] | rw [k.safe, h.safe]
    | rw [k.codeLocked, h.codeLocked] | rw [k.code, h.code] | rw [k.wrongInRow, h.wrongInRow]
    | rw [k.unlockUsed, h.unlockUsed] | rw [k.pubStart, h.pubStart] | rw [k.pubLatches, h.pubLatches]
    | rw [k.emergencies, h.emergencies] | rw [k.requests, h.requests])

theorem set (d : Dev) (r : Reg) (v : Int) (h : answerKey r.key = true) : SameService d (d.set r v) := by
  constructor
  · intro q hq
    refine Dev.reg_set_ne ?_ d v
    intro e; rw [e, h] at hq; exact Bool.noConfusion hq
  all_goals rfl

theorem bump (d : Dev) (r : Reg) (h : answerKey r.key = true) : SameService d (d.bump r) := by
  unfold Dev.bump; split
  · exact set d r _ h
  · exact refl d

theorem setChannel (d : Dev) (who : Requester) (c : Channel) : SameService d (d.setChannel who c) := by
  unfold Dev.setChannel
  cases who <;> (constructor <;> first | rfl | (intro r _; rfl))

theorem acceptFrame (d : Dev) (who : Requester) : SameService d (d.acceptFrame who) := by
  unfold Dev.acceptFrame
  split
  · refine (bump d Reg.spiFramesAccepted (by decide)).trans ?_
    constructor <;> first | rfl | (intro r _; rfl) | (simp only [Dev.bump_svc])
  · exact refl d

theorem countAbort (d : Dev) (m : List Nat) : SameService d (d.countAbort m) := by
  unfold Dev.countAbort
  split
  · exact (bump d _ (by decide)).trans (set _ _ _ (by decide))
  · exact refl d

theorem sendService (d : Dev) (b : Bool) (m : List Nat) : SameService d (d.sendService b m) := by
  unfold Dev.sendService Dev.sendCan
  cases b <;> (constructor <;> first | rfl | (intro r _; rfl))

theorem sendFloat (d : Dev) (m : List Nat) : SameService d (d.sendFloat m) := by
  unfold Dev.sendFloat Dev.refreshFloat
  refine trans (b := { d with
    svc := { d.svc with agentAnswer := frameContent 2 (d.svc.agentSeq.getD 0) m }
    link := { d.link with upResponse := some (frameContent 2 (d.svc.agentSeq.getD 0) m) } }) ?_ ?_
  · constructor <;> first | rfl | (intro r _; rfl)
  · exact set _ _ _ (by decide)

theorem sendOn (d : Dev) (who : Requester) (m : List Nat) : SameService d (d.sendOn who m) := by
  cases who
  · exact ((countAbort d m).trans (sendService _ false m)).trans (setChannel ((d.countAbort m).sendService false m) .canA _)
  · exact ((countAbort d m).trans (sendService _ true m)).trans (setChannel ((d.countAbort m).sendService true m) .canB _)
  · refine ((countAbort d m).trans ?_).trans (setChannel (({ d.countAbort m with
      svc := { (d.countAbort m).svc with spiResponse := some (0x21, m) } }) : Dev) .spi _)
    constructor <;> first | rfl | (intro r _; rfl)
  · exact sendFloat d m
  · exact refl d

theorem answer (d : Dev) (who : Requester) (m : List Nat) : SameService d (d.answer who m) := by
  unfold Dev.answer
  refine trans ?_ (sendOn _ who m)
  refine trans ?_ (setChannel _ who _)
  split
  · exact bump d _ (by decide)
  · exact refl d

theorem rights {d d' : Dev} (h : SameService d d') (who : Requester) : d'.rights who = d.rights who := by
  have h1 : d'.reg Reg.commissioningState = d.reg Reg.commissioningState := h.reg _ (by decide)
  have h2 : d'.reg Reg.safetyUnlockState = d.reg Reg.safetyUnlockState := h.reg _ (by decide)
  cases who <;> simp only [Dev.rights, Dev.channelRights, Dev.nat, Dev.on, h1, h2]

theorem crossingFails {d d' : Dev} (h : SameService d d') (b : Bool) (i : Nat) :
    d'.crossingFails b i = d.crossingFails b i := by
  simp only [Dev.crossingFails, Dev.monReachable, h.pwr]

theorem nat {d d' : Dev} (h : SameService d d') (r : Reg) (hr : answerKey r.key = false) : d'.nat r = d.nat r := by
  simp only [Dev.nat, h.reg r hr]

end SameService

/-- The device that serves a request: the SPI frame accepted, a finished transfer of the channel over. -/
def Dev.entered (d : Dev) (who : Requester) : Dev :=
  let d := d.acceptFrame who
  if (d.transfer who).finished then d.setTransfer who .idle else d

theorem same_entered (d : Dev) (who : Requester) : SameService d (d.entered who) := by
  unfold Dev.entered
  dsimp only
  split
  · exact (SameService.acceptFrame d who).trans (SameService.setChannel _ _ _)
  · exact SameService.acceptFrame d who

/-- What a Write comes to: the write itself on the device that serves it, then the answer. -/
theorem hostWrite_eq {s : State} {who : Requester} (h : Accepts s who) (i sub : Nat) (b : List Nat)
    (hk : i * 256 + sub ≠ Reg.softReset.key) :
    s.hostWrite who i sub b = s.onDev (fun d =>
      let r := (⟨1, i, sub, .write b⟩ : Ask).written (byAgent who)
        ((d.entered who).writeFixed (byAgent who) (d.rights who) i sub b)
      r.2.answer who r.1) := by
  obtain ⟨h1, h2⟩ := h
  unfold State.hostWrite State.request
  have hs : (⟨1, i, sub, .write b⟩ : Ask).softResets = false := by
    simp only [Ask.softResets, Ask.key]
    have : (i * 256 + sub == Reg.softReset.key) = false := by simpa using hk
    rw [this]; rfl
  dsimp only
  rw [hs]
  simp only [Bool.false_and, Bool.false_eq_true, if_false]
  unfold State.onDev
  congr 1
  unfold Dev.request
  dsimp only
  rw [h1, h2]
  have e1 : (Op.write b == Op.clientAbort) = false := rfl
  simp only [Bool.not_true, Bool.false_eq_true, if_false, e1, Bool.false_and]
  unfold Dev.serve
  have e2 : (!isHost who || decide ((1:Nat) ≤ 1)) = true := by simp
  rw [if_pos e2]
  have hr : (s.dev.entered who).rights who = s.dev.rights who := (same_entered s.dev who).rights who
  rw [← hr]
  rfl

/-- A Write that is accepted: the effect `d1` of the write itself, and the answer, which leaves all else alone. -/
theorem write_done {s : State} {who : Requester} {r : Reg} {v : Int} {d1 : Dev} (h : Accepts s who)
    (hk : r.key ≠ Reg.softReset.key)
    (hw : (s.dev.entered who).writeFixed (byAgent who) (s.dev.rights who) (r.key / 256) (r.key % 256) (objectBytes r v)
      = .ok d1) :
    (s.writeObject who r v).mem = s.mem ∧ (s.writeObject who r v).pending = s.pending
      ∧ SameService d1 (s.writeObject who r v).dev := by
  have hk' : r.key / 256 * 256 + r.key % 256 ≠ Reg.softReset.key := by
    rw [Nat.div_add_mod']; exact hk
  unfold State.writeObject
  rw [hostWrite_eq h _ _ _ hk']
  refine ⟨rfl, rfl, ?_⟩
  simp only [State.onDev_dev, hw, Ask.written]
  exact SameService.answer _ _ _

end Sys2Proof.Machine
end

