-- ==== Sys2Proof/Laws/Out.lean ====
section
/-! SUPPORT. Which registers an operation leaves alone: `Out p d e` says that every register whose key `p` does not admit
reads in `e` as in `d`. One lemma per named operation, so that a frame is read off a definition's shape. -/

namespace Sys2Proof.Machine

/-- Registers outside `p` read in `e` as in `d`. -/
def Out (p : Nat → Bool) (d e : Dev) : Prop := ∀ r : Reg, p r.key = false → e.reg r = d.reg r

namespace Out

variable {p : Nat → Bool} {d e f : Dev}

theorem refl (d : Dev) : Out p d d := fun _ _ => rfl
theorem trans (h : Out p d e) (k : Out p e f) : Out p d f := fun r hr => (k r hr).trans (h r hr)
/-- A change of anything but the register file. -/
theorem of_regs (h : Out p d e) (hr : f.regs = e.regs) : Out p d f := fun r hp => by
  unfold Dev.reg; rw [hr]; exact h r hp
theorem set (h : Out p d e) (r : Reg) (v : Int) (hp : p r.key = true) : Out p d (e.set r v) := fun q hq => by
  rw [Dev.reg_set_ne _ e v]
  · exact h q hq
  · intro k; rw [k, hp] at hq; exact Bool.noConfusion hq
theorem setNat (h : Out p d e) (r : Reg) (v : Nat) (hp : p r.key = true) : Out p d (e.setNat r v) := set h r _ hp
theorem setBool (h : Out p d e) (r : Reg) (b : Bool) (hp : p r.key = true) : Out p d (e.setBool r b) := set h r _ hp
theorem setBit (h : Out p d e) (r : Reg) (n : Nat) (b : Bool) (hp : p r.key = true) : Out p d (e.setBit r n b) := set h r _ hp
theorem orBits (h : Out p d e) (r : Reg) (m : Nat) (hp : p r.key = true) : Out p d (e.orBits r m) := set h r _ hp
theorem andNot (h : Out p d e) (r : Reg) (m : Nat) (hp : p r.key = true) : Out p d (e.andNot r m) := set h r _ hp
theorem bumpBy (h : Out p d e) (r : Reg) (n : Nat) (hp : p r.key = true) : Out p d (e.bumpBy r n) := set h r _ hp
theorem bump (h : Out p d e) (r : Reg) (hp : p r.key = true) : Out p d (e.bump r) := by
  unfold Dev.bump; split
  · exact set h r _ hp
  · exact h
theorem setBlob (h : Out p d e) (k : Nat) (v : List Nat) : Out p d (e.setBlob k v) := of_regs h rfl
theorem setPwr (h : Out p d e) (g : Power → Power) : Out p d (e.setPwr g) := of_regs h rfl
theorem ite (b : Prop) [Decidable b] (h : Out p d e) (k : Out p d f) : Out p d (if b then e else f) := by
  split
  · exact h
  · exact k
theorem foldl {α : Type} (g : Dev → α → Dev) (hg : ∀ d a, Out p d (g d a)) (l : List α) (h : Out p d e) :
    Out p d (l.foldl g e) := by
  induction l generalizing e with
  | nil => exact h
  | cons a t ih => exact ih (h.trans (hg e a))
theorem mono {q : Nat → Bool} (h : Out p d e) (hpq : ∀ k, p k = true → q k = true) : Out q d e := fun r hr => by
  apply h
  cases hp : p r.key
  · rfl
  · rw [hpq _ hp] at hr; exact Bool.noConfusion hr
theorem raiseMany (h : Out p d e) (es : List Nat) (hp : ∀ k, eventKey k = true → p k = true) : Out p d (e.raiseMany es) :=
  h.trans (mono (fun r hr => (same_raiseMany e es).reg r hr) hp)
theorem raise (h : Out p d e) (n : Nat) (hp : ∀ k, eventKey k = true → p k = true) : Out p d (e.raise n) :=
  raiseMany h [n] hp
theorem raiseIf (h : Out p d e) (b : Bool) (n : Nat) (hp : ∀ k, eventKey k = true → p k = true) : Out p d (e.raiseIf b n) := by
  unfold Dev.raiseIf; split
  · exact raise h n hp
  · exact h
theorem log (h : Out p d e) (a b c : Nat) (hp : ∀ k, eventKey k = true → p k = true) : Out p d (e.log a b c) :=
  h.trans (mono (fun r hr => (same_log e a b c).reg r hr) hp)
theorem reg (h : Out p d e) {r : Reg} (hr : p r.key = false) : e.reg r = d.reg r := h r hr
theorem nat (h : Out p d e) {r : Reg} (hr : p r.key = false) : e.nat r = d.nat r := by unfold Dev.nat; rw [h r hr]
theorem on (h : Out p d e) {r : Reg} (hr : p r.key = false) : e.on r = d.on r := by unfold Dev.on; rw [h r hr]
theorem bit (h : Out p d e) {r : Reg} (n : Nat) (hr : p r.key = false) : e.bit r n = d.bit r n := by
  unfold Dev.bit; rw [h.nat hr]

end Out

theorem orEvents_event (l : List Reg) : ∀ k, eventKey k = true → orEvents l k = true := by
  intro k hk; unfold orEvents; rw [hk]; simp

end Sys2Proof.Machine
end

