-- ==== Sys2Proof/Laws/KeepAlive.lean ====
section
/-! SUPPORT. The KA island: what raising one of its sources does with the CPU on and off, and how the charger's seconds add up. -/

namespace Sys2Proof.Machine

/-- While the CPU runs a source of the KA island is raised as any other. -/
theorem raiseKa_live {d : Dev} (h : d.cpuLive = true) (e : Nat) : d.raiseKa e = d.raise e := by
  unfold Dev.raiseKa; rw [if_pos h]

/-- While the CPU does not run the source waits, and no register changes. -/
theorem raiseKa_waits {d : Dev} (h : d.cpuLive = false) (e : Nat) :
    (d.raiseKa e).path.kaWaiting.contains e = true ∧ (d.raiseKa e).regs = d.regs ∧ (d.raiseKa e).pwr = d.pwr := by
  unfold Dev.raiseKa; rw [if_neg (by rw [h]; decide)]
  split
  · exact ⟨‹_›, rfl, rfl⟩
  · exact ⟨by simp, rfl, rfl⟩

theorem raiseKa_out (d : Dev) (e : Nat) : Out (orEvents []) d (d.raiseKa e) := by
  unfold Dev.raiseKa; split
  · exact Out.raise (Out.refl d) e (orEvents_event _)
  · split
    · exact Out.refl d
    · exact Out.of_regs (Out.refl d) rfl

/-- Seconds of the charger add up, whatever spans the commands name (R331). -/
theorem nimhSeconds_add (mv : Nat) : ∀ (m n : Nat) (d : Dev),
    d.nimhSeconds mv (m + n) = (d.nimhSeconds mv m).nimhSeconds mv n
  | 0, n, d => by rw [Nat.zero_add]; rfl
  | m + 1, n, d => by rw [Nat.succ_add]; exact nimhSeconds_add mv m n (d.nimhDrive mv)

end Sys2Proof.Machine
end

