-- ==== Sys2Proof/Laws/Memory.lean ====
section
/-! SUPPORT. SRAM bytes: every operation keeps the canonical form, a read after a write gives what was written, and other
bytes stay. -/

namespace Sys2Proof.Machine

theorem memAbove_drop {k a : Nat} {m : List Host.Cell} (h : memAbove k m = true) (hm : Memory.wf m = true) :
    memAbove k (memDrop a m) = true := by
  cases m with
  | nil => rfl
  | cons e t =>
    obtain ⟨j, b⟩ := e
    simp only [memAbove, decide_eq_true_eq] at h
    simp only [memDrop]
    split
    · cases t with
      | nil => rfl
      | cons e' t' =>
        obtain ⟨j', b'⟩ := e'
        simp only [Memory.wf, memAbove, Bool.and_eq_true, decide_eq_true_eq] at hm
        simp only [memAbove, decide_eq_true_eq]; omega
    · simp [memAbove, h]

theorem Memory.wf_drop (a : Nat) : ∀ {m : List Host.Cell}, Memory.wf m = true → Memory.wf (memDrop a m) = true
  | [], _ => rfl
  | (k, b) :: t, h => by
    simp only [Memory.wf, Bool.and_eq_true] at h
    simp only [memDrop]
    split
    · exact h.2
    · simp only [Memory.wf, Bool.and_eq_true]
      exact ⟨⟨h.1.1, memAbove_drop h.1.2 h.2⟩, Memory.wf_drop a h.2⟩

theorem memAbove_put {k a : Nat} {v : BitVec 8} {m : List Host.Cell} (h : memAbove k m = true) (ha : k < a) :
    memAbove k (memPut a v m) = true := by
  cases m with
  | nil => simp [memPut, memAbove, ha]
  | cons e t =>
    obtain ⟨j, b⟩ := e
    simp only [memAbove, decide_eq_true_eq] at h
    simp only [memPut]
    split
    · simp [memAbove, ha]
    · split <;> simp [memAbove, h, ha]

theorem Memory.wf_put {a : Nat} {v : BitVec 8} (hv : v ≠ 0) :
    ∀ {m : List Host.Cell}, Memory.wf m = true → Memory.wf (memPut a v m) = true
  | [], _ => by
    have hv' : (v != 0) = true := by simpa using hv
    rw [memPut, Memory.wf, hv']; rfl
  | (k, b) :: t, h => by
    simp only [Memory.wf, Bool.and_eq_true] at h
    simp only [memPut]
    split
    · rename_i hk
      have hv' : (v != 0) = true := by simpa using hv
      have hk' : memAbove a ((k, b) :: t) = true := by simpa [memAbove] using hk
      rw [Memory.wf, hv', hk', Memory.wf, h.1.1, h.1.2, h.2]; rfl
    · split
      · rename_i hk; subst hk
        simp only [Memory.wf, Bool.and_eq_true, bne_iff_ne]
        exact ⟨⟨hv, h.1.2⟩, h.2⟩
      · simp only [Memory.wf, Bool.and_eq_true]
        exact ⟨⟨h.1.1, memAbove_put h.1.2 (by omega)⟩, Memory.wf_put hv h.2⟩

/-- A byte write keeps the canonical form. -/
theorem Memory.wf_write {m : List Host.Cell} (h : Memory.wf m = true) (a : Nat) (v : BitVec 8) :
    Memory.wf (memWrite m a v) = true := by
  unfold memWrite
  split
  · exact Memory.wf_drop a h
  · rename_i hv; exact Memory.wf_put hv h

theorem Memory.wf_writeBytes (bs : List Nat) :
    ∀ {m : List Host.Cell} (a : Nat), Memory.wf m = true → Memory.wf (memWriteBytes m a bs) = true := by
  induction bs with
  | nil => intro m a h; exact h
  | cons b t ih => intro m a h; exact ih (a + 1) (Memory.wf_write h a _)

theorem Memory.wf_writeWord {m : List Host.Cell} (h : Memory.wf m = true) (a v : Nat) :
    Memory.wf (memWriteWord m a v) = true := Memory.wf_writeBytes _ a h

theorem memRead_of_above {a k : Nat} : ∀ {m : List Host.Cell}, memAbove k m = true → Memory.wf m = true → a ≤ k →
    memRead a m = 0
  | [], _, _, _ => rfl
  | (j, b) :: t, h, hm, ha => by
    simp only [memAbove, decide_eq_true_eq] at h
    simp only [Memory.wf, Bool.and_eq_true] at hm
    have hj : j ≠ a := by omega
    simp only [memRead, hj, if_false]
    exact memRead_of_above hm.1.2 hm.2 (by omega)

theorem memRead_drop_self (a : Nat) : ∀ {m : List Host.Cell}, Memory.wf m = true → memRead a (memDrop a m) = 0
  | [], _ => rfl
  | (k, b) :: t, h => by
    simp only [Memory.wf, Bool.and_eq_true] at h
    simp only [memDrop]
    split
    · rename_i hk; subst hk; exact memRead_of_above h.1.2 h.2 (Nat.le_refl _)
    · rename_i hk
      simp only [memRead, hk, if_false]
      exact memRead_drop_self a h.2

theorem memRead_drop_ne {a c : Nat} (hc : c ≠ a) : ∀ (m : List Host.Cell), memRead c (memDrop a m) = memRead c m
  | [] => rfl
  | (k, b) :: t => by
    simp only [memDrop]
    split
    · rename_i hk; subst hk; simp [memRead, Ne.symm hc]
    · simp only [memRead]; split
      · rfl
      · exact memRead_drop_ne hc t

theorem memRead_put_self (a : Nat) (v : BitVec 8) : ∀ (m : List Host.Cell), memRead a (memPut a v m) = v
  | [] => by simp [memPut, memRead]
  | (k, b) :: t => by
    simp only [memPut]
    split
    · simp [memRead]
    · split
      · simp [memRead]
      · rename_i hk; simp only [memRead, hk, if_false]; exact memRead_put_self a v t

theorem memRead_put_ne {a c : Nat} (hc : c ≠ a) (v : BitVec 8) :
    ∀ (m : List Host.Cell), memRead c (memPut a v m) = memRead c m
  | [] => by simp [memPut, memRead, Ne.symm hc]
  | (k, b) :: t => by
    simp only [memPut]
    split
    · simp [memRead, Ne.symm hc]
    · split
      · rename_i hk; subst hk; simp [memRead, Ne.symm hc]
      · simp only [memRead]; split
        · rfl
        · exact memRead_put_ne hc v t

/-- A read after a write of the byte. -/
theorem memRead_write_self {m : List Host.Cell} (h : Memory.wf m = true) (a : Nat) (v : BitVec 8) :
    memRead a (memWrite m a v) = v := by
  unfold memWrite
  split
  · rename_i hv; rw [hv]; exact memRead_drop_self a h
  · exact memRead_put_self a v m

/-- A write leaves every other byte. -/
theorem memRead_write_ne {a c : Nat} (hc : c ≠ a) (m : List Host.Cell) (v : BitVec 8) :
    memRead c (memWrite m a v) = memRead c m := by
  unfold memWrite
  split
  · exact memRead_drop_ne hc m
  · exact memRead_put_ne hc v m

/-- Bytes outside the written ones stay. -/
theorem memRead_writeBytes_out (bs : List Nat) : ∀ {m : List Host.Cell} {a c : Nat}, (c < a ∨ a + bs.length ≤ c) →
    memRead c (memWriteBytes m a bs) = memRead c m := by
  induction bs with
  | nil => intro m a c _; rfl
  | cons b t ih =>
    intro m a c h
    simp only [List.length_cons] at h
    simp only [memWriteBytes]
    rw [ih (by omega), memRead_write_ne (by omega)]

end Sys2Proof.Machine
end

