-- ==== Sys2Proof/Laws/Port.lean ====
section
/-! SUPPORT. The USB-C port's shared operations: what a change of the port's own state leaves alone, and when a Hard Reset acts. -/

namespace Sys2Proof.Machine

@[simp] theorem setPd_regs (d : Dev) (f : Pd → Pd) : (d.setPd f).regs = d.regs := rfl
@[simp] theorem setPd_reg (d : Dev) (f : Pd → Pd) (r : Reg) : (d.setPd f).reg r = d.reg r := rfl
@[simp] theorem setPd_pd (d : Dev) (f : Pd → Pd) : (d.setPd f).pd = f d.pd := rfl
@[simp] theorem setPd_path (d : Dev) (f : Pd → Pd) : (d.setPd f).path = d.path := rfl
@[simp] theorem setPd_conv (d : Dev) (f : Pd → Pd) : (d.setPd f).conv = d.conv := rfl
@[simp] theorem setPd_blobs (d : Dev) (f : Pd → Pd) : (d.setPd f).blobs = d.blobs := rfl
@[simp] theorem send_regs (d : Dev) (m : PdMessage) : (d.send m).regs = d.regs := rfl
@[simp] theorem send_reg (d : Dev) (m : PdMessage) (r : Reg) : (d.send m).reg r = d.reg r := rfl
@[simp] theorem send_sent (d : Dev) (m : PdMessage) : (d.send m).pd.sent = some m := rfl
@[simp] theorem send_path (d : Dev) (m : PdMessage) : (d.send m).path = d.path := rfl

/-- A Hard Reset acts on a running policy engine with a partner whose sourcing is not ending, and on nothing else. -/
theorem doHardReset_idle {d : Dev} (why : HardResetWhy)
    (h : d.portRuns = false ∨ d.pd.policy = false ∨ (d.pdState ≠ 5 ∧ d.pdState ≠ 6) ∨ d.sourcingEnded = true) :
    d.doHardReset why = d := by
  unfold Dev.doHardReset
  rcases h with h | h | ⟨h5, h6⟩ | h <;> simp [*]

/-- BIST Carrier Mode changes nothing but the message sent. -/
theorem bistCarrier_regs (d : Dev) : d.bistCarrier.regs = d.regs := by
  unfold Dev.bistCarrier
  split
  · rfl
  · split
    · rfl
    · split <;> rfl

/-- The implicit contract writes the five registers of a contract only. -/
theorem implicitContract_out (d : Dev) : Out (these [Reg.contractState, Reg.contractVoltage, Reg.contractCurrent,
    Reg.contractPdoType, Reg.contractPdoPosition]) d d.implicitContract := by
  unfold Dev.implicitContract
  refine Out.set (Out.set (Out.set (Out.set (Out.set (Out.refl d) _ _ ?_) _ _ ?_) _ _ ?_) _ _ ?_) _ _ ?_ <;> decide

end Sys2Proof.Machine
end

