-- ==== Sys2Proof/Laws/Power.lean ====
section
/-! SUPPORT. Supplies, resets and the safety block's shared operations: what each reads afterwards and which registers it
leaves alone. -/

namespace Sys2Proof.Machine

/-! ## SupplyStatus -/

theorem supplySum_testBit : ∀ a b c d e f g h : Bool,
    let n := (if a then 1 else 0) + (if b then 2 else 0) + (if c then 4 else 0) + (if d then 8 else 0)
      + (if e then 16 else 0) + (if f then 32 else 0) + (if g then 64 else 0) + (if h then 128 else 0)
    (n.testBit 0 = a ∧ n.testBit 1 = b ∧ n.testBit 2 = c ∧ n.testBit 3 = d) ∧
    (n.testBit 4 = e ∧ n.testBit 5 = f ∧ n.testBit 6 = g ∧ n.testBit 7 = h) := by decide

theorem refreshSupply_nat (d : Dev) : d.refreshSupply.nat Reg.supplyStatus =
    (if d.pwr.vstk then 1 else 0) + (if d.pwr.vlog then 2 else 0) + (if d.pwr.vlogLow then 4 else 0)
      + (if d.pwr.vio then 8 else 0) + (if decide (2400 ≤ d.pwr.kaBatMv) = true then 16 else 0)
      + (if d.pwr.ka == .kaBat then 32 else 0) + (if d.pwr.crystal then 64 else 0) + (if d.pwr.monLocked then 128 else 0) := by
  unfold Dev.refreshSupply; rw [Dev.nat_setNat_self]; simp only [decide_eq_true_eq]

/-- SupplyStatus after a refresh, bit by bit. -/
theorem refreshSupply_bits (d : Dev) :
    (d.refreshSupply.bit Reg.supplyStatus 0 = d.pwr.vstk ∧ d.refreshSupply.bit Reg.supplyStatus 1 = d.pwr.vlog
      ∧ d.refreshSupply.bit Reg.supplyStatus 2 = d.pwr.vlogLow ∧ d.refreshSupply.bit Reg.supplyStatus 3 = d.pwr.vio)
    ∧ (d.refreshSupply.bit Reg.supplyStatus 4 = decide (2400 ≤ d.pwr.kaBatMv)
      ∧ d.refreshSupply.bit Reg.supplyStatus 5 = (d.pwr.ka == .kaBat)
      ∧ d.refreshSupply.bit Reg.supplyStatus 6 = d.pwr.crystal ∧ d.refreshSupply.bit Reg.supplyStatus 7 = d.pwr.monLocked) := by
  unfold Dev.bit; rw [refreshSupply_nat]
  exact supplySum_testBit d.pwr.vstk d.pwr.vlog d.pwr.vlogLow d.pwr.vio _ _ d.pwr.crystal d.pwr.monLocked

theorem refreshSupply_out (d : Dev) : Out (these [Reg.supplyStatus]) d d.refreshSupply := by
  unfold Dev.refreshSupply; exact Out.setNat (Out.refl d) _ _ (by decide)
@[simp] theorem refreshSupply_pwr (d : Dev) : d.refreshSupply.pwr = d.pwr := rfl
@[simp] theorem setPwr_pwr (d : Dev) (f : Power → Power) : (d.setPwr f).pwr = f d.pwr := rfl
@[simp] theorem setPwr_regs (d : Dev) (f : Power → Power) : (d.setPwr f).regs = d.regs := rfl
@[simp] theorem setPwr_reg (d : Dev) (f : Power → Power) (r : Reg) : (d.setPwr f).reg r = d.reg r := rfl

theorem refreshKaOut_out (d : Dev) : Out (these [Reg.kaOutState]) d d.refreshKaOut := by
  unfold Dev.refreshKaOut; dsimp only; split
  · exact Out.refl d
  · split
    · exact Out.refl d
    · exact Out.setNat (Out.refl d) _ _ (by decide)
@[simp] theorem refreshKaOut_pwr (d : Dev) : d.refreshKaOut.pwr = d.pwr := by
  unfold Dev.refreshKaOut; dsimp only; split
  · rfl
  · split <;> rfl
@[simp] theorem refreshKaOut_blobs (d : Dev) : d.refreshKaOut.blobs = d.blobs := by
  unfold Dev.refreshKaOut; dsimp only; split
  · rfl
  · split <;> rfl
@[simp] theorem refreshKaOut_path (d : Dev) : d.refreshKaOut.path = d.path := by
  unfold Dev.refreshKaOut; dsimp only; split
  · rfl
  · split <;> rfl
@[simp] theorem refreshKaOut_svc (d : Dev) : d.refreshKaOut.svc = d.svc := by
  unfold Dev.refreshKaOut; dsimp only; split
  · rfl
  · split <;> rfl

end Sys2Proof.Machine
end

