-- ==== Sys2Proof/Laws/Storage.lean ====
section
/-! SUPPORT. What a FRAM commit can do (R393 to R395): refused with its cause, complete, or stopped with its journal row set. -/

namespace Sys2Proof.Machine

/-- A refused commit counts, keeps its cause and raises; nothing else. -/
theorem refuseCommit_out (d : Dev) (cause : Nat) :
    Out (orEvents [Reg.commitsRefused, Reg.lastRefusal]) d (d.refuseCommit cause) := by
  unfold Dev.refuseCommit
  exact Out.raise (Out.setNat (Out.bump (Out.refl d) _ (by decide)) _ _ (by decide)) 112 (orEvents_event _)

/-- A refusal leaves FRAM as it was. -/
theorem commit_refused {d : Dev} {run : CommitRun} (h : d.commitCause run.cresMv run.ecc ≠ 0) (pages : List Nat)
    (first count : Nat) (write : Nat → Dev → Dev) :
    d.commit run pages first count write = (d.refuseCommit (d.commitCause run.cresMv run.ecc), .refused) := by
  unfold Dev.commit; simp [h]

/-- A commit that no cause refuses and no fault stops makes all its rows new and leaves no journal row. -/
theorem commit_done {d : Dev} {run : CommitRun} (h : d.commitCause run.cresMv run.ecc = 0) (hs : run.stop = none)
    (pages : List Nat) (first count : Nat) (write : Nat → Dev → Dev) :
    (d.commit run pages first count write).2 = .done
      ∧ (d.commit run pages first count write).1.stor.journal = none
      ∧ (d.commit run pages first count write).1.stor.commitSeq = (d.stor.commitSeq + 1) % 2 ^ 32 := by
  unfold Dev.commit; simp [h, hs]

/-- A commit that a fault stops leaves its journal row set and is not counted. -/
theorem commit_stopped {d : Dev} {run : CommitRun} {row : Nat} (h : d.commitCause run.cresMv run.ecc = 0)
    (hs : run.stop = some row) (pages : List Nat) (first count : Nat) (write : Nat → Dev → Dev) :
    ∃ k ≤ count, (d.commit run pages first count write).2 = .stopped k
      ∧ (d.commit run pages first count write).1.stor.journal
          = some ⟨pages.headD 0, first, count, (d.stor.commitSeq + 1) % 2 ^ 32⟩ := by
  unfold Dev.commit; simp only [h, hs]
  exact ⟨_, Nat.min_le_left _ _, rfl, rfl⟩

/-- The three ends of a commit, told by its cause and its stop. -/
theorem commit_end (d : Dev) (run : CommitRun) (pages : List Nat) (first count : Nat) (write : Nat → Dev → Dev) :
    (d.commit run pages first count write).2 = .refused ∧ d.commitCause run.cresMv run.ecc ≠ 0
      ∨ (d.commit run pages first count write).2 = .done ∧ d.commitCause run.cresMv run.ecc = 0 ∧ run.stop = none
      ∨ ∃ k ≤ count, (d.commit run pages first count write).2 = .stopped k ∧ d.commitCause run.cresMv run.ecc = 0
          ∧ run.stop.isSome = true := by
  by_cases h : d.commitCause run.cresMv run.ecc = 0
  · cases hs : run.stop with
    | none => exact .inr (.inl ⟨(commit_done h hs ..).1, h, rfl⟩)
    | some row =>
      obtain ⟨k, hk, he, _⟩ := commit_stopped h hs pages first count write
      exact .inr (.inr ⟨k, hk, he, h, rfl⟩)
  · exact .inl ⟨by rw [commit_refused h], h⟩

end Sys2Proof.Machine
end

