-- ==== Sys2Proof/WellFormed.lean ====
section
/-! DEFINITION. Well-formed commands: every operand within the range that the manual's own numbering gives it. `exec` has a
meaning for every command, well formed or not; statements that need a range ask for it by name. -/

namespace Sys2Proof

def isBytes (l : List Nat) : Bool := l.all (fun b => b < 256)
def isWord (v : Nat) : Bool := v < 2 ^ 32
def cellNumber (k : Nat) : Bool := 1 ≤ k && k ≤ 24
def phaseNumber (p : Nat) : Bool := 1 ≤ p && p ≤ 6
def inputNumber (n : Nat) : Bool := 1 ≤ n && n ≤ 8
def publicationNumber (p : Nat) : Bool := 1 ≤ p && p ≤ 64
def setNumber (g : Nat) : Bool := 1 ≤ g && g ≤ 6
/-- An address of a member (R6). -/
def memberAddress (a : Nat) : Bool := 2 ≤ a && a ≤ 4094

def Instr.wf : Instr → Bool
  | .softReset _ value => isWord value
  | .crossingTimeout _ _ index sub value => index < 65536 && sub < 256 && isBytes value
  | .wakeSource bit => bit < 32
  | .shipExit bit => bit < 32
  | .snapLatch _ value => isWord value
  | .snapshotLatchInstant group => group < 7
  | .snapshotReadOpen group _ => group < 7
  | .snapshotHoldExpiry group => group < 7
  | .tickReturn row _ => isWord row
  | .decimatorOutput raw _ _ => raw.length == 26
  | .settlingEnd channel => channel < 26
  | .auxStart _ value => isWord value
  | .auxConversionDone input _ _ => inputNumber input
  | .auxRefSelect _ converter value => converter < 2 && isWord value
  | .auxRefSettled converter _ => converter < 2
  | .auxUrgent _ input => inputNumber input
  | .auxUrgentDone converter _ => converter < 2
  | .selfCalCommand _ value => isWord value
  | .checkSarSlot slot code => slot < 64 && code < 65536
  | .comparatorRawChange cell _ _ => cellNumber cell
  | .comparatorTrip cell _ => cellNumber cell
  | .comparatorRelease cell _ => cellNumber cell
  | .thresholdWrite _ sub value => sub < 256 && isWord value
  | .comparatorTest _ cell => cellNumber cell
  | .openWireCommand _ value => value < 256
  | .groupTrip wire _ _ => wire ≤ 24
  | .shuntCommonMode channel _ => (channel == 1 || channel == 2)
  | .legacyWakeCheck cellCodes _ _ => cellCodes.length ≤ 24
  | .gaugeFieldWrite _ set bytes => setNumber set && isBytes bytes && bytes.length == 216
  | .gaugeFieldRemove _ set value => setNumber set && isWord value
  | .balRequestWrite _ value => isWord value
  | .switchFaultLatch cell _ => cellNumber cell
  | .wireGaugeCommand _ value => isWord value
  | .impCommand _ value => isWord value
  | .counterClear _ value => isWord value
  | .counterRestore _ bytes => isBytes bytes && bytes.length == 128
  | .rowMarkReceived _ row flags _ _ _ _ => isWord row && flags % 256 == 0 && flags < 65536
  | .rowReturn _ row _ _ _ _ _ => isWord row
  | .floatFrameMember bytes _ => isBytes bytes && bytes.length ≤ 68
  | .floatFrameHead member bytes _ => memberAddress member && isBytes bytes && bytes.length ≤ 68
  | .tickAlignReceived atRow _ _ => isWord atRow
  | .statsClear _ _ value => isWord value
  | .passOpen pass _ => pass < 256
  | .call nonce => nonce < 65536
  | .claim pass nonce => pass < 256 && nonce < 65536
  | .assign address windows nonce => address < 4096 && windows < 2 ^ 22 && nonce < 65536
  | .presenceCode fragment => fragment < 2 ^ 60
  | .castOnHole address => memberAddress address
  | .memberAbsent address => memberAddress address
  | .memberReturned address => memberAddress address
  | .ringBreakReceived _ row => isWord row
  | .mirrorSetWrite address => 1 ≤ address && address ≤ 4094
  | .tickAlignUpdate address _ => memberAddress address
  | .read _ target index sub => target < 4096 && index < 65536 && sub < 256
  | .write _ target index sub value => target < 4096 && index < 65536 && sub < 256 && isBytes value
  | .readSegment _ target index sub n => target < 4096 && index < 65536 && sub < 256 && n < 65536
  | .writeInitiate _ target index sub size => target < 4096 && index < 65536 && sub < 256 && isWord size
  | .writeSegment _ target index sub n _ data => target < 4096 && index < 65536 && sub < 256 && n < 65536 && isBytes data
  | .clientAbort _ target index sub => target < 4096 && index < 65536 && sub < 256
  | .unknownCommand _ message => isBytes message
  | .registerWrite _ index sub value => index < 65536 && sub < 256 && isBytes value
  | .latchClearWrite _ index sub value => index < 65536 && sub < 256 && isBytes value
  | .commissioningEnter _ code => isWord code
  | .safetyUnlock _ code => isWord code
  | .commissioningCode _ code => isWord code
  | .commissioningExit _ value => isWord value
  | .configStore _ value => isWord value
  | .configDefaults _ value => isWord value
  | .canFrameReceived _ ident _ data _ => ident < 2 ^ 30 && isBytes data && data.length ≤ 64
  | .publicationDue p => publicationNumber p
  | .spiObjectRequest message => isBytes message && 6 ≤ message.length && message.length ≤ 252
  | .spiWindowRead address count => isWord address && address % 4 == 0 && 1 ≤ count && count ≤ 60
  | .spiWindowWrite address words => isWord address && address % 4 == 0 && 1 ≤ words.length && words.length ≤ 62
  | .spiFrameRefused bytes => isBytes bytes
  | .memberRequestRelay _ target index sub message => target < 4096 && index < 65536 && sub < 256 && isBytes message
  | .memberResponse address sequence message =>
    memberAddress address && sequence < 16 && isBytes message && message.length ≤ 64
  | .memberResponseTimeout address => memberAddress address
  | .pageTableWrite _ requestor entries => requestor < 16 && entries.length == 1024
  | .translationFault requestor _ _ _ => requestor < 16
  | .sramEccError requestor address _ => requestor < 16 && isWord address
  | .dmaStart _ channel => channel < 16
  | .dmaHalt _ channel => channel < 16
  | .dmaResume _ channel => channel < 16
  | .dmaAbort _ channel => channel < 16
  | .descriptorFetch channel => channel < 16
  | .dmaTrigger source => source < 128
  | .dmaElement channel => channel < 16
  | .dmaWriteBack channel => channel < 16
  | .dmaFault channel kind stage wordsDone => channel < 16 && 1 ≤ kind && kind ≤ 5 && stage < 4 && wordsDone < 8
  | .eventRaise source => source < 128
  | .eventFlagClear _ source value => source < 128 && isWord value
  | .eventEnableWrite _ source value => source < 128 && isWord value
  | .turnOnGrant phase _ => phaseNumber phase
  | .risingPortionEnd phase _ _ => phaseNumber phase
  | .fallingPortionEnd phase _ _ => phaseNumber phase
  | .portionForced phase _ => phaseNumber phase
  | .phaseCycleEnd phase _ => phaseNumber phase
  | .bootstrapRefresh phase _ => phaseNumber phase
  | .converterFaultClear _ value => isWord value
  | .phaseExcludedClear _ value => isWord value
  | .phasePopulatedWrite _ value => isWord value
  | .chargeFault bit => bit < 32
  | .kaFault bit => bit < 32
  | .sourceRequest position _ => position < 16
  | .cellTempRead member _ _ => memberAddress member
  | .safetyFaultDetect bit _ => bit < 28
  | .dcinSample levels => levels < 256
  | .checkValueConfirm _ value code _ => isWord value && isWord code
  | .logWrite _ bytes => isBytes bytes && bytes.length == 5
  | .blockRetire block => block < 1024
  | .logReadSequence _ sequence _ => isWord sequence
  | .calendarTimeWrite _ value => value < 2 ^ 64
  | .swatchControl _ _ value => value < 256
  | .hvPowerOn _ | .hvReset | .vlogRise _ | .vlogLowWarning | .vlogLoss | .vioChange _ | .kaSupplyChangeover _
  | .kaPowerOnReset | .externalReset | .resetRelease _ _ | .roleChangeReset | .laneHLoss | .laneFLoss
  | .kaReferenceMark _ | .monReferenceLost | .crossingRequest _ _ _ | .startupSelfTest _ _ | .framScan _
  | .monitorDieReady | .monLock | .crystalTimeout | .fieldConfigLoad | .startupComplete _ | .sleepRequest _
  | .shipRequest _ | .warmWake | .rowLossSleep | .lineActivityWake _ | .sampleTick | .tickLost | .filterCornerApply
  | .streamRateApply | .channelSetApply | .bufferTrigger _ | .bufferRearm _ | .bufferFreeze | .auxPaceTick
  | .auxScanComplete | .selfCalDone _ _ _ _ | .faultStateChange _ | .alarmReinject _ | .comparatorTestDone _ _
  | .openWireInterval | .openWireWindowStart | .openWirePullOn | .openWirePullOff | .openWireEvaluate
  | .openWireWindowEnd | .gaugeTempInterval | .gaugeFactorsApply | .balanceFrameStart | .balHoldExpiry | .blankHold
  | .wireGaugeStep | .wireGaugeDone | .impRunStart | .impLeadInEnd | .impWindowEnd | .impRunAbandon _ | .counterRowMark
  | .counterSave | .portTrainingDone _ _ _ _ | .portSignalLoss _ | .portSignalReturn _ | .rowStart | .stitchInsert _
  | .windowForward _ _ | .returnLimitExpiry _ | .deadEndMark _ | .alarmSymbolReceived _ _ | .diagnosticReport
  | .delayProbe | .probeAnswer _ _ | .delayReport _ | .delayApply | .beyondTickReach | .fullCastOn | .incrementalPass
  | .bindOff _ | .assignAccepted _ | .passClose | .rateFallback | .ringBreak | .bindOffEffect | .serviceTimeout _
  | .commissioningTimeout | .codeLockExpiry | .canBusOff _ | .canBusOffRecovery _ | .spiFetch | .outerLoopUpdate _ _ _
  | .shedComplete | .converterRun _ _ | .converterStartDone | .converterStop | .converterStopped | .converterFault _
  | .throttleInterval | .throttleCompute | .converterTelemetry _ _ _ _ | .hbCurrentLimitFault _ | .hbRestart _
  | .syncAcquired _ _ | .syncLost _ _ | .dockQualified _ | .dockPresent _ | .sourceLost _ _ _ | .sourceSelect _
  | .searchStep _ | .searchEnd _ | .handOverComplete _ | .reverseEntry | .disconnectOpenInSource | .batfetDiodeOn
  | .batfetFault | .chargeEvaluation _ _ _ | .chargeDone _ | .chargeFaultRead _ | .kaChargerTransition _ _ _
  | .kaTermination _ | .kaOutFault _ | .kaOutRestart | .typecTransition _ _ _ _ | .detach | .vbusUsable _ | .vbusLost
  | .policyEngineStart | .sourceCapsTimeout | .sourceCapabilities _ _ _ | .ppsRerequest | .unsupportedMessage _
  | .bistCarrierMode | .sourceAttach _ | .discoverIdentity _ _ _ _ | .sendSourceCapabilities _ | .eprModeEnter _ _
  | .eprKeepAlive | .eprKeepAliveLost | .eprModeExit | .sinkAccept | .sinkPsRdy _ | .psRdyTimeout | .sourceRampStart
  | .sourcePsRdy _ | .transitionWatchdog | .envelopeFault _ | .sinkOvervoltage _ | .endSourcing | .dischargeDone _
  | .dischargeTimeout | .hardReset _ | .hardResetSourceRestart | .frsSignal | .frsSourceStart | .frsComplete
  | .frsAbandon | .safetyCycle | .watchdogExpiry | .lockstepDisagreement | .safetyReset | .shortCircuit
  | .enableToggleLost | .disconnectClose _ _ | .disconnectOpen _ | .sdFbChange _ _ | .sdCloseTimeout | .sdOpenTimeout
  | .testPulse _ | .degradedTick | .degradedReset | .degradedDischargeLimit | .latentCycle | .latentOverdue
  | .checkValueRecompute | .framCommit _ _ _ | .cresMeasure _ _ | .logEntry _ _ | .logPageProgram _ _ _ | .logFormat _
  | .logClosePage _ | .skeinErase _ | .calendarTick | .compensationStep | .dieTempRequest _ _ | .dieTempDone _ _
  | .swatch _ _ | .laneFReturn | .hbSyncSlewEnd | .batfetDiodeOff | .kaBatThreshold _ | .sinkCapabilitiesReceived _ => true

end Sys2Proof
end

