-- ==== Sys2Proof/Tests/Slice0.lean ====
section
/-! SUPPORT. The model's own tests: terms that each check of well-formedness refuses, states and operands that meet the
hypotheses of every clause of every statement (`met_` and the statement's name), and the manual's worked examples. -/

open Sys2Proof Sys2Proof.Machine

namespace Sys2Proof.Tests

set_option Elab.async false

/-! ## Well-formedness -/

/-- For each check of `Instr.wf` a term that breaks that one check. -/
theorem ill_formed_refused_1 : (
    [.softReset .firmware (2 ^ 32), .crossingTimeout .read .firmware 65536 0 [],
      .crossingTimeout .read .firmware 0 256 [], .crossingTimeout .read .firmware 0 0 [256], .wakeSource 32,
      .shipExit 32, .snapLatch .firmware (2 ^ 32), .snapshotLatchInstant 7, .snapshotReadOpen 7 0, .snapshotHoldExpiry 7,
      .tickReturn (2 ^ 32) false, .decimatorOutput (List.replicate 27 0) [] [], .settlingEnd 26,
      .auxStart .firmware (2 ^ 32), .auxConversionDone 0 0 0, .auxConversionDone 9 0 0, .auxRefSelect .firmware 2 0,
      .auxRefSelect .firmware 0 (2 ^ 32), .auxRefSettled 2 false, .auxUrgent .firmware 0, .auxUrgent .firmware 9,
      .auxUrgentDone 2 0, .selfCalCommand .firmware (2 ^ 32), .checkSarSlot 64 0, .checkSarSlot 0 65536,
      .comparatorRawChange 0 false false, .comparatorRawChange 25 false false, .comparatorTrip 0 false,
      .comparatorTrip 25 false, .comparatorRelease 0 false, .comparatorRelease 25 false, .thresholdWrite .firmware 256 0,
      .thresholdWrite .firmware 0 (2 ^ 32), .comparatorTest .firmware 0, .comparatorTest .firmware 25,
      .openWireCommand .firmware 256, .groupTrip 25 false false, .shuntCommonMode 0 false, .shuntCommonMode 3 false,
      .legacyWakeCheck (List.replicate 25 0) 0 0, .gaugeFieldWrite .firmware 0 (List.replicate 216 0),
      .gaugeFieldWrite .firmware 7 (List.replicate 216 0), .gaugeFieldWrite .firmware 1 (List.replicate 216 256),
      .gaugeFieldWrite .firmware 1 (List.replicate 217 0), .gaugeFieldRemove .firmware 0 0,
      .gaugeFieldRemove .firmware 7 0, .gaugeFieldRemove .firmware 1 (2 ^ 32), .balRequestWrite .firmware (2 ^ 32),
      .switchFaultLatch 0 false, .switchFaultLatch 25 false, .wireGaugeCommand .firmware (2 ^ 32),
      .impCommand .firmware (2 ^ 32)] : List Instr).all (fun i => !i.wf) = true := by
  decide +kernel

theorem ill_formed_refused_2 : (
    [.counterClear .firmware (2 ^ 32), .counterRestore .firmware (List.replicate 128 256),
      .counterRestore .firmware (List.replicate 129 0), .rowMarkReceived .a (2 ^ 32) 0 false false ⟨0, 0, 0⟩ [],
      .rowMarkReceived .a 0 1 false false ⟨0, 0, 0⟩ [], .rowMarkReceived .a 0 65536 false false ⟨0, 0, 0⟩ [],
      .rowReturn .a (2 ^ 32) false false ⟨0, 0, 0⟩ [] [], .floatFrameMember [256] false,
      .floatFrameMember (List.replicate 69 0) false, .floatFrameHead 1 [] false, .floatFrameHead 4095 [] false,
      .floatFrameHead 2 [256] false, .floatFrameHead 2 (List.replicate 69 0) false, .tickAlignReceived (2 ^ 32) 0 false,
      .statsClear .firmware .a (2 ^ 32), .passOpen 256 false, .call 65536, .claim 256 0, .claim 0 65536,
      .assign 4096 0 0, .assign 0 (2 ^ 22) 0, .assign 0 0 65536, .presenceCode (2 ^ 60), .castOnHole 1, .castOnHole 4095,
      .memberAbsent 1, .memberAbsent 4095, .memberReturned 1, .memberReturned 4095, .ringBreakReceived .a (2 ^ 32),
      .mirrorSetWrite 0, .mirrorSetWrite 4095, .tickAlignUpdate 1 0, .tickAlignUpdate 4095 0, .read .firmware 4096 0 0,
      .read .firmware 0 65536 0, .read .firmware 0 0 256, .write .firmware 4096 0 0 [], .write .firmware 0 65536 0 [],
      .write .firmware 0 0 256 [], .write .firmware 0 0 0 [256], .readSegment .firmware 4096 0 0 0,
      .readSegment .firmware 0 65536 0 0, .readSegment .firmware 0 0 256 0, .readSegment .firmware 0 0 0 65536,
      .writeInitiate .firmware 4096 0 0 0, .writeInitiate .firmware 0 65536 0 0, .writeInitiate .firmware 0 0 256 0,
      .writeInitiate .firmware 0 0 0 (2 ^ 32), .writeSegment .firmware 4096 0 0 0 false [],
      .writeSegment .firmware 0 65536 0 0 false [], .writeSegment .firmware 0 0 256 0 false []] : List Instr).all (fun i => !i.wf) = true := by
  decide +kernel

theorem ill_formed_refused_3 : (
    [.writeSegment .firmware 0 0 0 65536 false [], .writeSegment .firmware 0 0 0 0 false [256],
      .clientAbort .firmware 4096 0 0, .clientAbort .firmware 0 65536 0, .clientAbort .firmware 0 0 256,
      .unknownCommand .firmware [256], .registerWrite .firmware 65536 0 [], .registerWrite .firmware 0 256 [],
      .registerWrite .firmware 0 0 [256], .latchClearWrite .firmware 65536 0 [], .latchClearWrite .firmware 0 256 [],
      .latchClearWrite .firmware 0 0 [256], .commissioningEnter .firmware (2 ^ 32), .safetyUnlock .firmware (2 ^ 32),
      .commissioningCode .firmware (2 ^ 32), .commissioningExit .firmware (2 ^ 32), .configStore .firmware (2 ^ 32),
      .configDefaults .firmware (2 ^ 32), .canFrameReceived false (2 ^ 30) false [] [],
      .canFrameReceived false 0 false [256] [], .canFrameReceived false 0 false (List.replicate 65 0) [],
      .publicationDue 0, .publicationDue 65, .spiObjectRequest (List.replicate 6 256),
      .spiObjectRequest (List.replicate 5 0), .spiObjectRequest (List.replicate 253 0), .spiWindowRead (2 ^ 32) 1,
      .spiWindowRead 2 1, .spiWindowRead 0 0, .spiWindowRead 0 61, .spiWindowWrite (2 ^ 32) (List.replicate 1 0),
      .spiWindowWrite 2 (List.replicate 1 0), .spiWindowWrite 0 (List.replicate 0 0),
      .spiWindowWrite 0 (List.replicate 63 0), .spiFrameRefused [256], .memberRequestRelay .firmware 4096 0 0 [],
      .memberRequestRelay .firmware 0 65536 0 [], .memberRequestRelay .firmware 0 0 256 [],
      .memberRequestRelay .firmware 0 0 0 [256], .memberResponse 1 0 [], .memberResponse 4095 0 [],
      .memberResponse 2 16 [], .memberResponse 2 0 [256], .memberResponse 2 0 (List.replicate 65 0),
      .memberResponseTimeout 1, .memberResponseTimeout 4095, .pageTableWrite .firmware 16 (List.replicate 1024 0),
      .pageTableWrite .firmware 0 (List.replicate 1025 0), .translationFault 16 0 false false, .sramEccError 16 0 false,
      .sramEccError 0 (2 ^ 32) false, .dmaStart .firmware 16] : List Instr).all (fun i => !i.wf) = true := by
  decide +kernel

theorem ill_formed_refused_4 : (
    [.dmaHalt .firmware 16, .dmaResume .firmware 16, .dmaAbort .firmware 16, .descriptorFetch 16, .dmaTrigger 128,
      .dmaElement 16, .dmaWriteBack 16, .dmaFault 16 1 0 0, .dmaFault 0 0 0 0, .dmaFault 0 6 0 0, .dmaFault 0 1 4 0,
      .dmaFault 0 1 0 8, .eventRaise 128, .eventFlagClear .firmware 128 0, .eventFlagClear .firmware 0 (2 ^ 32),
      .eventEnableWrite .firmware 128 0, .eventEnableWrite .firmware 0 (2 ^ 32), .turnOnGrant 0 0, .turnOnGrant 7 0,
      .risingPortionEnd 0 0 0, .risingPortionEnd 7 0 0, .fallingPortionEnd 0 0 0, .fallingPortionEnd 7 0 0,
      .portionForced 0 false, .portionForced 7 false, .phaseCycleEnd 0 0, .phaseCycleEnd 7 0, .bootstrapRefresh 0 0,
      .bootstrapRefresh 7 0, .converterFaultClear .firmware (2 ^ 32), .phaseExcludedClear .firmware (2 ^ 32),
      .phasePopulatedWrite .firmware (2 ^ 32), .chargeFault 32, .kaFault 32, .sourceRequest 16 0,
      .cellTempRead 1 0 false, .cellTempRead 4095 0 false, .safetyFaultDetect 28 false, .dcinSample 256,
      .checkValueConfirm .firmware (2 ^ 32) 0 ⟨0, false, none⟩, .checkValueConfirm .firmware 0 (2 ^ 32) ⟨0, false, none⟩,
      .logWrite .firmware (List.replicate 5 256), .logWrite .firmware (List.replicate 6 0), .blockRetire 1024,
      .logReadSequence .firmware (2 ^ 32) false, .calendarTimeWrite .firmware (2 ^ 64),
      .swatchControl .firmware false 256] : List Instr).all (fun i => !i.wf) = true := by
  decide +kernel

/-- The same commands with every operand in its range. -/
theorem well_formed_accepted_1 : (
    [.softReset .firmware 0, .crossingTimeout .read .firmware 0 0 [], .wakeSource 0, .shipExit 0, .snapLatch .firmware 0,
      .snapshotLatchInstant 0, .snapshotReadOpen 0 0, .snapshotHoldExpiry 0, .tickReturn 0 false,
      .decimatorOutput (List.replicate 26 0) [] [], .settlingEnd 0, .auxStart .firmware 0, .auxConversionDone 1 0 0,
      .auxRefSelect .firmware 0 0, .auxRefSettled 0 false, .auxUrgent .firmware 1, .auxUrgentDone 0 0,
      .selfCalCommand .firmware 0, .checkSarSlot 0 0, .comparatorRawChange 1 false false, .comparatorTrip 1 false,
      .comparatorRelease 1 false, .thresholdWrite .firmware 0 0, .comparatorTest .firmware 1,
      .openWireCommand .firmware 0, .groupTrip 0 false false, .shuntCommonMode 1 false, .legacyWakeCheck [] 0 0,
      .gaugeFieldWrite .firmware 1 (List.replicate 216 0), .gaugeFieldRemove .firmware 1 0, .balRequestWrite .firmware 0,
      .switchFaultLatch 1 false, .wireGaugeCommand .firmware 0, .impCommand .firmware 0, .counterClear .firmware 0,
      .counterRestore .firmware (List.replicate 128 0), .rowMarkReceived .a 0 0 false false ⟨0, 0, 0⟩ [],
      .rowReturn .a 0 false false ⟨0, 0, 0⟩ [] [], .floatFrameMember [] false, .floatFrameHead 2 [] false,
      .tickAlignReceived 0 0 false, .statsClear .firmware .a 0, .passOpen 0 false, .call 0, .claim 0 0, .assign 0 0 0,
      .presenceCode 0, .castOnHole 2, .memberAbsent 2, .memberReturned 2, .ringBreakReceived .a 0, .mirrorSetWrite 1,
      .tickAlignUpdate 2 0, .read .firmware 0 0 0, .write .firmware 0 0 0 [], .readSegment .firmware 0 0 0 0] : List Instr).all Instr.wf = true := by
  decide +kernel

theorem well_formed_accepted_2 : (
    [.writeInitiate .firmware 0 0 0 0, .writeSegment .firmware 0 0 0 0 false [], .clientAbort .firmware 0 0 0,
      .unknownCommand .firmware [], .registerWrite .firmware 0 0 [], .latchClearWrite .firmware 0 0 [],
      .commissioningEnter .firmware 0, .safetyUnlock .firmware 0, .commissioningCode .firmware 0,
      .commissioningExit .firmware 0, .configStore .firmware 0, .configDefaults .firmware 0,
      .canFrameReceived false 0 false [] [], .publicationDue 1, .spiObjectRequest (List.replicate 6 0),
      .spiWindowRead 0 1, .spiWindowWrite 0 (List.replicate 1 0), .spiFrameRefused [],
      .memberRequestRelay .firmware 0 0 0 [], .memberResponse 2 0 [], .memberResponseTimeout 2,
      .pageTableWrite .firmware 0 (List.replicate 1024 0), .translationFault 0 0 false false, .sramEccError 0 0 false,
      .dmaStart .firmware 0, .dmaHalt .firmware 0, .dmaResume .firmware 0, .dmaAbort .firmware 0, .descriptorFetch 0,
      .dmaTrigger 0, .dmaElement 0, .dmaWriteBack 0, .dmaFault 0 1 0 0, .eventRaise 0, .eventFlagClear .firmware 0 0,
      .eventEnableWrite .firmware 0 0, .turnOnGrant 1 0, .risingPortionEnd 1 0 0, .fallingPortionEnd 1 0 0,
      .portionForced 1 false, .phaseCycleEnd 1 0, .bootstrapRefresh 1 0, .converterFaultClear .firmware 0,
      .phaseExcludedClear .firmware 0, .phasePopulatedWrite .firmware 0, .chargeFault 0, .kaFault 0, .sourceRequest 0 0,
      .cellTempRead 2 0 false, .safetyFaultDetect 0 false, .dcinSample 0,
      .checkValueConfirm .firmware 0 0 ⟨0, false, none⟩, .logWrite .firmware (List.replicate 5 0), .blockRetire 0,
      .logReadSequence .firmware 0 false, .calendarTimeWrite .firmware 0] : List Instr).all Instr.wf = true := by
  decide +kernel

theorem well_formed_accepted_3 : (
    [.swatchControl .firmware false 0] : List Instr).all Instr.wf = true := by
  decide +kernel


/-! ## States -/

/-- A head after start-up: clocks run, the first pass of the chain is closed, regulation and protection are in service. -/
def booted : State := State.reset.onDev fun d =>
  let d := { d with
    regs := [(1114114, 1), (1114115, 1), (1114118, 8), (1114120, 219), (1114122, 20000), (1245447, 0), (2109442, 4),
      (3014663, 1), (3014669, 160), (3014913, 2), (3015169, 2), (3015425, 2), (3080193, 1), (3080194, 3), (4194326, 150000),
      (4194327, 3600000), (4260100, 1), (4260356, 1), (4260612, 1), (4260868, 1), (4261124, 1), (4261380, 1), (4521997, 1),
      (5242892, 524288), (5242893, 524288), (5242907, 3888607152), (5767169, 32), (6291458, 4), (6291472, 20000),
      (6291713, 1), (6291720, 26)] }
  let d := { d with
    pwr := { d.pwr with
      vstk := true, vlog := true, vio := true, kaBatMv := 3600, ka := .vlog, headEn := true, logic := .active,
      hv := .active, role := .head, monRole := .head, laneH := true, laneF := true, laneU := true, trimLoaded := true,
      crystal := true, monLocked := true, startupTempDone := true, fieldLoaded := true } }
  let d := { d with
    samp := { d.samp with untimed := false, corner := some 2, stream := some 0 }, link := { d.link with rowsStarted := true, sentOut := 3 },
    chain := { d.chain with pass := 1, nonce := 5, full := true } }
  { d with
    svc := { d.svc with portA := { d.svc.portA with enabled := true }, spiEnabled := true },
    stor := { d.stor with monTempValid := 1, ctrlTempValid := 1 }, path := { d.path with kaBatOk := true },
    safe := { d.safe with laneFJudged := true, checkFormed := true } }

/-- The same in the commissioning window, its access opened. -/
def commissioned : State := booted.onDev fun d => d.set Reg.commissioningState 3 |>.set Reg.safetyUnlockState 1

/-- A member at address 5, its up port A. -/
def memberUp : State := State.reset.onDev fun d =>
  let d := { d with
    regs := [(1114120, 1), (3014659, 0), (3014913, 3), (3015169, 3), (3015425, 2), (3080193, 1), (3080194, 1)] }
  { d with
    pwr := { d.pwr with vstk := true, hv := .active, laneU := true, trimLoaded := true },
    link := { d.link with address := 5 }, stor := { d.stor with monTempBusy := true } }

/-- A head in the given step of its start-up. -/
def starting (n : Int) : State := booted.onDev fun d =>
  { d with pwr := { d.pwr with logic := .startup } }.set Reg.startupState n

/-! ## Supplies, resets and start-up -/

namespace Supplies

def powered : State := State.reset.onDev fun d =>
  { d with pwr := { d.pwr with vstk := true, hv := .active, laneU := true, trimLoaded := true, monRole := .member } }

def inReset : State := powered.onDev fun d =>
  { d with pwr := { d.pwr with vlog := true, vio := true, kaBatMv := 3600, ka := .vlog, logic := .inReset } }

def lockWait : State := (starting 4).onDev fun d =>
  { d with pwr := { d.pwr with monLocked := false, markCycles := 500, startupTempDone := false } }

def e1 : List Nat := List.replicate 16 3

def clo (d : Dev) : Dev := { d with
  pwr := { d.pwr with
    logic := .sleepEntry, closing := true }, stor := {d.stor with
      jobs := [], logQueue := [], openPage := [e1], closeDue := true, nand := true, formatted := true, erasedSkein := some
        0, nextBlock := 0, ended := none} } |>.set Reg.logState 2 |>.set Reg.logPageSize 2048 |>.set Reg.logBlockCount 64
  |>.set Reg.cresCapacitance 60

def m2 : State := State.onDev memberUp (fun d =>
  { d with pwr := { d.pwr with vlog := true, logic := .startup, ka := .vlog } })

def s1 : State := State.onDev commissioned (fun d => { d with safe := { d.safe with resetDue := some 1 } })
def s2 : State := State.onDev commissioned clo
def s3 : State := State.onDev commissioned (fun d => { d with pwr := { d.pwr with logic := .sleep, wakeDue := true } })
def s4 : State := State.onDev commissioned (fun d => { d with pwr := { d.pwr with logic := .sleepEntry } })
def s5 : State := State.onDev powered (fun d => { d with pwr := { d.pwr with hv := .sleep } } |>.set (Reg.portState 0) 1
  |>.set (Reg.portState 2) 1)
def s6 : State := State.onDev commissioned (fun d => { d with pwr := { d.pwr with shipLatched := true, logic := .ship } })
def s7 : State := State.onDev commissioned (fun d =>
  { d with pwr := { d.pwr with shipLatched := true, vlog := false, logic := .keepAliveOnly, ka := .kaBat } })

theorem met_SupplyCommands :
    (∃ (s : State) (mv : Nat), 7000 ≤ mv ∧ mv ≤ 135000 ∧ s.dev.pwr.vstk = false) ∧
    (∃ mv : Nat, 135000 < mv) ∧
    (∃ s : State, s.dev.pwr.vstk = true) ∧
    (∃ (s : State) (mv : Nat), 4400 ≤ mv ∧ mv ≤ 65000 ∧ s.dev.pwr.vlog = false ∧ s.dev.pwr.shipLatched = false) ∧
    (∃ (s : State) (mv : Nat), 4400 ≤ mv ∧ mv ≤ 65000 ∧ s.dev.pwr.vlog = true) ∧
    (∃ mv : Nat, 65000 < mv) ∧
    (∃ s : State, s.dev.pwr.vlog = true ∧ s.dev.pwr.vlogLow = false) ∧
    (∃ mv : Nat, mv ≤ 3600) ∧
    (∃ mv : Nat, 3600 < mv) ∧
    (∃ mv : Nat, mv ≤ 5500) ∧
    (∃ mv : Nat, 5500 < mv) :=
  ⟨⟨State.reset, 7000, by decide +kernel⟩,
    ⟨135001, by decide +kernel⟩,
    ⟨commissioned, by decide +kernel⟩,
    ⟨powered, 4400, by decide +kernel⟩,
    ⟨commissioned, 4400, by decide +kernel⟩,
    ⟨65001, by decide +kernel⟩,
    ⟨commissioned, by decide +kernel⟩,
    ⟨0, by decide +kernel⟩,
    ⟨3601, by decide +kernel⟩,
    ⟨0, by decide +kernel⟩,
    ⟨5501, by decide +kernel⟩⟩

theorem met_LogicResets :
    (∃ s : State, s.dev.pwr.vlog = true) ∧
    (∃ s : State, (s.dev.logicPowered = true ∨ s.dev.pwr.logic = .inReset)) ∧
    (∃ (s : State) (c : Nat), s.dev.safe.resetDue = some c) ∧
    (∃ s : State, s.dev.pwr.vlog = true ∧ s.dev.pwr.hb1Off = false) ∧
    (∃ (s : State) (who : Requester), MayWrite s who Reg.softReset ∧ byAgent who = false) ∧
    (∃ s : State, s.dev.pwr.vlog = false) :=
  ⟨⟨commissioned, by decide +kernel⟩,
    ⟨commissioned, by decide +kernel⟩,
    ⟨s1, 1, by decide +kernel⟩,
    ⟨commissioned, by decide +kernel⟩,
    ⟨commissioned, .canA, by unfold MayWrite Accepts; decide +kernel⟩,
    ⟨powered, by decide +kernel⟩⟩

theorem met_RolesAndLanes :
    (∃ s : State, s.dev.pwr.vlog = true ∧ s.dev.pwr.logic = .inReset ∧ s.dev.pwr.hb1Off = false) ∧
    (∃ s : State, s.dev.pwr.vstk = true ∧ (s.dev.pwr.hv = .active ∨ s.dev.pwr.hv = .sleep ∨ s.dev.pwr.hv = .rolePending)) ∧
    (∃ s : State, s.dev.pwr.laneU = true) ∧
    (∃ s : State, s.dev.monHead = true ∧ s.dev.pwr.laneH = true ∧ s.dev.monLive = true ∧ s.dev.kaActive = true) ∧
    (∃ s : State, s.dev.monLive = true) ∧
    (∃ (s : State) (src dst : Island), s.dev.islandOn (islandCode src) = true ∧ s.dev.islandOn (islandCode dst) = true) :=
  ⟨⟨inReset, by decide +kernel⟩,
    ⟨commissioned, by decide +kernel⟩,
    ⟨commissioned, by decide +kernel⟩,
    ⟨commissioned, by decide +kernel⟩,
    ⟨commissioned, by decide +kernel⟩,
    ⟨commissioned, .mon, .mon, by decide +kernel⟩⟩

theorem met_StartupSteps :
    (∃ s : State, s.dev.atStep 1 = true) ∧
    (∃ s : State, s.dev.pwr.role = .member ∧ s.dev.pwr.logic = .startup) ∧
    (∃ s : State, s.dev.atStep 2 = true) ∧
    (∃ s : State, s.dev.atStep 3 = true ∧ s.dev.pwr.vstk = true ∧ s.dev.pwr.laneU = true ∧ s.dev.monLive = true ∧
        s.dev.monHead = true) ∧
    (∃ s : State, s.dev.monLive = true ∧ s.dev.monReference = true) ∧
    (∃ s : State, s.dev.atStep 4 = true ∧ s.dev.pwr.monLocked = false) ∧
    (∃ s : State, s.dev.atStep 5 = true ∧ s.dev.monLive = true ∧ s.dev.monHead = true) ∧
    (∃ s : State, s.dev.monLive = true ∧ s.dev.monHead = false ∧ s.dev.link.address ≠ 0 ∧ s.dev.atStep 5 = false) ∧
    (∃ s : State, s.dev.atStep 7 = true ∧ s.dev.admissionOpen = false) :=
  ⟨⟨starting 1, by decide +kernel⟩,
    ⟨m2, by decide +kernel⟩,
    ⟨starting 2, by decide +kernel⟩,
    ⟨starting 3, by decide +kernel⟩,
    ⟨lockWait, by decide +kernel⟩,
    ⟨lockWait, by decide +kernel⟩,
    ⟨starting 5, by decide +kernel⟩,
    ⟨memberUp, by decide +kernel⟩,
    ⟨starting 7, by decide +kernel⟩⟩

theorem met_SleepAndWake :
    (∃ (s : State) (who : Requester), MayWrite s who Reg.powerModeRequest ∧ s.dev.sleepAllowed = true) ∧
    (∃ (s : State) (who : Requester), MayWrite s who Reg.powerModeRequest ∧ s.dev.sleepAllowed = false) ∧
    (∃ (s : State) (who : Requester), MayWrite s who Reg.powerModeRequest ∧ s.dev.shipAllowed = true) ∧
    (∃ (s : State) (first second : CommitRun), s.dev.pwr.role = .head ∧ s.dev.pwr.logic = .sleepEntry ∧ s.dev.pwr.closing
        = true ∧ s.dev.nat Reg.logState = 2 ∧ s.dev.stor.jobs = [] ∧ s.dev.stor.logQueue = [] ∧ s.dev.stor.openPage ≠ []
        ∧ s.dev.stor.closeDue = true ∧ s.dev.pageReady = true ∧ s.dev.stor.ended = none ∧ s.dev.commitCause first.cresMv
        first.ecc = 0 ∧ first.stop = none ∧ s.dev.commitCause second.cresMv second.ecc = 0 ∧ second.stop = none) ∧
    (∃ (s : State) (first : CommitRun), s.dev.pwr.role = .head ∧ s.dev.pwr.logic = .sleepEntry ∧ s.dev.pwr.closing = true
        ∧ s.dev.nat Reg.logState = 2 ∧ s.dev.stor.jobs = [] ∧ s.dev.stor.logQueue = [] ∧ s.dev.stor.openPage ≠ [] ∧
        s.dev.stor.closeDue = true ∧ s.dev.pageReady = true ∧ s.dev.stor.ended = none ∧ s.dev.commitCause first.cresMv
        first.ecc ≠ 0) ∧
    (∃ (s : State) (bit : Nat), bit ≤ 8 ∧ s.dev.pwr.role = .head ∧ s.dev.pwr.logic = .sleep) ∧
    (∃ (s : State) (bit : Nat), bit ≤ 8 ∧ s.dev.pwr.role = .head ∧ s.dev.pwr.logic = .sleepEntry ∧ s.dev.pwr.shipEntry =
        false) ∧
    (∃ s : State, s.dev.pwr.logic = .sleep ∧ s.dev.pwr.role = .head ∧ s.dev.pwr.wakeDue = true) ∧
    (∃ s : State, s.dev.monLive = true ∧ s.dev.monHead = false ∧ s.dev.on Reg.rowLossSleep = true) ∧
    (∃ (s : State) (p : Port), s.dev.pwr.hv = .sleep ∧ s.dev.monHead = false ∧ s.dev.nat (Reg.portState p.num) = 1) ∧
    (∃ (s : State) (bit : Nat), bit ≤ 2 ∧ s.dev.pwr.logic = .ship ∧ s.dev.pwr.shipLatched = true ∧ s.dev.pwr.ka ≠ .none ∧
        s.dev.pwr.vlog = true) ∧
    (∃ (s : State) (bit : Nat), bit ≤ 2 ∧ s.dev.pwr.logic ≠ .sleepEntry ∧ s.dev.pwr.shipLatched = true ∧ s.dev.pwr.ka ≠
        .none ∧ s.dev.pwr.vlog = false) :=
  ⟨⟨commissioned, .canA, by unfold MayWrite Accepts; decide +kernel⟩,
    ⟨lockWait, .canA, by unfold MayWrite Accepts; decide +kernel⟩,
    ⟨commissioned, .canA, by unfold MayWrite Accepts; decide +kernel⟩,
    ⟨s2, ⟨5000, false, none⟩, ⟨5000, false, none⟩, by decide +kernel⟩,
    ⟨s2, ⟨2000, false, none⟩, by decide +kernel⟩,
    ⟨s3, 0, by decide +kernel⟩,
    ⟨s4, 0, by decide +kernel⟩,
    ⟨s3, by decide +kernel⟩,
    ⟨powered, by decide +kernel⟩,
    ⟨s5, .a, by decide +kernel⟩,
    ⟨s6, 0, by decide +kernel⟩,
    ⟨s7, 0, by decide +kernel⟩⟩

end Supplies

/-! ## Conversion tick, filters and auxiliary inputs -/

namespace Sampling

def own1 : OwnOutput := ⟨List.replicate 26 4000000,[1,2,3],[3,4]⟩

def s1 : State := State.onDev commissioned (fun d =>
  { d with snaps := d.snaps.map (fun g => { g with readers := [0, 4, 34] }) })
def s2 : State := State.onDev commissioned (fun d =>
  { d with pwr := { d.pwr with monRole := .member }, samp := { d.samp with untimed := true, ownTick := some own1 } })
def s3 : State := State.onDev commissioned (fun d =>
  { d with pwr := { d.pwr with monRole := .member }, samp := { d.samp with untimed := true, markNew := true } })
def s4 : State := State.onDev commissioned (fun d =>
  { d with samp := { d.samp with tickRow := 64, corner := some 4, stream := some 1, untimed := true } } |>.set
  Reg.cellCount 13)
def s5 : State := State.onDev commissioned (fun d =>
  { d with pwr := { d.pwr with monRole := .member }, samp := { d.samp with untimed := true, tickPending := true } })
def s6 : State := State.onDev commissioned (fun d => (d.set Reg.bufferState 1).set Reg.bufferTrigger 0xF |>.set
  Reg.bufferMode 1)
def s7 : State := State.onDev commissioned (fun d => (d.set Reg.bufferState 2).set Reg.bufferMode 1)
def s8 : State := State.onDev commissioned (fun d => (d.set Reg.auxMode 1).set (Reg.ainConfig 1) 9 |>.set (Reg.ainConfig
  6) 1 |>.set (Reg.ainConfig 5) 1)
def s9 : State := State.onDev commissioned (fun d =>
  { (d.set Reg.auxMode 2 |>.set Reg.selfCalState 2) with
    samp := { d.samp with
      auxA := { d.samp.auxA with pass := some [1,2], urgent := [3] }, auxB := { d.samp.auxB with pass := some [5] } } })
def s10 : State := State.onDev commissioned (fun d => (d.set Reg.auxMode 3).set (Reg.ainConfig 1) 9 |>.set (Reg.ainConfig
  6) 1 |>.set Reg.selfCalState 2|>.set Reg.auxPace 1)
def s11 : State := State.onDev commissioned (fun d =>
  { (d.set Reg.auxMode 2 |>.set Reg.selfCalState 2) with
    samp := { d.samp with auxA := { d.samp.auxA with passDone := true }, auxB := { d.samp.auxB with passDone := true } }
      })
def s12 : State := State.onDev commissioned (fun d => (d.set Reg.selfCalState 1))

theorem met_Snapshots :
    (∃ (s : State) (who : Requester) (v g : Nat), MayWrite s who Reg.snapLatch ∧ s.dev.snaps.length = 7 ∧ v ≤ 0x7F ∧ g <
        7 ∧ v.testBit g = true ∧ s.dev.groupExists g = true ∧ s.dev.ownerRuns g = true) ∧
    (∃ (s : State) (g : Nat), s.dev.snaps.length = 7 ∧ g < 7 ∧ s.dev.groupExists g = true ∧ s.dev.ownerRuns g = true ∧ (g
        = 0 → s.dev.samp.tickRow % 8 = 0) ∧ (s.dev.group g).readers = [] ∧ (s.dev.bit Reg.snapAuto g = true ∨
        (s.dev.group g).requested = true)) ∧
    (∃ (s : State) (g : Nat), s.dev.snaps.length = 7 ∧ g < 7 ∧ s.dev.groupExists g = true ∧ s.dev.ownerRuns g = true ∧ (g
        = 0 → s.dev.samp.tickRow % 8 = 0) ∧ (s.dev.group g).readers ≠ [] ∧ s.dev.bit Reg.snapAuto g = true) ∧
    (∃ (s : State) (g : Nat), s.dev.snaps.length = 7 ∧ s.dev.groupExists g = true) ∧
    (∃ (s : State) (g r : Nat) (rest : List Nat), s.dev.snaps.length = 7 ∧ g < 7 ∧ (s.dev.group g).readers = r :: rest) :=
  ⟨⟨commissioned, .canA, 1, 0, by unfold MayWrite Accepts; decide +kernel⟩,
    ⟨commissioned, 0, by decide +kernel⟩,
    ⟨s1, 0, by decide +kernel⟩,
    ⟨commissioned, 0, by decide +kernel⟩,
    ⟨s1, 0, 0, [4, 34], by decide +kernel⟩⟩

theorem met_TickAndChannels :
    (∃ s : State, s.dev.monLive = true) ∧
    (∃ s : State, s.dev.monLive = true ∧ s.dev.monHead = false) ∧
    (∃ s : State, s.dev.monLive = true ∧ s.dev.monHead = false ∧ s.dev.samp.untimed = true ∧ s.dev.samp.cells ≤ 24 ∧
        s.dev.samp.ownTick = none) ∧
    (∃ (s : State) (o : _), s.dev.monLive = true ∧ s.dev.samp.ownTick = some o ∧ s.dev.monHead = false ∧
        s.dev.samp.untimed = true) ∧
    (∃ (s : State) (c : Nat), s.dev.monLive = true ∧ c < 26) ∧
    (∃ (s : State) (c : Nat), s.dev.monLive = true ∧ s.dev.samp.corner = some c ∧ s.dev.samp.tickRow % 8 = 0) ∧
    (∃ (s : State) (c : Nat), s.dev.monLive = true ∧ s.dev.samp.stream = some c ∧ s.dev.samp.tickRow % 64 = 0) ∧
    (∃ s : State, s.dev.monLive = true ∧ s.dev.nat Reg.cellCount ≠ s.dev.samp.cells ∧ s.dev.nat Reg.cellCount ≤ 24 ∧ (if
        s.dev.monHead = true ∨ field (s.dev.nat Reg.windowAssignment) 0 6 = 0x7F then s.dev.samp.tickRow % 8 = 0 else
        s.dev.samp.tickRow % 64 = 0)) :=
  ⟨⟨commissioned, by decide +kernel⟩,
    ⟨s2, by decide +kernel⟩,
    ⟨s3, by decide +kernel⟩,
    ⟨s2, ⟨List.replicate 26 4000000, [1, 2, 3], [3, 4]⟩, by decide +kernel⟩,
    ⟨commissioned, 0, by decide +kernel⟩,
    ⟨commissioned, 2, by decide +kernel⟩,
    ⟨commissioned, 0, by decide +kernel⟩,
    ⟨s4, by decide +kernel⟩⟩

theorem met_OutputsAndBuffer :
    (∃ s : State, s.dev.monLive = true ∧ s.dev.samp.tickPending = true ∧ s.dev.ownClock = true ∧ s.dev.samp.ownTick =
        none) ∧
    (∃ s : State, s.dev.monLive = true ∧ (s.dev.samp.tickPending && s.dev.ownClock) = false) ∧
    (∃ (s : State) (n : Nat), s.dev.nat Reg.bufferState = 1 ∧ n < 4 ∧ s.dev.bit Reg.bufferTrigger n = true ∧
        s.dev.triggerCause n = true) ∧
    (∃ s : State, s.dev.nat Reg.bufferState = 2 ∧ s.dev.samp.postLeft = 0) ∧
    (∃ (s : State) (who : Requester), MayWrite s who Reg.bufferCommand ∧ s.dev.on Reg.bufferMode = true) :=
  ⟨⟨s5, by decide +kernel⟩,
    ⟨commissioned, by decide +kernel⟩,
    ⟨s6, 0, by decide +kernel⟩,
    ⟨s7, by decide +kernel⟩,
    ⟨s6, .canA, by unfold MayWrite Accepts; decide +kernel⟩⟩

theorem met_AuxiliaryConverters :
    (∃ (s : State) (who : Requester), MayWrite s who Reg.auxStart ∧ s.dev.samp.auxA.pass = none ∧ s.dev.samp.auxB.pass =
        none ∧ s.dev.nat Reg.auxMode = 1 ∧ s.dev.monLive = true ∧ s.dev.calibrating = false) ∧
    (∃ (s : State) (who : Requester), MayWrite s who Reg.auxStart ∧ s.dev.samp.auxA.pass ≠ none) ∧
    (∃ s : State, s.dev.monLive = true ∧ s.dev.nat Reg.auxMode = 3 ∧ s.dev.calibrating = false ∧ s.dev.nat Reg.auxPace ≠
        0 ∧ s.dev.samp.tickRow % s.dev.nat Reg.auxPace = 0 ∧ s.dev.samp.auxA.pass = none ∧ s.dev.samp.auxB.pass = none) ∧
    (∃ (s : State) (n : Nat) (rest : List Nat), 1 ≤ n ∧ n ≤ 8 ∧ (s.dev.aux (4 < n)).pass = some (n :: rest) ∧ (s.dev.aux
        (4 < n)).urgent = [] ∧ s.dev.monLive = true ∧ s.dev.calibrating = false) ∧
    (∃ s : State, s.dev.monLive = true ∧ s.dev.samp.auxA.passDone = true ∧ s.dev.samp.auxB.passDone = true ∧
        s.dev.calibrating = false) ∧
    (∃ (s : State) (who : Requester) (b : Bool) (v : Nat), MayWrite s who (if b then Reg.auxRefB else Reg.auxRefA) ∧ v ≤
        2 ∧ s.dev.nat (if b then Reg.auxRefB else Reg.auxRefA) ≠ v ∧ (s.dev.aux b).pass = none ∧ (s.dev.aux b).urgent =
        []) ∧
    (∃ (s : State) (b : Bool), s.dev.monLive = true ∧ (s.dev.aux b).refPending = false) ∧
    (∃ (s : State) (who : Requester) (n : Nat), MayWrite s who Reg.auxUrgent ∧ 1 ≤ n ∧ n ≤ 8 ∧ s.dev.calibrating = false
        ∧ (s.dev.aux (4 < n)).urgent.length < 2) ∧
    (∃ (s : State) (b : Bool) (n : Nat) (rest : List Nat), (s.dev.aux b).urgent = n :: rest ∧ s.dev.monLive = true) ∧
    (∃ (s : State) (who : Requester), MayWrite s who Reg.selfCalCommand ∧ s.dev.calibrating = false) ∧
    (∃ (s : State) (a b : Int) (ga gb : Nat), -64 ≤ a ∧ a ≤ 64 ∧ -64 ≤ b ∧ b ≤ 64 ∧ 99 * 2 ^ 30 ≤ 100 * ga ∧ 100 * ga ≤
        101 * 2 ^ 30 ∧ 99 * 2 ^ 30 ≤ 100 * gb ∧ 100 * gb ≤ 101 * 2 ^ 30 ∧ s.dev.calibrating = true ∧ s.dev.monLive =
        true) ∧
    (∃ (s : State) (a b : Int) (ga gb : Nat), (a < -64 ∨ 64 < a ∨ b < -64 ∨ 64 < b ∨ 100 * ga < 99 * 2 ^ 30 ∨ 101 * 2 ^
        30 < 100 * ga ∨ 100 * gb < 99 * 2 ^ 30 ∨ 101 * 2 ^ 30 < 100 * gb) ∧ s.dev.calibrating = true ∧ s.dev.monLive =
        true) :=
  ⟨⟨s8, .canA, by unfold MayWrite Accepts; decide +kernel⟩,
    ⟨s9, .canA, by unfold MayWrite Accepts; decide +kernel⟩,
    ⟨s10, by decide +kernel⟩,
    ⟨s9, 5, [], by decide +kernel⟩,
    ⟨s11, by decide +kernel⟩,
    ⟨commissioned, .canA, true, 0, by unfold MayWrite Accepts; decide +kernel⟩,
    ⟨commissioned, true, by decide +kernel⟩,
    ⟨commissioned, .canA, 1, by unfold MayWrite Accepts; decide +kernel⟩,
    ⟨s9, false, 3, [], by decide +kernel⟩,
    ⟨commissioned, .canA, by unfold MayWrite Accepts; decide +kernel⟩,
    ⟨s12, 0, 0, 1073741824, 1073741824, by decide +kernel⟩,
    ⟨s12, 0, 0, 0, 0, by decide +kernel⟩⟩

end Sampling

/-! ## Comparators, open wires and gauge sets -/

namespace Supervising

/-- The bytes of Table 5.7 ahead of the CRC, for a set at 10.0 °C with gains of one. -/
def gbody : List Nat := (gaugeBytes ⟨100, List.replicate 26 5, List.replicate 26 (2 ^ 30)⟩).take 212

/-- The same with their CRC. -/
def gset : List Nat := gbody ++ leBytes 4 (crc32 gbody)

theorem crc32Step_lt (c : Nat) (h : c < 2 ^ 32) : crc32Step c < 2 ^ 32 := by
  unfold crc32Step
  split
  · exact Nat.xor_lt_two_pow (by omega) (by decide)
  · omega

theorem crc32_lt (l : List Nat) : crc32 l < 2 ^ 32 := by
  refine Nat.xor_lt_two_pow ?_ (by decide)
  generalize hc : 0xFFFFFFFF = c
  replace hc : c < 2 ^ 32 := by omega
  induction l generalizing c with
  | nil => exact hc
  | cons b l ih => exact ih _ (by repeat' (first | apply crc32Step_lt | exact Nat.xor_lt_two_pow hc (by omega)))

theorem crc_of_body (b : List Nat) (h : b.length = 212) :
    (ofLe ((b ++ leBytes 4 (crc32 b)).drop 212) == crc32 ((b ++ leBytes 4 (crc32 b)).take 212)) = true := by
  have n := crc32_lt b
  rw [List.drop_append_of_le_length (by omega), List.take_append_of_le_length (by omega), List.drop_of_length_le (by omega),
    List.take_of_length_le (by omega)]
  simp only [leBytes, ofLe, List.nil_append, beq_iff_eq]
  omega

theorem gset_valid : gaugeValid gset = true := by
  rw [gaugeValid, gset, crc_of_body gbody (by decide +kernel), Bool.and_true]
  decide +kernel

theorem first_set_written (d : Dev) (b : List Nat) (h : gaugeValid b = true)
    (none : (upTo 6).filter (fun g => g != 1 && d.on (Reg.gaugeFieldValid g)) = []) : (d.writeGaugeField 1 b).isOk = true := by
  simp [Dev.writeGaugeField, h, none, Except.isOk, Except.toBool]

def tripped (d : Dev) : Dev := { d with sup := { d.sup with ovRaw := 0xFF, uvRaw := 0xF0, uvTripped := 5 } }

def ws1 : WindowSums := ⟨[30,3600000*3,90],[21,-600000*4,77],3,4,9000,5,some 7,some 100⟩

def ws2 : WindowSums := ⟨[30000,3600000*3,90],[21000,3600000*4,77],3,4,9000,5,some 7,some 100⟩

def s1 : State := State.onDev commissioned tripped
def s2 : State := State.onDev commissioned (fun d =>
  { d with sup := { d.sup with ovGroup := 0xF, uvGroup := 255, groupRuns := (List.range 100).map (fun i => (i, 400)) } }
  |>.set Reg.openWireLatched 0x10000FF)
def s3 : State := State.onDev commissioned (fun d => { tripped d with sup := { (tripped d).sup with fault := true } })
def s4 : State := State.onDev commissioned (fun d => { d with pwr := { d.pwr with hv := .sleep, monRole := .member } }
  |>.set (Reg.portState 0) 1)
def s5 : State := State.onDev commissioned (fun d => { d with sup := { d.sup with testing := some 3, ovTripped := 2 } })
def s6 : State := State.onDev commissioned (fun d => { d with sup := { d.sup with stage := 3, sums := ws2 } } |>.set
  Reg.openWireState 0x43 |>.set Reg.openWireLatched 0xFF)
def s7 : State := State.onDev commissioned (fun d =>
  {d with samp := {d.samp with tickRow := 8, ready := some ([1],[2],3)}})
def s8 : State := State.onDev commissioned (fun d => {d with sup := {d.sup with stackBad := 1}})
def s9 : State := State.onDev commissioned (fun d => { d with sup := { d.sup with stage := 3, sums := ws1 } } |>.set
  Reg.openWireState 0x43)
def s10 : State := State.onDev commissioned (fun d => d.set Reg.openWireState 0x43)
def s11 : State := State.onDev commissioned (fun d => { d with sup := { d.sup with stage := 1 } } |>.set Reg.openWireState
  0x43)
def s12 : State := State.onDev commissioned (fun d => { d with sup := { d.sup with stage := 2 } } |>.set Reg.openWireState
  0x43)
def s13 : State := State.onDev commissioned (fun d => { d with sup := { d.sup with stage := 3 } } |>.set Reg.openWireState
  0x43)
def s14 : State := State.onDev commissioned (fun d => { d with sup := { d.sup with stage := 4, again := true } } |>.set
  Reg.openWireState 0x43)
def s15 : State := State.onDev commissioned (fun d =>
  { d with pwr := { d.pwr with hv := .sleep }, sup := { d.sup with legacy := 15 } } |>.set Reg.legacyWakeEnable 1)
def s16 : State := State.onDev commissioned (fun d => (d.set (Reg.gaugeFieldValid 2) 1).setBlob (Reg.gaugeField 2).key
  gset)

theorem met_Comparators :
    (∃ (s : State) (k : Nat), s.dev.comparatorsValid = true ∧ 1 ≤ k ∧ k ≤ s.dev.samp.cells) ∧
    (∃ (s : State) (k : Nat) (ov : Bool), s.dev.comparatorsValid = true ∧ 1 ≤ k ∧ k ≤ s.dev.samp.cells ∧
        s.dev.sup.testing ≠ some k ∧ s.dev.countsAt k ov true = true) ∧
    (∃ (s : State) (k : Nat) (ov : Bool), s.dev.comparatorsValid = true ∧ 1 ≤ k ∧ k ≤ s.dev.samp.cells ∧ s.dev.countsAt k
        ov false = true) ∧
    (∃ s : State, s.dev.faultNow ≠ s.dev.sup.fault) ∧
    (∃ s : State, s.dev.sup.fault = true ∧ s.dev.faultNow = true) ∧
    (∃ (s : State) (p : Port), s.dev.pwr.hv = .sleep ∧ s.dev.monHead = false ∧ s.dev.portSendsAlarm p.num = true ∧
        s.dev.nat (Reg.portState p.num) = 1) ∧
    (∃ (s : State) (p : Port), s.dev.pwr.hv ≠ .sleep ∧ s.dev.portSendsAlarm p.num = true ∧ s.dev.reg (Reg.alarmsReceived
        p.num) < 0xFFFFFFFF) ∧
    (∃ (s : State) (who : Requester) (k : Nat), MayWrite s who Reg.comparatorTest ∧ 1 ≤ k ∧ k ≤ s.dev.samp.cells ∧
        s.dev.samp.cells ≤ 24 ∧ (s.dev.sup.ovTripped ||| s.dev.sup.uvTripped).testBit (k - 1) = false ∧ s.dev.sup.testing
        = none) ∧
    (∃ (s : State) (k : Nat), s.dev.sup.testing = some k) ∧
    (∃ (s : State) (who : Requester) (sub v : Nat), (sub = 1 ∨ sub = 2 ∨ sub = 3) ∧ MayWrite s who (regAt (0x206000 +
        sub)) ∧ v ≤ (if sub = 1 then 255 else if sub = 2 then 250 else 63) ∧ s.dev.relationHolds (byAgent who) (0x206000
        + sub) v = true) :=
  ⟨⟨commissioned, 1, by decide +kernel⟩,
    ⟨s1, 1, true, by decide +kernel⟩,
    ⟨commissioned, 1, true, by decide +kernel⟩,
    ⟨s2, by decide +kernel⟩,
    ⟨s3, by decide +kernel⟩,
    ⟨s4, .a, by decide +kernel⟩,
    ⟨commissioned, .a, by decide +kernel⟩,
    ⟨commissioned, .canA, 1, by unfold MayWrite Accepts; decide +kernel⟩,
    ⟨s5, 3, by decide +kernel⟩,
    ⟨commissioned, .spi, 2, 1, by unfold MayWrite Accepts; decide +kernel⟩⟩

theorem met_CheckConverter :
    (∃ (s : State) (slot code : Nat), s.dev.monLive = true ∧ code < 2 ^ 14 ∧ 1 ≤ slot ∧ slot ≤ s.dev.samp.cells ∧ slot ≤
        24 ∧ s.dev.on Reg.checkEnable = true ∧ s.dev.endCell slot = false) ∧
    (∃ (s : State) (slot code : Nat), s.dev.monLive = true ∧ code < 2 ^ 14 ∧ 1 ≤ slot ∧ slot ≤ s.dev.samp.cells ∧ slot ≤
        24 ∧ s.dev.on Reg.checkEnable = true ∧ s.dev.endCell slot = true ∧ s.dev.reg Reg.checkSkipped < 0xFFFFFFFF) ∧
    (∃ (s : State) (slot code : Nat), s.dev.monLive = true ∧ code < 2 ^ 14 ∧ slot = 25 ∧ s.dev.gaugeEndStep = false ∧
        s.dev.samp.tickRow / 8 % 2 = 0) ∧
    (∃ (s : State) (slot code : Nat), s.dev.monLive = true ∧ code < 2 ^ 14 ∧ slot = 25 ∧ s.dev.gaugeEndStep = false ∧
        s.dev.samp.tickRow / 8 % 2 = 1) ∧
    (∃ (s : State) (slot : Nat), 1 ≤ slot ∧ slot ≤ 24 ∧ slot ≤ s.dev.samp.cells ∧ s.dev.on Reg.checkEnable = true ∧
        s.dev.checkSkips slot = true ∧ s.dev.reg Reg.checkSkipped < 0xFFFFFFFF) ∧
    (∃ (s : State) (slot : Nat), 1 ≤ slot ∧ slot ≤ 24 ∧ slot ≤ s.dev.samp.cells ∧ s.dev.on Reg.checkEnable = true ∧
        s.dev.checkSkips slot = false) ∧
    (∃ (s : State) (slot code : Nat), 1 ≤ slot ∧ slot ≤ 24 ∧ slot ≤ s.dev.samp.cells ∧ s.dev.on Reg.checkEnable = true ∧
        s.dev.checkSkips slot = false ∧ (s.dev.nat Reg.checkThreshold) * 1000 < (s.dev.mainOf slot slot - sarUv
        code).natAbs ∧ s.dev.reg Reg.checkConfirm ≤ (Tab.find slot s.dev.sup.mismatches).getD 0 + 1 ∧ (Tab.find slot
        s.dev.sup.mismatches).getD 0 + 1 ≠ 0) ∧
    (∃ (s : State) (slot code : Nat), 1 ≤ slot ∧ slot ≤ 24 ∧ slot ≤ s.dev.samp.cells ∧ s.dev.on Reg.checkEnable = true ∧
        s.dev.checkSkips slot = false ∧ (s.dev.mainOf slot slot - sarUv code).natAbs ≤ (s.dev.nat Reg.checkThreshold) *
        1000) ∧
    (∃ (s : State) (code : Nat) (diff : Int), diff = (upTo s.dev.samp.cells).foldl (fun a k => a + s.dev.mainOf 25 k) 0 -
        sarUv code * 32) ∧
    (∃ (s : State) (code : Nat) (diff : Int), diff = (upTo s.dev.samp.cells).foldl (fun a k => a + s.dev.mainOf 25 k) 0 -
        sarUv code * 32 ∧ 0 ≤ sarUv code) ∧
    (∃ (s : State) (code : Nat) (diff : Int), diff = (upTo s.dev.samp.cells).foldl (fun a k => a + s.dev.mainOf 25 k) 0 -
        sarUv code * 32 ∧ diff.natAbs ≤ s.dev.nat Reg.stackMismatchThreshold * 1000) ∧
    (∃ (s : State) (code : Nat) (diff : Int), diff = (upTo s.dev.samp.cells).foldl (fun a k => a + s.dev.mainOf 25 k) 0 -
        sarUv code * 32 ∧ s.dev.nat Reg.stackMismatchThreshold * 1000 < diff.natAbs) ∧
    (∃ (s : State) (code : Nat) (diff : Int), diff = (upTo s.dev.samp.cells).foldl (fun a k => a + s.dev.mainOf 25 k) 0 -
        sarUv code * 32 ∧ s.dev.nat Reg.stackMismatchThreshold * 1000 < diff.natAbs ∧ s.dev.sup.stackBad = 0) ∧
    (∃ (s : State) (code : Nat) (diff : Int), diff = (upTo s.dev.samp.cells).foldl (fun a k => a + s.dev.mainOf 25 k) 0 -
        sarUv code * 32 ∧ s.dev.nat Reg.stackMismatchThreshold * 1000 < diff.natAbs ∧ 1 ≤ s.dev.sup.stackBad) ∧
    (∃ (s : State) (code : Nat) (diff : Int), diff = (upTo s.dev.samp.cells).foldl (fun a k => a + s.dev.mainOf 25 k) 0 -
        sarUv code * 32 ∧ s.dev.nat Reg.stackMismatchThreshold * 1000 < diff.natAbs ∧ 1 ≤ s.dev.sup.stackBad ∧
        s.dev.cpuLive = true) :=
  ⟨⟨commissioned, 1, 1, by decide +kernel⟩,
    ⟨s6, 1, 1, by decide +kernel⟩,
    ⟨commissioned, 25, 1, by decide +kernel⟩,
    ⟨s7, 25, 1, by decide +kernel⟩,
    ⟨s6, 1, by decide +kernel⟩,
    ⟨commissioned, 1, by decide +kernel⟩,
    ⟨commissioned, 1, 1, by decide +kernel⟩,
    ⟨commissioned, 1, 2000, by decide +kernel⟩,
    ⟨commissioned, 1, 23988000, by decide +kernel⟩,
    ⟨commissioned, 10000, -96000000, by decide +kernel⟩,
    ⟨commissioned, 2000, 0, by decide +kernel⟩,
    ⟨commissioned, 1, 23988000, by decide +kernel⟩,
    ⟨commissioned, 1, 23988000, by decide +kernel⟩,
    ⟨s8, 1, 23988000, by decide +kernel⟩,
    ⟨s8, 1, 23988000, by decide +kernel⟩⟩

theorem met_OpenWires :
    (∃ (s : State) (who : Requester), MayWrite s who Reg.openWireCommand ∧ s.dev.passRunning = false) ∧
    (∃ (s : State) (who : Requester), MayWrite s who Reg.openWireCommand ∧ s.dev.passRunning = true) ∧
    (∃ s : State, s.dev.monLive = true ∧ s.dev.on Reg.openWireInterval = true ∧ s.dev.passRunning = false) ∧
    (∃ s : State, s.dev.monLive = true ∧ s.dev.passRunning = true ∧ s.dev.sup.stage = 0 ∧ s.dev.samp.tickRow % 8 = 0 ∧
        s.dev.bal.gaugeRow = none) ∧
    (∃ s : State, s.dev.monLive = true ∧ s.dev.sup.stage = 1) ∧
    (∃ s : State, s.dev.monLive = true ∧ s.dev.sup.stage = 2) ∧
    (∃ s : State, s.dev.monLive = true ∧ s.dev.sup.stage = 3 ∧ (s.dev.sup.disturbed = true ∨ s.dev.sup.sums.baseN = 0 ∨
        s.dev.sup.sums.loadN = 0)) ∧
    (∃ s : State, s.dev.monLive = true ∧ s.dev.sup.stage = 3 ∧ s.dev.sup.disturbed = false ∧ s.dev.sup.sums.baseN ≠ 0 ∧
        s.dev.sup.sums.loadN ≠ 0) ∧
    (∃ s : State, s.dev.monLive = true ∧ s.dev.sup.stage = 4) ∧
    (∃ (s : State) (w : Nat) (ov : Bool) (k : Nat), s.dev.monLive = true ∧ w ≤ s.dev.samp.cells ∧ s.dev.bit
        Reg.openWireLatched w = true ∧ s.dev.groupReached w ov true = true ∧ k ∈ s.dev.supervisedCells w ∧ 1 ≤ k) ∧
    (∃ (s : State) (w : Nat) (ov : Bool) (k : Nat), s.dev.monLive = true ∧ w ≤ s.dev.samp.cells ∧ s.dev.bit
        Reg.openWireLatched w = true ∧ s.dev.groupReached w ov false = true ∧ k ∈ s.dev.supervisedCells w ∧ 1 ≤ k) ∧
    (∃ (s : State) (x : Nat), s.dev.monLive = true ∧ (x = 1 ∨ x = 2)) ∧
    (∃ s : State, s.dev.pwr.hv = .sleep ∧ s.dev.on Reg.legacyWakeEnable = true) :=
  ⟨⟨commissioned, .canA, by unfold MayWrite Accepts; decide +kernel⟩,
    ⟨s9, .canA, by unfold MayWrite Accepts; decide +kernel⟩,
    ⟨commissioned, by decide +kernel⟩,
    ⟨s10, by decide +kernel⟩,
    ⟨s11, by decide +kernel⟩,
    ⟨s12, by decide +kernel⟩,
    ⟨s13, by decide +kernel⟩,
    ⟨s9, by decide +kernel⟩,
    ⟨s14, by decide +kernel⟩,
    ⟨s2, 1, true, 1, by decide +kernel⟩,
    ⟨s2, 1, true, 1, by decide +kernel⟩,
    ⟨commissioned, 1, by decide +kernel⟩,
    ⟨s15, by decide +kernel⟩⟩

theorem met_GaugeSets :
    (∃ (s : State) (who : Requester) (g : Nat) (b : List Nat), 1 ≤ g ∧ g ≤ 6 ∧ MayWrite s who (Reg.gaugeField g) ∧
        b.length = 216 ∧ (s.dev.writeGaugeField g b).isOk = true) ∧
    (∃ (s : State) (who : Requester) (g : Nat), 1 ≤ g ∧ g ≤ 6 ∧ MayWrite s who (Reg.gaugeFieldValid g) ∧ s.dev.on
        (Reg.gaugeFieldValid g) = true) ∧
    (∃ s : State, s.dev.monLive = true) ∧
    (∃ (s : State) (x : _), s.dev.samp.ready = some x ∧ s.dev.monLive = true) :=
  ⟨⟨commissioned, .spi, 1, gset, by decide, by decide, by unfold MayWrite Accepts; decide +kernel, by decide +kernel,
            first_set_written _ _ gset_valid (by decide +kernel)⟩,
    ⟨s16, .spi, 2, by unfold MayWrite Accepts; decide +kernel⟩,
    ⟨commissioned, by decide +kernel⟩,
    ⟨s7, ([1], [2], 3), by decide +kernel⟩⟩

end Supervising

/-! ## Balancing, impedance runs and counters -/

namespace Balances

def run0 : ImpRun :=
  ⟨0,0,16,0xFFFFFF,[100,200,0,0,0,0,0,0],[64,64,0,0,0,0,0,0],false,false,0,0,4096,4000,[⟨1,0,1000,2000,3000,-500,3000,-400⟩,⟨2,0,1000,-2000,2000,1500,5,6⟩,⟨1,1,0,0,0,0,0,0⟩],1,false⟩

def ws1 : WindowSums := ⟨[30,60,90],[21,33,77],3,4,9000,5,some 7,some 100⟩

def gs0 : GaugeStep := ⟨3200000,-6400100,3200000,3200000,320000⟩

def gauge (l : List GaugeStep) (s : State) : State := State.onDev s (fun d =>
  { d with bal := { d.bal with gaugeSteps := l }, samp := {d.samp with cells := 24} } |>.set Reg.wireGaugeState 1)

def big : Int := 10000000000 * 2^80

def run1v : ImpRun := {run0 with freqs := [8,16,0,0,0,0,0,0], window := 16, taken := 1, source := 1, sums := (List.range
                                   24).flatMap (fun c => [⟨c+1, 1, -(big/1000), 77777777777*2^80, big, big/3, 0, 0⟩, ⟨c+1,
                                 2, -big, 77777777777*2^80, 1, big/3, 0, 0⟩])}

def s1 : State := State.onDev booted (fun d =>
  { d with samp := { d.samp with outNo := 255, history := (List.range 8).map (fun (i : Nat) => List.replicate 24 ((i :
                                   Int)*5)) }, bal := { d.bal with frameRow := 0 } } |>.set Reg.balHeld 1)
def s2 : State := gauge (List.replicate 24 gs0) booted
def s3 : State := State.onDev booted (fun d => { d with bal := { d.bal with gaugeRow := some 0, gaugeSums := ws1 } }
  |>.set Reg.wireGaugeState 1)
def s4 : State := gauge (List.replicate 3 gs0 ++ [{gs0 with ua := 5}] ++ List.replicate 20 gs0) booted
def s5 : State := State.onDev booted (fun d =>
  { d with
    samp := { d.samp with
      tickRow := 256 }, bal := { d.bal with
        frameRow := 128, run := some ({run0 with even := true} : ImpRun) , restore := some (List.replicate 128 1)} }
  |>.set Reg.balRequest 0xFFFFF |>.set Reg.impState 3 |>.set Reg.balPowerLimit 400 |>.set Reg.impEnable 2)
def s6 : State := State.onDev booted (fun d =>
  { d with bal := { d.bal with runDue := true, gaugeSteps := [(⟨100,-3000,200,300,3⟩ : GaugeStep)] ++ List.replicate 23
                                 (⟨100,-3000,200,300,30000⟩ : GaugeStep) } } |>.set Reg.wireGaugeState 1|>.set
  Reg.impEnable 2 |>.set (Reg.currentEnable 1) 0 |>.set (Reg.currentEnable 2) 0 |>.set Reg.impSource 2)
def s7 : State := State.onDev booted (fun d =>
  { d with samp := { d.samp with tickRow := 256 }, bal := { d.bal with frameRow := 128 } } |>.set Reg.balRequest 0xF
  |>.set Reg.impEnable 1)
def s8 : State := State.onDev booted (fun d =>
  { d with
    samp := { d.samp with tickRow := 256 }, bal := { d.bal with frameRow := 128, run := some run0, clear := some 5 } }
  |>.set Reg.balRequest 0xF |>.set Reg.impState 1 |>.set Reg.balPowerLimit 100|>.set Reg.chargeIn 55)
def s9 : State := State.onDev booted (fun d => { d with bal := { d.bal with run := some run1v } } |>.set Reg.impState 4)

theorem met_BalancingCommands :
    (∃ (s : State) (who : Requester) (v : Nat), MayWrite s who Reg.balRequest ∧ v ≤ 0xFFFFFF) ∧
    (∃ s : State, s.dev.monLive = true ∧ s.dev.on Reg.balHold = true) ∧
    (∃ (s : State) (k : Nat), s.dev.monLive = true ∧ 1 ≤ k ∧ k ≤ 24) ∧
    (∃ s : State, s.dev.monLive = true ∧ s.dev.samp.tickRow % 128 = 0) ∧
    (∃ s : State, s.dev.monLive = true ∧ s.dev.on Reg.balHeld = true ∧ s.dev.outputsSince s.dev.bal.frameRow = 255 ∧ 7 ≤
        s.dev.samp.history.length) :=
  ⟨⟨booted, .canA, 0, by unfold MayWrite Accepts; decide +kernel⟩,
    ⟨booted, by decide +kernel⟩,
    ⟨booted, 1, by decide +kernel⟩,
    ⟨booted, by decide +kernel⟩,
    ⟨s1, by decide +kernel⟩⟩

theorem met_WireGauge :
    (∃ (s : State) (who : Requester), MayWrite s who Reg.wireGaugeCommand ∧ s.dev.nat Reg.wireGaugeState ≠ 1 ∧
        s.dev.bal.run = none ∧ s.dev.nat Reg.cellCount = s.dev.samp.cells) ∧
    (∃ (s : State) (who : Requester), MayWrite s who Reg.wireGaugeCommand ∧ (s.dev.nat Reg.wireGaugeState = 1 ∨
        s.dev.bal.run ≠ none ∨ s.dev.nat Reg.cellCount ≠ s.dev.samp.cells)) ∧
    (∃ (s : State) (w : _), w = s.dev.bal.gaugeSums ∧ s.dev.monLive = true ∧ s.dev.nat Reg.wireGaugeState = 1 ∧
        s.dev.bal.gaugeRow ≠ none ∧ s.dev.gaugeFilled = true) ∧
    (∃ s : State, s.dev.monLive = true ∧ s.dev.nat Reg.wireGaugeState = 1 ∧ s.dev.bal.gaugeSteps.length =
        s.dev.samp.cells ∧ 8 ≤ s.dev.samp.cells ∧ s.dev.samp.cells ≤ 24 ∧ (∀ k ∈ upTo s.dev.samp.cells,
        (s.dev.gaugeStepOf k).fails k s.dev.samp.cells = false)) ∧
    (∃ (s : State) (k : Nat), s.dev.monLive = true ∧ s.dev.nat Reg.wireGaugeState = 1 ∧ s.dev.bal.gaugeSteps.length =
        s.dev.samp.cells ∧ 1 ≤ k ∧ k ≤ s.dev.samp.cells ∧ s.dev.samp.cells ≤ 24 ∧ (s.dev.gaugeStepOf k).fails k
        s.dev.samp.cells = true ∧ (∀ j ∈ upTo (k - 1), (s.dev.gaugeStepOf j).fails j s.dev.samp.cells = false)) :=
  ⟨⟨booted, .canA, by unfold MayWrite Accepts; decide +kernel⟩,
    ⟨s2, .canA, by unfold MayWrite Accepts; decide +kernel⟩,
    ⟨s3, ⟨[30, 60, 90], [21, 33, 77], 3, 4, 9000, 5, some 7, some 100⟩, by decide +kernel⟩,
    ⟨s2, by decide +kernel⟩,
    ⟨s4, 4, by decide +kernel⟩⟩

theorem met_ImpedanceRuns :
    (∃ (s : State) (who : Requester), MayWrite s who Reg.impCommand ∧ s.dev.sourceBlocked (s.dev.nat Reg.impSource) =
        false ∧ s.dev.nat Reg.impEnable = 2) ∧
    (∃ (s : State) (who : Requester), MayWrite s who Reg.impCommand ∧ s.dev.sourceBlocked (s.dev.nat Reg.impSource) =
        true) ∧
    (∃ s : State, s.dev.monLive = true ∧ s.dev.samp.tickRow % 128 = 0 ∧ (s.dev.nat Reg.impEnable = 1 ∨ (s.dev.nat
        Reg.impEnable = 2 ∧ s.dev.bal.runDue = true)) ∧ s.dev.bal.run = none ∧ s.dev.nat Reg.wireGaugeState ≠ 1 ∧
        s.dev.sourceBlocked (s.dev.nat Reg.impSource) = false ∧ s.dev.bal.frameRow ≠ s.dev.samp.tickRow) ∧
    (∃ s : State, s.dev.monLive = true ∧ s.dev.bal.run ≠ none ∧ s.dev.nat Reg.impState = 1) ∧
    (∃ (s : State) (r : _), s.dev.bal.run = some r ∧ s.dev.monLive = true ∧ s.dev.samp.cells ≤ 24 ∧ (s.dev.nat
        Reg.impState = 2 ∨ s.dev.nat Reg.impState = 3 ∨ s.dev.nat Reg.impState = 4) ∧ s.dev.reg Reg.impRunCount <
        0xFFFFFFFF) ∧
    (∃ s : State, s.dev.bal.run ≠ none) :=
  ⟨⟨s5, .canA, by unfold MayWrite Accepts; decide +kernel⟩,
    ⟨s6, .canA, by unfold MayWrite Accepts; decide +kernel⟩,
    ⟨s7, by decide +kernel⟩,
    ⟨s8, by decide +kernel⟩,
    ⟨s9, ⟨1, 0, 16, 16777215, [8, 16, 0, 0, 0, 0, 0, 0], [64, 64, 0, 0, 0, 0, 0, 0], false, false, 0, 0, 4096, 1, [⟨1,
      1, -12089258196146291747061760000000, 94027563746864215728557866197450752,
      12089258196146291747061760000000000, 4029752732048763915687253333333333, 0, 0⟩, ⟨1, 2,
      -12089258196146291747061760000000000, 94027563746864215728557866197450752, 1,
      4029752732048763915687253333333333, 0, 0⟩, ⟨2, 1, -12089258196146291747061760000000,
      94027563746864215728557866197450752, 12089258196146291747061760000000000, 4029752732048763915687253333333333,
      0, 0⟩, ⟨2, 2, -12089258196146291747061760000000000, 94027563746864215728557866197450752, 1,
      4029752732048763915687253333333333, 0, 0⟩, ⟨3, 1, -12089258196146291747061760000000,
      94027563746864215728557866197450752, 12089258196146291747061760000000000, 4029752732048763915687253333333333,
      0, 0⟩, ⟨3, 2, -12089258196146291747061760000000000, 94027563746864215728557866197450752, 1,
      4029752732048763915687253333333333, 0, 0⟩, ⟨4, 1, -12089258196146291747061760000000,
      94027563746864215728557866197450752, 12089258196146291747061760000000000, 4029752732048763915687253333333333,
      0, 0⟩, ⟨4, 2, -12089258196146291747061760000000000, 94027563746864215728557866197450752, 1,
      4029752732048763915687253333333333, 0, 0⟩, ⟨5, 1, -12089258196146291747061760000000,
      94027563746864215728557866197450752, 12089258196146291747061760000000000, 4029752732048763915687253333333333,
      0, 0⟩, ⟨5, 2, -12089258196146291747061760000000000, 94027563746864215728557866197450752, 1,
      4029752732048763915687253333333333, 0, 0⟩, ⟨6, 1, -12089258196146291747061760000000,
      94027563746864215728557866197450752, 12089258196146291747061760000000000, 4029752732048763915687253333333333,
      0, 0⟩, ⟨6, 2, -12089258196146291747061760000000000, 94027563746864215728557866197450752, 1,
      4029752732048763915687253333333333, 0, 0⟩, ⟨7, 1, -12089258196146291747061760000000,
      94027563746864215728557866197450752, 12089258196146291747061760000000000, 4029752732048763915687253333333333,
      0, 0⟩, ⟨7, 2, -12089258196146291747061760000000000, 94027563746864215728557866197450752, 1,
      4029752732048763915687253333333333, 0, 0⟩, ⟨8, 1, -12089258196146291747061760000000,
      94027563746864215728557866197450752, 12089258196146291747061760000000000, 4029752732048763915687253333333333,
      0, 0⟩, ⟨8, 2, -12089258196146291747061760000000000, 94027563746864215728557866197450752, 1,
      4029752732048763915687253333333333, 0, 0⟩, ⟨9, 1, -12089258196146291747061760000000,
      94027563746864215728557866197450752, 12089258196146291747061760000000000, 4029752732048763915687253333333333,
      0, 0⟩, ⟨9, 2, -12089258196146291747061760000000000, 94027563746864215728557866197450752, 1,
      4029752732048763915687253333333333, 0, 0⟩, ⟨10, 1, -12089258196146291747061760000000,
      94027563746864215728557866197450752, 12089258196146291747061760000000000, 4029752732048763915687253333333333,
      0, 0⟩, ⟨10, 2, -12089258196146291747061760000000000, 94027563746864215728557866197450752, 1,
      4029752732048763915687253333333333, 0, 0⟩, ⟨11, 1, -12089258196146291747061760000000,
      94027563746864215728557866197450752, 12089258196146291747061760000000000, 4029752732048763915687253333333333,
      0, 0⟩, ⟨11, 2, -12089258196146291747061760000000000, 94027563746864215728557866197450752, 1,
      4029752732048763915687253333333333, 0, 0⟩, ⟨12, 1, -12089258196146291747061760000000,
      94027563746864215728557866197450752, 12089258196146291747061760000000000, 4029752732048763915687253333333333,
      0, 0⟩, ⟨12, 2, -12089258196146291747061760000000000, 94027563746864215728557866197450752, 1,
      4029752732048763915687253333333333, 0, 0⟩, ⟨13, 1, -12089258196146291747061760000000,
      94027563746864215728557866197450752, 12089258196146291747061760000000000, 4029752732048763915687253333333333,
      0, 0⟩, ⟨13, 2, -12089258196146291747061760000000000, 94027563746864215728557866197450752, 1,
      4029752732048763915687253333333333, 0, 0⟩, ⟨14, 1, -12089258196146291747061760000000,
      94027563746864215728557866197450752, 12089258196146291747061760000000000, 4029752732048763915687253333333333,
      0, 0⟩, ⟨14, 2, -12089258196146291747061760000000000, 94027563746864215728557866197450752, 1,
      4029752732048763915687253333333333, 0, 0⟩, ⟨15, 1, -12089258196146291747061760000000,
      94027563746864215728557866197450752, 12089258196146291747061760000000000, 4029752732048763915687253333333333,
      0, 0⟩, ⟨15, 2, -12089258196146291747061760000000000, 94027563746864215728557866197450752, 1,
      4029752732048763915687253333333333, 0, 0⟩, ⟨16, 1, -12089258196146291747061760000000,
      94027563746864215728557866197450752, 12089258196146291747061760000000000, 4029752732048763915687253333333333,
      0, 0⟩, ⟨16, 2, -12089258196146291747061760000000000, 94027563746864215728557866197450752, 1,
      4029752732048763915687253333333333, 0, 0⟩, ⟨17, 1, -12089258196146291747061760000000,
      94027563746864215728557866197450752, 12089258196146291747061760000000000, 4029752732048763915687253333333333,
      0, 0⟩, ⟨17, 2, -12089258196146291747061760000000000, 94027563746864215728557866197450752, 1,
      4029752732048763915687253333333333, 0, 0⟩, ⟨18, 1, -12089258196146291747061760000000,
      94027563746864215728557866197450752, 12089258196146291747061760000000000, 4029752732048763915687253333333333,
      0, 0⟩, ⟨18, 2, -12089258196146291747061760000000000, 94027563746864215728557866197450752, 1,
      4029752732048763915687253333333333, 0, 0⟩, ⟨19, 1, -12089258196146291747061760000000,
      94027563746864215728557866197450752, 12089258196146291747061760000000000, 4029752732048763915687253333333333,
      0, 0⟩, ⟨19, 2, -12089258196146291747061760000000000, 94027563746864215728557866197450752, 1,
      4029752732048763915687253333333333, 0, 0⟩, ⟨20, 1, -12089258196146291747061760000000,
      94027563746864215728557866197450752, 12089258196146291747061760000000000, 4029752732048763915687253333333333,
      0, 0⟩, ⟨20, 2, -12089258196146291747061760000000000, 94027563746864215728557866197450752, 1,
      4029752732048763915687253333333333, 0, 0⟩, ⟨21, 1, -12089258196146291747061760000000,
      94027563746864215728557866197450752, 12089258196146291747061760000000000, 4029752732048763915687253333333333,
      0, 0⟩, ⟨21, 2, -12089258196146291747061760000000000, 94027563746864215728557866197450752, 1,
      4029752732048763915687253333333333, 0, 0⟩, ⟨22, 1, -12089258196146291747061760000000,
      94027563746864215728557866197450752, 12089258196146291747061760000000000, 4029752732048763915687253333333333,
      0, 0⟩, ⟨22, 2, -12089258196146291747061760000000000, 94027563746864215728557866197450752, 1,
      4029752732048763915687253333333333, 0, 0⟩, ⟨23, 1, -12089258196146291747061760000000,
      94027563746864215728557866197450752, 12089258196146291747061760000000000, 4029752732048763915687253333333333,
      0, 0⟩, ⟨23, 2, -12089258196146291747061760000000000, 94027563746864215728557866197450752, 1,
      4029752732048763915687253333333333, 0, 0⟩, ⟨24, 1, -12089258196146291747061760000000,
      94027563746864215728557866197450752, 12089258196146291747061760000000000, 4029752732048763915687253333333333,
      0, 0⟩, ⟨24, 2, -12089258196146291747061760000000000, 94027563746864215728557866197450752, 1,
      4029752732048763915687253333333333, 0, 0⟩], 1, false⟩, by decide +kernel⟩,
    ⟨s9, by decide +kernel⟩⟩

theorem met_CounterCommands :
    (∃ s : State, s.dev.monLive = true ∧ s.dev.bal.step = none ∧ s.dev.bal.restore = none ∧ s.dev.bal.clear ≠ none) ∧
    (∃ s : State, s.dev.monLive = true ∧ s.dev.bal.clear = none ∧ s.dev.bal.restore = none ∧ s.dev.bal.step = none) ∧
    (∃ s : State, s.dev.monLive = true ∧ s.dev.bal.restore ≠ none) ∧
    (∃ (s : State) (who : Requester) (v : Nat), MayWrite s who Reg.counterClear ∧ v ≤ 0x1F ∧ v ≠ 0) ∧
    (∃ (s : State) (who : Requester) (b : List Nat), MayWrite s who Reg.counterRestore ∧ b.length = 128 ∧ s.dev.bit
        Reg.counterStatus 5 = true ∧ s.dev.bal.restore = none) ∧
    (∃ s : State, s.dev.pwr.role = .head ∧ s.dev.cpuLive = true ∧ s.dev.monLive = true) :=
  ⟨⟨s8, by decide +kernel⟩,
    ⟨booted, by decide +kernel⟩,
    ⟨s5, by decide +kernel⟩,
    ⟨booted, .firmware, 1, by unfold MayWrite Accepts; decide +kernel⟩,
    ⟨booted, .canA, List.replicate 128 0, by unfold MayWrite Accepts; decide +kernel⟩,
    ⟨booted, by decide +kernel⟩⟩

theorem met_CounterSteps :
    (∃ (value max num den v : Nat) (rest r : Frac), 0 < rest.den ∧ 0 < den ∧ countStep value max false rest num den = (v,
        r, false)) ∧
    (∃ (value max num den : Nat) (rest : Frac), (countStep value max false rest num den).2.2 = true) :=
  ⟨⟨0, 0, 0, 1, 0, ⟨0, 1⟩, ⟨0, 1⟩, by decide +kernel⟩,
    ⟨0, 0, 1, 1, ⟨0, 1⟩, by decide +kernel⟩⟩

end Balances

/-! ## The float at a member -/

namespace Rows

def rd : List Nat := [1,2,0,0x10,5,0]

def m1 (f : Link → Link) : State := State.onDev memberUp (fun d => { d with link := f { d.link with rowTaken := true } }
  |>.set Reg.windowAssignment (3 + 128*1 + 512*0 + 4096*4 + 2^19*0) |>.set Reg.rowNumber 1 |>.set Reg.deviceSerial 7)

def s1 : State := m1 (fun l => {l with sentOut := 1, downs := [1], portB := {l.portB with misses := 1}})
def s2 : State := State.onDev (m1 (fun l =>
  {l with upResponse := some [1,2,3], due := some 99999 , alignDue := some (0,9)})) (fun d => (d.set (Reg.portState 0) 4
  |>.set (Reg.portState 1) 2 |>.set Reg.upPort 1 |>.set (Reg.portState 2) 3 |>.set (Reg.crcErrors 1) 5 |>.set
  (Reg.alarmsSent 0) 9))
def s3 : State := m1 (fun l =>
  {l with portA := {l.portA with barred := true}, portB := {l.portB with deadEnd := true}, flags := 1024, probing := true,
          report := some 500, measured := true, rowsStarted := true})
def s4 : State := m1 (fun l => {l with probing := true, report := some 2})
def s5 : State := m1 (fun l =>
  {l with probing := true, report := some 5, held := some 6, due := some 3, alignDue := some (0,5)})
def s6 : State := State.onDev (m1 id) (fun d => (d.set Reg.upPort 255 |>.set Reg.ovLatched 5))
def s7 : State := State.onDev (m1 id) (fun d =>
  {d with svc := {d.svc with agentSeq := some 3, agentAnswer := [9,9], agent := {d.svc.agent with sent := rd}}})

theorem met_PortsAndDelays :
    (∃ (s : State) (p : Port), s.dev.nat (Reg.portState p.num) = 2) ∧
    (∃ (s : State) (p : Port), s.dev.nat (Reg.portState p.num) = 2 ∧ s.dev.reg (Reg.lossOfSignal p.num) < 0xFFFFFFFF) ∧
    (∃ (s : State) (p : Port), s.dev.nat (Reg.portState p.num) = 3 ∧ s.dev.reg (Reg.lossOfSignal p.num) < 0xFFFFFFFF) ∧
    (∃ (s : State) (p : Port), s.dev.nat (Reg.portState p.num) = 4) ∧
    (∃ (s : State) (p : Port) (who : Requester), MayWrite s who (Reg.statsClear p.num)) ∧
    (∃ s : State, s.dev.monLive = true ∧ s.dev.monHead = false ∧ s.dev.nat Reg.upPort < 3 ∧ s.dev.link.rowsStarted =
        true) ∧
    (∃ (s : State) (r : Nat), s.dev.monLive = true ∧ s.dev.monHead = false ∧ s.dev.link.probing = true ∧
        s.dev.link.report = some r ∧ s.dev.link.held = none) ∧
    (∃ (s : State) (roundTrip turnaround r old : Nat), s.dev.monLive = true ∧ s.dev.monHead = false ∧ s.dev.link.probing
        = true ∧ s.dev.link.report = some r ∧ s.dev.link.held = some old ∧ 2000 < ((r : Int) + ((roundTrip - turnaround)
        / 2 : Nat) - old).natAbs ∧ agreeing (((r + (roundTrip - turnaround) / 2) :: s.dev.link.candidates).take 3) =
        false) ∧
    (∃ s : State, s.dev.monLive = true ∧ s.dev.monHead = false ∧ s.dev.link.measured = true ∧ s.dev.link.held = none) ∧
    (∃ (s : State) (v : Nat), s.dev.monLive = true ∧ s.dev.monHead = false ∧ s.dev.link.due = some v ∧ s.dev.samp.tickRow
        % 64 = 0) ∧
    (∃ (s : State) (v : Nat), s.dev.monLive = true ∧ s.dev.monHead = false ∧ s.dev.link.held = some v) ∧
    (∃ (s : State) (row : Nat), s.dev.monLive = true ∧ s.dev.monHead = false ∧ row % 64 = 0 ∧ s.dev.link.alignDue = none) ∧
    (∃ (s : State) (row ps : Nat), s.dev.monLive = true ∧ s.dev.monHead = false ∧ s.dev.link.alignDue = some (row, ps)) ∧
    (∃ (s : State) (row ps v : Nat), s.dev.monLive = true ∧ s.dev.monHead = false ∧ s.dev.link.alignDue = some (row, ps)
        ∧ rowAhead row s.dev.nextTickRow = false ∧ s.dev.link.held = some v ∧ s.dev.samp.ownTick = none) :=
  ⟨⟨booted, .a, by decide +kernel⟩,
    ⟨booted, .a, by decide +kernel⟩,
    ⟨s1, .a, by decide +kernel⟩,
    ⟨s2, .a, by decide +kernel⟩,
    ⟨booted, .a, .canA, by unfold MayWrite Accepts; decide +kernel⟩,
    ⟨s3, by decide +kernel⟩,
    ⟨s4, 2, by decide +kernel⟩,
    ⟨s5, 4400, 0, 5, 6, by decide +kernel⟩,
    ⟨s3, by decide +kernel⟩,
    ⟨s5, 3, by decide +kernel⟩,
    ⟨s5, 6, by decide +kernel⟩,
    ⟨s1, 0, by decide +kernel⟩,
    ⟨s5, 0, 5, by decide +kernel⟩,
    ⟨s5, 0, 5, 6, by decide +kernel⟩⟩

theorem met_RowsAtMember :
    (∃ (s : State) (p : Port), s.dev.monLive = true ∧ s.dev.monHead = false ∧ s.dev.nat (Reg.portState p.num) = 3 ∧
        (s.dev.portLink p).barred = false ∧ s.dev.nat Reg.upPort = p.num) ∧
    (∃ (s : State) (p : Port), s.dev.monLive = true ∧ s.dev.monHead = false ∧ s.dev.nat (Reg.portState p.num) = 3 ∧
        (s.dev.portLink p).barred = false ∧ s.dev.nat Reg.upPort = p.num ∧ s.dev.reg (Reg.headerErrors p.num) <
        0xFFFFFFFF) ∧
    (∃ (s : State) (p : Port), s.dev.monLive = true ∧ s.dev.monHead = false ∧ s.dev.nat (Reg.portState p.num) = 3 ∧
        (s.dev.portLink p).barred = false ∧ s.dev.nat Reg.upPort = p.num ∧ s.dev.reg (Reg.rowPeriodErrors p.num) <
        0xFFFFFFFF) ∧
    (∃ (s : State) (p : Port), s.dev.monLive = true ∧ s.dev.monHead = false ∧ s.dev.nat (Reg.portState p.num) = 3 ∧
        (s.dev.portLink p).barred = false ∧ s.dev.nat Reg.upPort = 0xFF) ∧
    (∃ (s : State) (p : Port) (row : Nat), s.dev.monLive = true ∧ s.dev.monHead = false ∧ s.dev.nat (Reg.portState p.num)
        = 3 ∧ (s.dev.portLink p).barred = false ∧ s.dev.comesBack p.num (row % 2 ^ 32) = true) ∧
    (∃ (s : State) (p : Port) (row : Nat), s.dev.monLive = true ∧ s.dev.monHead = false ∧ s.dev.nat (Reg.portState p.num)
        = 3 ∧ (s.dev.portLink p).barred = false ∧ s.dev.nat Reg.upPort ≠ p.num ∧ s.dev.comesBack p.num (row % 2 ^ 32) =
        false) ∧
    (∃ (s : State) (p : Port), s.dev.monLive = true ∧ s.dev.monHead = false ∧ s.dev.nat (Reg.portState p.num) = 3 ∧
        (s.dev.portLink p).barred = false ∧ s.dev.downPartner p = true ∧ (s.dev.link.flags.testBit 10 = false ∨ p = .c) ∧
        s.dev.link.sentOut = p.num ∧ 1 ≤ (s.dev.portLink p).misses) :=
  ⟨⟨s1, .a, by decide +kernel⟩,
    ⟨s1, .a, by decide +kernel⟩,
    ⟨s1, .a, by decide +kernel⟩,
    ⟨s6, .a, by decide +kernel⟩,
    ⟨s1, .b, 0, by decide +kernel⟩,
    ⟨s1, .b, 1, by decide +kernel⟩,
    ⟨s1, .b, by decide +kernel⟩⟩

theorem met_WindowsAtMember :
    (∃ (s : State) (w : RxWindow), s.dev.monLive = true ∧ s.dev.monHead = false ∧ s.dev.link.rowTaken = true ∧
        s.dev.link.address ≠ 0 ∧ w.addr = s.dev.link.address ∧ ownsWindow (s.dev.nat Reg.windowAssignment) s.dev.row
        w.index = some true) ∧
    (∃ (s : State) (w : RxWindow), s.dev.monLive = true ∧ s.dev.monHead = false ∧ s.dev.link.rowTaken = true ∧
        s.dev.link.address ≠ 0 ∧ w.addr = s.dev.link.address ∧ w.crcOk = true ∧ w.lead = 5 ∧ w.alarmStruck = false ∧
        w.edgeErrors = 0 ∧ (s.dev.link.rx.take (some w.floatBit)).2 = none ∧ ownsWindow (s.dev.nat Reg.windowAssignment)
        s.dev.row w.index = some false) ∧
    (∃ (s : State) (w : RxWindow), s.dev.monLive = true ∧ s.dev.monHead = false ∧ s.dev.link.rowTaken = true ∧
        s.dev.link.address ≠ 0 ∧ w.addr ≠ s.dev.link.address ∧ ownsWindow (s.dev.nat Reg.windowAssignment) s.dev.row
        w.index = some false ∧ s.dev.reg (Reg.windowErrors (s.dev.nat Reg.upPort)) < 0xFFFFFFFF) ∧
    (∃ (s : State) (p : Port), s.dev.monLive = true ∧ s.dev.monHead = false ∧ s.dev.nat (Reg.portState p.num) = 3) :=
  ⟨⟨s1, ⟨4, 5, 5, 1, 2, 3, 5, true, true, 0, false⟩, by decide +kernel⟩,
    ⟨s1, ⟨3, 5, 5, 1, 2, 3, 5, true, true, 0, false⟩, by decide +kernel⟩,
    ⟨s1, ⟨3, 5, 6, 1, 2, 3, 5, true, false, 0, false⟩, by decide +kernel⟩,
    ⟨s1, .a, by decide +kernel⟩⟩

theorem met_FrameRoundTrip :
    ∃ (kind seq : Nat) (payload : List Nat), 1 ≤ kind ∧ kind ≤ 3 ∧ seq < 16 ∧ payload.length ≤ 64 ∧ (∀ b ∈ payload, b <
        256) :=
  ⟨1, 0, [], by decide +kernel⟩

theorem met_FloatAtMember :
    (∃ (s : State) (bytes : List Nat) (intact : Bool), s.dev.monLive = true ∧ s.dev.monHead = false ∧ s.dev.link.address
        ≠ 0 ∧ s.dev.reg Reg.floatFrameErrors < 0xFFFFFFFF ∧ (intact = true → ∀ seq payload, parseFrame bytes ≠ some (1,
        seq, payload))) ∧
    (∃ (s : State) (bytes : List Nat) (seq : Nat) (payload : List Nat) (c f : Bool), s.dev.monLive = true ∧ s.dev.monHead
        = false ∧ s.dev.link.address ≠ 0 ∧ parseFrame bytes = some (1, seq, payload) ∧ (s.dev.svc.agentSeq ≠ some seq ∨
        s.dev.svc.agent.sent ≠ payload) ∧ c = (targetWord payload).testBit 12 ∧ f = (targetWord payload).testBit 13) ∧
    (∃ (s : State) (bytes : List Nat) (seq : Nat) (payload : List Nat), s.dev.monLive = true ∧ s.dev.monHead = false ∧
        s.dev.link.address ≠ 0 ∧ parseFrame bytes = some (1, seq, payload) ∧ s.dev.svc.agentSeq ≠ some seq ∧
        s.dev.svc.agent.waiting = false ∧ s.dev.svc.agent.transfer = .idle ∧ payload.length = 6 ∧ nth payload 0 = 1 ∧ nth
        payload 1 = 2 ∧ (payload.drop 2).take 2 = [0x00, 0x10]) ∧
    (∃ (s : State) (bytes : List Nat) (seq : Nat) (payload : List Nat), s.dev.monLive = true ∧ s.dev.monHead = false ∧
        s.dev.link.address ≠ 0 ∧ parseFrame bytes = some (1, seq, payload) ∧ s.dev.svc.agentSeq = some seq ∧
        s.dev.svc.agent.sent = payload) ∧
    (∃ s : State, s.dev.monLive = true ∧ s.dev.monHead = false ∧ s.dev.report ≠ s.dev.link.reportSent) :=
  ⟨⟨s1, [], true, by decide, by decide +kernel, by decide +kernel, by decide +kernel,
       fun _ _ _ =>
      by rw [show parseFrame [] = none by decide +kernel]; nofun⟩,
    ⟨s1, [19, 6, 1, 2, 0, 16, 5, 0, 216, 111], 3, [1, 2, 0, 16, 5, 0], false, false, by decide +kernel⟩,
    ⟨s1, [19, 6, 1, 2, 0, 16, 5, 0, 216, 111], 3, [1, 2, 0, 16, 5, 0], by decide +kernel⟩,
    ⟨s7, [19, 6, 1, 2, 0, 16, 5, 0, 216, 111], 3, [1, 2, 0, 16, 5, 0], by decide +kernel⟩,
    ⟨s1, by decide +kernel⟩⟩

end Rows

/-! ## The chain at the head -/

namespace Casting

/-- Where no page table maps anything, no address of the row ring is mapped, whatever page the firmware has chosen for it. -/
theorem ring_unmapped (d : Dev) (v : Nat) (none : d.ctl.pages = []) : (faultKind (d.translate 9 v true)).isSome = true := by
  simp [Dev.translate, Dev.pageEntry, none, Tab.find, faultKind]

def pack (s : State) : State := State.onDev s (fun d =>
  { d with
    link := { d.link with
      rowsStarted := true }, chain := { d.chain with lastValid := [(2, 5),(3,1000000)], legs := [(2,0),(3,1)] } } |>.set
  (Reg.portState 0) 3 |>.set (Reg.portState 1) 3 |>.set (Reg.portState 2) 3 |>.set Reg.rowNumber 1000005 |>.set
  Reg.highestAddress 4 |>.set (Reg.mirrorState 2) 1 |>.set (Reg.mirrorState 3) 2 |>.set (Reg.mirrorState 4) 3 |>.set
  (Reg.memberWindows 2) (3+4096*0x7F) |>.set (Reg.memberWindows 3) (4+4096*0x7F) |>.set Reg.startupState 7 |>.set
  Reg.chainState 4|>.set (Reg.memberSerial 2) 77)

def legged (d : Dev) : Dev := { d with link := { d.link with rowLegs := d.walkLegs } }

def ch (f : Chain → Chain) (st : Nat := 4) : State := State.onDev (pack booted) (fun d =>
  { d with chain := f d.chain, link := {d.link with sentOut := 0} } |>.set Reg.chainState st |> legged)

def m1 (f : Link → Link) : State := State.onDev memberUp (fun d => { d with link := f { d.link with rowTaken := true } }
  |>.set Reg.windowAssignment (3 + 128*1 + 512*0 + 4096*4 + 2^19*0) |>.set Reg.rowNumber 1)

def port3 (d : Dev) : Dev := { d with
  link := { d.link with portA := { d.link.portA with driven := true }, portB := { d.link.portB with driven := true },
                        portC := { d.link.portC with driven := true } } }

def going (f : Dev → Dev) : State := State.onDev (pack booted) (fun d =>
  f (port3 { d with link := { d.link with sentOut := 0, legsOut := [0], legsBefore := [0] } }) |>.set Reg.rowRingHead 63
  |> legged)

def s1 : State := ch (fun c => {c with timingRows := [(2,5),(5,7)], alignRow := some (5,6), bindOff := some (some 5,1)})
def s2 : State := going id
def s3 : State := State.onDev (going id) (fun d =>
  {d with link := {d.link with sentOut := 2, legsOut := [0,1,2], legsBefore := [0,1,2]}} |>.set Reg.rowRingHead 255 |>.set
  (Reg.tableLength 9) 1)
def s4 : State := State.onDev (ch (fun c =>
  {c with opened := true, assigning := some (5,3,6,1), claim := some ⟨3,0,5,6,1,3,0⟩}) 2) (fun d => d.set Reg.startupState
  6)
def s5 : State := going (fun d => {d with chain := {d.chain with ring := true}})
def s6 : State := State.onDev (ch (fun c =>
  {c with
    ring := true, ringMisses := 2, incrementalAt := some 5})) (fun d =>
    {d with link := {d.link with sentOut := 2, legsOut := [0,1,2], legsBefore := [0,1,2]}}|>.set Reg.rowRingHead 63)
def s7 : State := ch (fun c => {c with full := false, opened := false, calling := true}) 3
def s8 : State := ch (fun c => {c with full := true, opened := false, startRow := 999900, pass := 255}) 1
def s9 : State := ch (fun c => {c with opened := true, slot0 := none, thisPass := [2,3,1]}) 2
def s10 : State := ch (fun c => {c with opened := true, slot0 := none, claim := some ⟨3,0,5,6,1,3,0⟩}) 2
def s11 : State := State.onDev (ch (fun c => {c with opened := true, slot0 := none, claim := some ⟨3,0,5,6,1,3,0⟩}) 2)
  (fun d => (List.range 30).foldl (fun d w => (d.set (Reg.mirrorState (w+2)) 1).set (Reg.memberWindows (w+2)) (w +
  4096*0x7F)) ((d.set Reg.linkRateInForce 1).set Reg.highestAddress 32))
def s12 : State := ch (fun c => {c with opened := true, assigning := some (5,3,6,1), claim := some ⟨3,0,5,6,1,3,0⟩}) 2
def s13 : State := ch (fun c => {c with opened := true, assigning := some (5,3,6,4), claim := some ⟨3,0,5,6,1,3,0⟩}) 2
def s14 : State := State.onDev (ch (fun c =>
  {c with
    opened := true, closing := true, full := true, alignRow := some (64,5)}) 2) (fun d =>
    ({d with pwr := {d.pwr with logic := .startup}} |>.set Reg.startupState 6))
def s15 : State := m1 id
def s16 : State := m1 (fun l =>
  {l with address := 0, passAccepted := some 3, claimNonce := some 3, bindOff := some (0,0)})
def s17 : State := State.onDev (going id) (fun d =>
  {d with chain := {d.chain with sets := [⟨2, 700, (List.range 8).map (fun i => (3*i, i+5))⟩, ⟨3, 700, (List.range 8).map
                                   (fun i => (i, i+5))⟩, ⟨5, 700, (List.range 48).map (fun i => (i, i+5))⟩]}})
def s18 : State := ch (fun c => {c with timingRows := [(2,5),(5,7)], fragments := [0,1]})
def s19 : State := State.onDev (ch (fun c => {c with opened := true, errorsAtOpen := [0,0,0]}) 2) (fun d => (d.set
  Reg.linkRate 2).set (Reg.crcErrors 1) 9)

theorem met_RowsAtHead :
    (∃ s : State, s.dev.drivesRows = true ∧ s.dev.rowsEnded = true ∧ s.dev.svc.requests = []) ∧
    (∃ (s : State) (row : Nat), s.dev.drivesRows = true ∧ s.dev.rowsEnded = false ∧ row = (if s.dev.link.rowsStarted then
        (s.dev.row + 1) % 2 ^ 32 else 0)) ∧
    (∃ (s : State) (p : Port) (h next : Nat) (timing : MarkTiming), s.dev.drivesRows = true ∧ h = (if s.dev.nat
        Reg.rowRingHead = 0xFF then 0 else (s.dev.nat Reg.rowRingHead + 1) % 64) ∧ next = ((s.dev.legsAfter.find? (fun l
        => s.dev.walkLegs.contains l)).map (·.1)).getD 3 ∧ s.dev.on (Reg.tableLength 9) = false ∧ s.dev.nat
        (Reg.portState p.num) = 3 ∧ s.dev.legReturn p.num = true ∧ s.dev.sentFor p.num s.dev.row = true ∧ ¬
        (s.dev.chain.ring = false ∧ p = .b ∧ s.dev.link.sentOut = 0) ∧ timing.sincePs ≤ 100000000) ∧
    (∃ (s : State) (p : Port) (h v : Nat) (timing : MarkTiming), s.dev.drivesRows = true ∧ h = (if s.dev.nat
        Reg.rowRingHead = 0xFF then 0 else (s.dev.nat Reg.rowRingHead + 1) % 64) ∧ v = Config.ringPage.toNat * 4096 + h *
        1508 ∧ s.dev.on (Reg.tableLength 9) = true ∧ (s.dev.legsAfter.find? (fun l => s.dev.walkLegs.contains l)) = none
        ∧ s.dev.nat (Reg.portState p.num) = 3 ∧ s.dev.legReturn p.num = true ∧ s.dev.sentFor p.num s.dev.row = true ∧ ¬
        (s.dev.chain.ring = false ∧ p = .b ∧ s.dev.link.sentOut = 0) ∧ (faultKind (s.dev.translate 9 v true)).isSome =
        true ∧ timing.sincePs ≤ 100000000) ∧
    (∃ (s : State) (p : Port) (row : Nat), s.dev.drivesRows = true ∧ s.dev.nat (Reg.portState p.num) = 3 ∧ s.dev.sentFor
        p.num row = false ∧ ¬ (p = .b ∧ s.dev.link.sentOut = 0) ∧ s.dev.chain.upFrames = [] ∧ s.dev.chain.timingRows =
        []) ∧
    (∃ (s : State) (p : Port), s.dev.drivesRows = true ∧ s.dev.nat (Reg.portState p.num) = 3 ∧ s.dev.reg
        (Reg.headerErrors p.num) < 0xFFFFFFFF ∧ s.dev.chain.upFrames = [] ∧ s.dev.chain.timingRows = []) ∧
    (∃ (s : State) (p : Port), s.dev.drivesRows = true ∧ s.dev.legReturn p.num = true ∧ ¬ (s.dev.chain.ring = true ∧ p =
        .b) ∧ s.dev.link.ringRow = none ∧ s.dev.chain.upFrames = []) ∧
    (∃ s : State, s.dev.drivesRows = true ∧ s.dev.chain.ring = true ∧ s.dev.legReturn 1 = true ∧ s.dev.link.ringRow =
        none ∧ s.dev.chain.upFrames = []) :=
  ⟨⟨s1, by decide +kernel⟩,
    ⟨booted, 161, by decide +kernel⟩,
    ⟨s2, .a, 0, 1, ⟨0, 0, 0⟩, by decide +kernel⟩,
    ⟨s3, .c, 0, _, ⟨0, 0, 0⟩, by decide +kernel, by decide +kernel, rfl, by decide +kernel, by decide +kernel,
      by decide +kernel, by decide +kernel, by decide +kernel,
       by decide +kernel, ring_unmapped _ _
      (by decide +kernel), by decide +kernel⟩,
    ⟨s4, .a, 0, by decide +kernel⟩,
    ⟨s4, .a, by decide +kernel⟩,
    ⟨s4, .a, by decide +kernel⟩,
    ⟨s5, by decide +kernel⟩⟩

theorem met_CastOnAtHead :
    (∃ s : State, s.dev.drivesRows = true ∧ s.dev.chainBusy = false) ∧
    (∃ (s : State) (r : Nat), s.dev.drivesRows = true ∧ s.dev.chain.incrementalAt = some r ∧ s.dev.chainBusy = false ∧
        s.dev.rowsEnded = false ∧ rowAhead r s.dev.row = false) ∧
    (∃ s : State, s.dev.drivesRows = true ∧ s.dev.nat Reg.chainState = 3 ∧ s.dev.chain.opened = false ∧ s.dev.chain.full
        = false) ∧
    (∃ s : State, s.dev.drivesRows = true ∧ s.dev.nat Reg.chainState = 1 ∧ s.dev.link.rowsStarted = true ∧
        s.dev.chain.full = true ∧ 7 ≤ (s.dev.row + 2 ^ 32 - s.dev.chain.startRow) % 2 ^ 32) ∧
    (∃ s : State, s.dev.drivesRows = true ∧ s.dev.chain.opened = true ∧ s.dev.chain.slot0 = none ∧ s.dev.chain.calling =
        false ∧ s.dev.chain.assigning = none ∧ s.dev.chain.claim = none ∧ s.dev.chain.closing = false) ∧
    (∃ (s : State) (c : _) (wa : Nat), s.dev.drivesRows = true ∧ s.dev.chain.claim = some c ∧ s.dev.allocWindows c.count
        (min c.rate 2) = some wa ∧ s.dev.chain.opened = true ∧ s.dev.chain.assigning = none ∧ s.dev.nat
        Reg.highestAddress < 4094) ∧
    (∃ (s : State) (c : _), s.dev.drivesRows = true ∧ s.dev.chain.claim = some c ∧ s.dev.allocWindows c.count (min c.rate
        2) = none ∧ s.dev.chain.opened = true ∧ s.dev.chain.assigning = none ∧ s.dev.nat Reg.highestAddress < 4094) ∧
    (∃ (s : State) (g c : _) (a : Nat), s.dev.drivesRows = true ∧ s.dev.chain.assigning = some g ∧ s.dev.chain.claim =
        some c ∧ a = g.1 ∧ a ≤ 4094 ∧ g.2.2.2 ≠ 0 ∧ s.dev.nat Reg.startupState ≠ 7 ∧ s.dev.nat Reg.startupState ≠ 8) ∧
    (∃ (s : State) (g c : _), s.dev.drivesRows = true ∧ s.dev.chain.assigning = some g ∧ s.dev.chain.claim = some c ∧ g.1
        ≤ 4094 ∧ g.2.2.2 ≠ 0 ∧ (s.dev.nat Reg.startupState = 7 ∨ s.dev.nat Reg.startupState = 8)) ∧
    (∃ (s : State) (g : _) (a : Nat) (c : _), s.dev.drivesRows = true ∧ s.dev.chain.assigning = some g ∧ a = g.1 ∧ a ≤
        4094 ∧ 4 ≤ g.2.2.2 ∧ s.dev.chain.claim = some c) ∧
    (∃ (s : State) (g : _), s.dev.drivesRows = true ∧ s.dev.chain.assigning = some g ∧ 1 ≤ g.2.2.2 ∧ g.2.2.2 < 4 ∧
        s.dev.chain.claim ≠ none) ∧
    (∃ s : State, s.dev.drivesRows = true ∧ s.dev.chain.opened = true ∧ s.dev.chain.closing = true ∧ (∀ e ∈
        s.dev.chain.alignRow.toList, rowAhead e.1 s.dev.row = false)) :=
  ⟨⟨booted, by decide +kernel⟩,
    ⟨s6, 5, by decide +kernel⟩,
    ⟨s7, by decide +kernel⟩,
    ⟨s8, by decide +kernel⟩,
    ⟨s9, by decide +kernel⟩,
    ⟨s10, ⟨3, 0, 5, 6, 1, 3, 0⟩, 520192, by decide +kernel⟩,
    ⟨s11, ⟨3, 0, 5, 6, 1, 3, 0⟩, by decide +kernel⟩,
    ⟨s4, (5, 3, 6, 1), ⟨3, 0, 5, 6, 1, 3, 0⟩, 5, by decide +kernel⟩,
    ⟨s12, (5, 3, 6, 1), ⟨3, 0, 5, 6, 1, 3, 0⟩, by decide +kernel⟩,
    ⟨s13, (5, 3, 6, 4), 5, ⟨3, 0, 5, 6, 1, 3, 0⟩, by decide +kernel⟩,
    ⟨s4, (5, 3, 6, 1), by decide +kernel⟩,
    ⟨s14, by decide +kernel⟩⟩

theorem met_CastOnAtMember :
    (∃ s : State, s.dev.drivesRows = false ∧ s.dev.monLive = true ∧ s.dev.monHead = false ∧ s.dev.link.rowTaken = true) ∧
    (∃ (s : State) (pass : Nat), s.dev.drivesRows = false ∧ s.dev.monLive = true ∧ s.dev.monHead = false ∧
        s.dev.link.rowTaken = true ∧ s.dev.link.address = 0 ∧ s.dev.link.passAccepted = some (pass % 256)) ∧
    (∃ (s : State) (pass : Nat), s.dev.drivesRows = false ∧ s.dev.monLive = true ∧ s.dev.monHead = false ∧
        s.dev.link.rowTaken = true ∧ (s.dev.link.address ≠ 0 ∨ s.dev.link.passAccepted ≠ some (pass % 256))) ∧
    (∃ (s : State) (address nonce : Nat), s.dev.drivesRows = false ∧ s.dev.monLive = true ∧ s.dev.monHead = false ∧
        s.dev.link.rowTaken = true ∧ (s.dev.link.address = 0 ∧ s.dev.link.claimNonce = some nonce ∨ s.dev.link.address ≠
        0 ∧ nonce = 0 ∧ address = s.dev.link.address)) ∧
    (∃ (s : State) (address nonce : Nat), s.dev.drivesRows = false ∧ s.dev.monLive = true ∧ s.dev.monHead = false ∧
        s.dev.link.rowTaken = true ∧ (s.dev.link.address = 0 ∧ s.dev.link.claimNonce ≠ some nonce ∨ s.dev.link.address ≠
        0 ∧ (nonce ≠ 0 ∨ address ≠ s.dev.link.address))) :=
  ⟨⟨s15, by decide +kernel⟩,
    ⟨s16, 3, by decide +kernel⟩,
    ⟨s15, 0, by decide +kernel⟩,
    ⟨s15, 5, 0, by decide +kernel⟩,
    ⟨s15, 0, 0, by decide +kernel⟩⟩

theorem met_ChainUpkeep :
    (∃ (s : State) (f : Nat), s.dev.drivesRows = true ∧ s.dev.nat Reg.chainState = 4 ∧ field (s.dev.nat Reg.chainFlags) 0
        1 = 0 ∧ f ∉ s.dev.chain.fragments ∧ s.dev.chain.fragments.length < 64 ∧ s.dev.reg Reg.lateStitchCount <
        0xFFFFFFFF) ∧
    (∃ (s : State) (a : Nat), s.dev.drivesRows = true ∧ s.dev.chain.opened = true ∧ a ∈ s.dev.chain.thisPass ∧ s.dev.nat
        (Reg.mirrorState a) = 1 ∧ s.dev.silent a = true ∧ s.dev.svc.requests = [] ∧ a ≤ 4094) ∧
    (∃ (s : State) (a : Nat), s.dev.drivesRows = true ∧ 2 ≤ a ∧ a ≤ s.dev.nat Reg.highestAddress ∧ a ∉
        s.dev.chain.thisPass ∧ s.dev.nat (Reg.mirrorState a) = 1 ∧ s.dev.silent a = true ∧ s.dev.svc.requests = [] ∧
        s.dev.nat Reg.highestAddress ≤ 4094) ∧
    (∃ (s : State) (a : Nat), s.dev.drivesRows = true ∧ (s.dev.nat (Reg.mirrorState a) = 2 ∨ s.dev.nat (Reg.mirrorState
        a) = 3) ∧ s.dev.silent a = false) ∧
    (∃ (s : State) (a : Nat) (e : _), s.dev.drivesRows = true ∧ a ≠ 1 ∧ s.dev.chain.sets.find? (fun x => x.member == a) =
        some e ∧ s.dev.setComplete e = true) ∧
    (∃ (s : State) (a : Nat) (e : _), s.dev.drivesRows = true ∧ a ≠ 1 ∧ s.dev.chain.sets.find? (fun x => x.member == a) =
        some e ∧ s.dev.setComplete e = false) ∧
    (∃ (s : State) (a : Nat) (r : Int), s.dev.drivesRows = true ∧ Tab.find a s.dev.chain.timingRows = some r ∧ s.dev.nat
        Reg.chainState = 4 ∧ 64 ≤ (s.dev.row + 2 ^ 32 - r.toNat) % 2 ^ 32) ∧
    (∃ s : State, s.dev.drivesRows = true ∧ s.dev.chainBusy = false ∧ s.dev.rowsEnded = false) ∧
    (∃ s : State, s.dev.fallbackDue = true) ∧
    (∃ s : State, s.dev.drivesRows = true ∧ s.dev.chain.ring = true ∧ 2 ≤ s.dev.chain.ringMisses ∧ s.dev.reg
        Reg.ringBreakCount < 0xFFFFFFFF ∧ s.dev.chain.breakDue = false) ∧
    (∃ (s : State) (b : _) (e : Nat), s.dev.chain.bindOff = some b ∧ b.1 = some e ∧ s.dev.drivesRows = true ∧ rowAhead e
        s.dev.row = false ∧ s.dev.pwr.logic ≠ .sleepEntry ∧ s.dev.chain.restart = false) ∧
    (∃ (s : State) (b : _), s.dev.link.bindOff = some b ∧ s.dev.monHead = false ∧ s.dev.monLive = true ∧ b.2 = 0 ∧
        rowAhead b.1 s.dev.row = false) :=
  ⟨⟨booted, 0, by decide +kernel⟩,
    ⟨s9, 1, by decide +kernel⟩,
    ⟨s4, 2, by decide +kernel⟩,
    ⟨s4, 3, by decide +kernel⟩,
    ⟨s17, 2, ⟨2, 700, [(0, 5), (3, 6), (6, 7), (9, 8), (12, 9), (15, 10), (18, 11), (21, 12)]⟩, by decide +kernel⟩,
    ⟨s17, 3, ⟨3, 700, [(0, 5), (1, 6), (2, 7), (3, 8), (4, 9), (5, 10), (6, 11), (7, 12)]⟩, by decide +kernel⟩,
    ⟨s18, 2, 5, by decide +kernel⟩,
    ⟨booted, by decide +kernel⟩,
    ⟨s19, by decide +kernel⟩,
    ⟨s6, by decide +kernel⟩,
    ⟨s1, (some 5, 1), 5, by decide +kernel⟩,
    ⟨s16, (0, 0), by decide +kernel⟩⟩

end Casting

/-! ## The object server and its ports -/

namespace Objects

def rd : List Nat := [1,2,0,0x10,1,0]

def tr (s : State) (t : Transfer) : State := State.onDev s (fun d =>
  { d with svc := { d.svc with canA := { d.svc.canA with transfer := t }, spi := { d.svc.spi with transfer := t }, agent
                                 := { d.svc.agent with transfer := t } } })

def p1 (s : State) : State := State.onDev s (fun d =>
  {d with svc := {d.svc with pubQueue := [(3,[1],[true,false]),(1,[5],[true,true])], pubLatches := [(1,5)]}} |>.set
  (Reg.pubMode 1) 2 |>.set (Reg.pubEntries 1) 2 |>.set (Reg.pubMap 1 1) 0x10000200 |>.set (Reg.pubMap 1 2) 0x12000200)

def p2 (s : State) : State := State.onDev (p1 s) (fun d => d.set (Reg.pubMap 1 1) 0x30010180 |>.set (Reg.pubMap 1 2)
  0x36000180 |>.set Reg.snapReady 0x7F)

def w1 (s : State) : State := State.onDev s (fun d =>
  {d with ctl := {d.ctl with pages := [(11*1024, 0x100C0007), (11*1024+1, 0x24000003)]}} |>.set (Reg.tableLength 11) 2
  |>.set Reg.spiWindowEnable 1)

def rd2 : List Nat := [1,2,0,0x10,2,0]

def pack (s : State) : State := State.onDev s (fun d => { d with link := { d.link with rowsStarted := true }} |>.set
  (Reg.portState 0) 3 |>.set (Reg.portState 1) 3 |>.set (Reg.portState 2) 3 |>.set Reg.rowNumber 1000005 |>.set
  Reg.highestAddress 4 |>.set (Reg.mirrorState 2) 1 |>.set (Reg.mirrorState 3) 2 |>.set (Reg.mirrorState 4) 3 |>.set
  (Reg.memberWindows 2) (3+4096*0x7F) |>.set (Reg.memberWindows 3) (4+4096*0x7F) |>.set Reg.startupState 7 |>.set
  Reg.chainState 4|>.set (Reg.memberSerial 2) 77)

def rq (l : List MemberRequest) : State := State.onDev (pack booted) (fun d =>
  {d with svc := {d.svc with requests := l, canA := {d.svc.canA with waiting := true}}})

def s1 : State := State.onDev commissioned (fun d => {d with pwr := {d.pwr with hv := .inReset}})
def s2 : State := tr commissioned (.reading 1 0x1000 8 (List.replicate 54 65) 1 false)
def s3 : State := tr commissioned (.reading 1 0x1A02 1 [] 1 false)
def s4 : State := tr commissioned (.reading 1 0x1000 8 [65,66,67] 2 false)
def s5 : State := tr commissioned (.writing 1 0x1000 8 8 2 [1,1,1,1] (some rd))
def s6 : State := tr commissioned (.writing 1 0x1000 8 8 1 [1,1,1,1] none)
def s7 : State := tr commissioned (.writing 1 0x1000 8 8 1 [65,65,65,65] none)
def s8 : State := tr commissioned (.writing 1 0x1000 8 0x1000 1 [] none)
def s9 : State := State.onDev commissioned (fun d => {d with svc := {d.svc with code := 77}})
def s10 : State := State.onDev booted (fun d => d.set (Reg.busState 0) 2 |>.set (Reg.txErrorCount 0) 7)
def s11 : State := p1 booted
def s12 : State := p2 commissioned
def s13 : State := w1 booted
def s14 : State := pack booted
def s15 : State := rq [⟨2,0,rd2,[],0,true,0⟩]
def s16 : State := rq [⟨2,0,rd2,[],1,true,7⟩]

theorem met_ReadsAndWrites :
    (∃ (s : State) (who : Requester) (target i sub : Nat) (q : Ask) (r : _), ForSelf who target ∧ Accepts s who ∧ q =
        ⟨target, i, sub, .read⟩ ∧ (locate (byAgent who) i sub).toOption = some r ∧ r.acc ≠ .wo ∧ s.dev.crossingFails
        (byAgent who) i = false ∧ r.ty.bulk = false) ∧
    (∃ (s : State) (who : Requester) (target i sub : Nat) (q : Ask) (r : _) (data : List Nat), ForSelf who target ∧
        Accepts s who ∧ q = ⟨target, i, sub, .read⟩ ∧ (locate (byAgent who) i sub).toOption = some r ∧ r.acc ≠ .wo ∧
        s.dev.crossingFails (byAgent who) i = false ∧ r.ty.bulk = true ∧ bankOf i = none ∧ ((meets s who .read).bulkValue
        r i sub).1.toOption = some data) ∧
    (∃ (s : State) (who : Requester) (target i sub : Nat) (q : Ask) (r : _), ForSelf who target ∧ Accepts s who ∧ q =
        ⟨target, i, sub, .read⟩ ∧ (locate (byAgent who) i sub).toOption = some r ∧ r.acc ≠ .wo ∧ s.dev.crossingFails
        (byAgent who) i = false ∧ r.ty.bulk = true ∧ bankOf i = none ∧ ((meets s who .read).bulkValue r i sub).1.toOption
        = none) ∧
    (∃ (s : State) (who : Requester) (target i sub : Nat) (q : Ask) (r : _) (g : Nat), ForSelf who target ∧ Accepts s who
        ∧ q = ⟨target, i, sub, .read⟩ ∧ (locate (byAgent who) i sub).toOption = some r ∧ r.acc ≠ .wo ∧
        s.dev.crossingFails (byAgent who) i = false ∧ bankOf i = some g ∧ sub = 1) ∧
    (∃ (s : State) (who : Requester) (target i sub : Nat) (q : Ask) (r : _), ForSelf who target ∧ Accepts s who ∧ q =
        ⟨target, i, sub, .read⟩ ∧ (locate (byAgent who) i sub).toOption = some r ∧ r.acc = .wo) ∧
    (∃ (s : State) (who : Requester) (target i sub : Nat) (q : Ask) (r : _), ForSelf who target ∧ Accepts s who ∧ q =
        ⟨target, i, sub, .read⟩ ∧ (locate (byAgent who) i sub).toOption = some r ∧ r.acc ≠ .wo ∧ s.dev.crossingFails
        (byAgent who) i = true ∧ s.dev.cpuLive = true ∧ s.dev.reg Reg.islandTimeouts < 0xFFFFFFFF) ∧
    (∃ (s : State) (who : Requester) (target i sub : Nat) (q : Ask), ForSelf who target ∧ Accepts s who ∧ q = ⟨target, i,
        sub, .read⟩ ∧ (locate (byAgent who) i sub).toOption = none) ∧
    (∃ (s : State) (who : Requester) (target i sub : Nat) (v : List Nat) (q : Ask), ForSelf who target ∧ Accepts s who ∧
        q = ⟨target, i, sub, .write v⟩ ∧ (((meets s who (.write v)).writeFixed (byAgent who) (s.dev.rights who) i sub
        v).toOption).isSome = true ∧ q.softResets = false) ∧
    (∃ (s : State) (who : Requester) (target i sub : Nat) (v : List Nat) (q : Ask), ForSelf who target ∧ Accepts s who ∧
        q = ⟨target, i, sub, .write v⟩ ∧ (refusalOf ((meets s who (.write v)).writeFixed (byAgent who) (s.dev.rights who)
        i sub v)).isSome = true) ∧
    (∃ (s : State) (who : Requester) (target i sub : Nat) (v : List Nat) (q : Ask), ForSelf who target ∧ Accepts s who ∧
        q = ⟨target, i, sub, .write v⟩ ∧ (mayWrite (byAgent who) (s.dev.rights who) i sub).isOk = false) ∧
    (∃ (s : State) (who : Requester) (target i sub : Nat) (v : List Nat) (q : Ask) (r : _), ForSelf who target ∧ Accepts
        s who ∧ q = ⟨target, i, sub, .write v⟩ ∧ (mayWrite (byAgent who) (s.dev.rights who) i sub).toOption = some r ∧
        (r.ty.bulk = true ∨ v.length < r.ty.size)) ∧
    (∃ (s : State) (who : Requester) (target i sub : Nat) (v : List Nat) (q : Ask) (r : _), ForSelf who target ∧ Accepts
        s who ∧ q = ⟨target, i, sub, .write v⟩ ∧ (mayWrite (byAgent who) (s.dev.rights who) i sub).toOption = some r ∧
        r.ty.bulk = false ∧ r.ty.size ≤ v.length ∧ isLatch (i * 256 + sub) = false ∧ inRange r i (r.ty.value v) = none) ∧
    (∃ (s : State) (who : Requester) (target i sub : Nat) (v : List Nat) (q : Ask) (r : _) (w : Int), ForSelf who target
        ∧ Accepts s who ∧ q = ⟨target, i, sub, .write v⟩ ∧ (mayWrite (byAgent who) (s.dev.rights who) i sub).toOption =
        some r ∧ inRange r i (r.ty.value v) = some w ∧ r.ty.bulk = false ∧ r.ty.size ≤ v.length ∧ isLatch (i * 256 + sub)
        = false ∧ (s.dev.relationHolds (byAgent who) (i * 256 + sub) w && s.dev.ruleAllows i sub w) = false) ∧
    (∃ (s : State) (who : Requester) (target i sub : Nat) (v : List Nat) (q : Ask) (r : _) (w : Int), ForSelf who target
        ∧ Accepts s who ∧ q = ⟨target, i, sub, .write v⟩ ∧ (mayWrite (byAgent who) (s.dev.rights who) i sub).toOption =
        some r ∧ inRange r i (r.ty.value v) = some w ∧ r.ty.bulk = false ∧ r.ty.size ≤ v.length ∧ ownEffect (i * 256 +
        sub) = false ∧ s.dev.relationHolds (byAgent who) (i * 256 + sub) w = true ∧ s.dev.ruleAllows i sub w = true ∧
        s.dev.crossingFails (byAgent who) i = false) :=
  ⟨⟨s1, .canA, 1, 4352, 8, ⟨1, 4352, 8, .read⟩, ⟨4352, 4352, 8, 8, .u16, .ro, ObjRange.any, 0⟩,
      by unfold Accepts ForSelf; decide +kernel⟩,
    ⟨commissioned, .canA, 1, 4096, 8, ⟨1, 4096, 8, .read⟩, ⟨4096, 4096, 8, 8, .vstr 32, .rw, ObjRange.any, 0⟩, [89, 76,
      50, 52], by unfold Accepts ForSelf; decide +kernel⟩,
    ⟨commissioned, .canA, 1, 8256, 8, ⟨1, 8256, 8, .read⟩, ⟨8256, 8256, 8, 8, .domain 131004, .ro, ObjRange.any, 0⟩,
      by unfold Accepts ForSelf; decide +kernel⟩,
    ⟨commissioned, .canA, 1, 6658, 1, ⟨1, 6658, 1, .read⟩, ⟨6658, 6658, 1, 1, .domain 48, .ro, ObjRange.any, 0⟩, 1,
      by unfold Accepts ForSelf; decide +kernel⟩,
    ⟨s1, .canA, 1, 4352, 1, ⟨1, 4352, 1, .read⟩, ⟨4352, 4352, 1, 1, .u8, .wo, ObjRange.among [2, 3], 0⟩,
      by unfold Accepts ForSelf; decide +kernel⟩,
    ⟨s1, .canA, 1, 4096, 1, ⟨1, 4096, 1, .read⟩, ⟨4096, 4096, 1, 1, .u32, .const, ObjRange.any, 1347180098⟩,
      by unfold Accepts ForSelf; decide +kernel⟩,
    ⟨s1, .canA, 1, 1, 1, ⟨1, 1, 1, .read⟩, by unfold Accepts ForSelf; decide +kernel⟩,
    ⟨s1, .canA, 1, 16384, 8, [1], ⟨1, 16384, 8, .write [1]⟩, by unfold Accepts ForSelf; decide +kernel⟩,
    ⟨s1, .canA, 1, 1, 1, [250, 0], ⟨1, 1, 1, .write [250, 0]⟩, by unfold Accepts ForSelf; decide +kernel⟩,
    ⟨s1, .canA, 1, 1, 1, [250, 0], ⟨1, 1, 1, .write [250, 0]⟩, by unfold Accepts ForSelf; decide +kernel⟩,
    ⟨s1, .canA, 1, 4096, 8, [250, 0], ⟨1, 4096, 8, .write [250, 0]⟩, ⟨4096, 4096, 8, 8, .vstr 32, .rw, ObjRange.any,
      0⟩, by unfold Accepts ForSelf; decide +kernel⟩,
    ⟨s1, .canA, 1, 4352, 1, [250, 0], ⟨1, 4352, 1, .write [250, 0]⟩, ⟨4352, 4352, 1, 1, .u8, .wo, ObjRange.among [2,
      3], 0⟩, by unfold Accepts ForSelf; decide +kernel⟩,
    ⟨s1, .canA, 1, 16384, 15, [250, 0], ⟨1, 16384, 15, .write [250, 0]⟩, ⟨16384, 16384, 15, 15, .u16, .rw,
      ObjRange.span 150 1200, 600⟩, 250, by unfold Accepts ForSelf; decide +kernel⟩,
    ⟨s1, .canA, 1, 16384, 8, [1], ⟨1, 16384, 8, .write [1]⟩, ⟨16384, 16384, 8, 8, .bool, .rw, ObjRange.any, 1⟩, 1,
      by unfold Accepts ForSelf; decide +kernel⟩⟩

theorem met_WriteForms :
    (∃ (s : State) (who : Requester) (i sub : Nat) (v : List Nat) (q : Ask), Accepts s who ∧ q = ⟨1, i, sub, .write v⟩ ∧
        (((meets s who (.write v)).writeFixed (byAgent who) (s.dev.rights who) i sub v).toOption).isSome = true ∧
        q.softResets = false) ∧
    (∃ (s : State) (who : Requester) (i sub : Nat) (v : List Nat) (q : Ask), Accepts s who ∧ q = ⟨1, i, sub, .write v⟩ ∧
        (refusalOf ((meets s who (.write v)).writeFixed (byAgent who) (s.dev.rights who) i sub v)).isSome = true) ∧
    (∃ (s : State) (who : Requester) (i sub : Nat) (r : _) (v : List Nat) (w : Int), (mayWrite (byAgent who)
        (s.dev.rights who) i sub).toOption = some r ∧ inRange r i (r.ty.value v) = some w ∧ Accepts s who ∧ ownEffect (i
        * 256 + sub) = false ∧ r.ty.bulk = false ∧ r.ty.size ≤ v.length ∧ s.dev.relationHolds (byAgent who) (i * 256 +
        sub) w = true ∧ s.dev.ruleAllows i sub w = true ∧ s.dev.crossingFails (byAgent who) i = false) ∧
    (∃ (s : State) (who : Requester) (r : Reg) (v : List Nat), r ∈ [Reg.resetCause, Reg.monResetCause,
        Reg.checkMismatchLatched, Reg.legacyWakeStatus, Reg.vbusFault, Reg.selfTestStatus] ∧ MayWrite s who r ∧
        objectBytes r 0 = List.replicate v.length 0) ∧
    (∃ (s : State) (who : Requester) (r : _) (v : List Nat), r ∈ [(Reg.ovLatched, Reg.ovLive), (Reg.uvLatched,
        Reg.uvLive)] ∧ MayWrite s who r.1 ∧ objectBytes r.1 0 = List.replicate v.length 0) ∧
    (∃ (s : State) (who : Requester) (m : List Nat), Accepts s who ∧ (ForSelf who (parseAsk m).target) ∧ 6 ≤ m.length ∧
        nth m 0 ∉ [1, 2, 3, 4, 5, 0x7F]) ∧
    (∃ s : State, s.dev.cpuLive = true ∧ s.dev.reg Reg.islandTimeouts < 0xFFFFFFFF) ∧
    (∃ s : State, s.dev.cpuLive = false ∧ s.dev.monLive = true ∧ s.dev.reg Reg.islandTimeouts < 0xFFFFFFFF) ∧
    (∃ (s : State) (who : Requester) (i sub : Nat) (v : List Nat), (s.dev.monLive || s.dev.cpuLive) = true ∧
        (((s.dev.crossingTimedOut.freeBool.2).writeFixed (byAgent who) ((s.dev.crossingTimedOut.freeBool.2).rights who) i
        sub v).toOption).isSome = true) ∧
    (∃ (s : State) (who : Requester) (i sub : Nat) (v : List Nat), (s.dev.monLive || s.dev.cpuLive) = true ∧
        ((s.dev.crossingTimedOut.freeBool.2).writeFixed (byAgent who) ((s.dev.crossingTimedOut.freeBool.2).rights who) i
        sub v).isOk = false) ∧
    (∃ (s : State) (who : Requester) (i sub : Nat), s.dev.cpuLive = true ∧ s.dev.reg Reg.islandTimeouts < 0xFFFFFFFF ∧
        (mayWrite (byAgent who) (s.dev.rights who) i sub).isOk = false) :=
  ⟨⟨commissioned, .canA, 4608, 8, [1], ⟨1, 4608, 8, .write [1]⟩, by unfold Accepts; decide +kernel⟩,
    ⟨commissioned, .canA, 0, 0, [], ⟨1, 0, 0, .write []⟩, by unfold Accepts; decide +kernel⟩,
    ⟨commissioned, .canA, 8256, 2, ⟨8256, 8256, 2, 2, .u8, .rw, ObjRange.mask 15, 1⟩, [1], 1,
      by unfold Accepts; decide +kernel⟩,
    ⟨commissioned, .canA, ⟨1114115, 0⟩, [1], by unfold MayWrite Accepts; decide +kernel⟩,
    ⟨commissioned, .canA, (⟨2121734, 0⟩, ⟨2121732, 0⟩), [1, 0, 0, 0], by unfold MayWrite Accepts; decide +kernel⟩,
    ⟨commissioned, .canA, [126, 2, 0, 16, 1, 0, 3], by unfold Accepts ForSelf; decide +kernel⟩,
    ⟨commissioned, by decide +kernel⟩,
    ⟨memberUp, by decide +kernel⟩,
    ⟨commissioned, .canA, 4608, 8, [1], by decide +kernel⟩,
    ⟨commissioned, .canA, 0, 0, [], by decide +kernel⟩,
    ⟨commissioned, .canA, 0, 0, by decide +kernel⟩⟩

theorem met_Transfers :
    (∃ (s : State) (who : Requester) (target i sub n : Nat) (data : List Nat), Accepts s who ∧ ForSelf who target ∧
        s.dev.transfer who = .reading target i sub data n false ∧ bankOf i = none) ∧
    (∃ (s : State) (who : Requester) (target i sub n : Nat) (data : List Nat) (g : Nat) (x : List Nat), Accepts s who ∧
        ForSelf who target ∧ s.dev.transfer who = .reading target i sub data n false ∧ bankOf i = some g ∧ x =
        ((s.dev.acceptFrame who).bankData who i sub n (segmentSize who) data).1) ∧
    (∃ (s : State) (who : Requester) (target i sub : Nat), Accepts s who ∧ ForSelf who target ∧ (s.dev.transfer who =
        .idle ∨ (s.dev.transfer who).open = some (target, i, sub + 1))) ∧
    (∃ (s : State) (who : Requester) (target i sub n : Nat) (data : List Nat) (last : Bool), Accepts s who ∧ ForSelf who
        target ∧ s.dev.transfer who = .reading target i sub data (n + 1) last) ∧
    (∃ (s : State) (who : Requester) (target i sub n : Nat) (data : List Nat) (k : Nat), Accepts s who ∧ ForSelf who
        target ∧ s.dev.transfer who = .reading target i sub data k false ∧ n ≠ k ∧ n + 1 ≠ k ∧ bankOf i = none) ∧
    (∃ (s : State) (who : Requester) (target i sub : Nat) (r : _) (size : Nat), Accepts s who ∧ ForSelf who target ∧
        (mayWrite (byAgent who) (s.dev.rights who) i sub).toOption = some r ∧ r.ty.sizeFits size = true) ∧
    (∃ (s : State) (who : Requester) (target i sub : Nat) (r : _) (size : Nat), Accepts s who ∧ ForSelf who target ∧
        (mayWrite (byAgent who) (s.dev.rights who) i sub).toOption = some r ∧ r.ty.sizeFits size = false) ∧
    (∃ (s : State) (who : Requester) (target i sub : Nat), Accepts s who ∧ ForSelf who target ∧ (mayWrite (byAgent who)
        (s.dev.rights who) i sub).isOk = false) ∧
    (∃ (s : State) (who : Requester) (target i sub n size : Nat) (acc : List Nat) (answer : _), Accepts s who ∧ ForSelf
        who target ∧ s.dev.transfer who = .writing target i sub size (n + 1) acc answer) ∧
    (∃ (s : State) (who : Requester) (target i sub n size : Nat) (acc data : List Nat) (last : Bool) (want : Nat) (whole
        : List Nat) (q : Ask), Accepts s who ∧ ForSelf who target ∧ s.dev.transfer who = .writing target i sub size n acc
        none ∧ want = min (segmentSize who) (size - acc.length) ∧ whole = acc ++ data.take want ∧ q = ⟨target, i, sub,
        .writeSegment n last data⟩ ∧ (data.length < want ∨ last ≠ (whole.length == size))) ∧
    (∃ (s : State) (who : Requester) (target i sub n size : Nat) (acc data : List Nat) (last : Bool) (want : Nat) (whole
        : List Nat) (q : Ask), Accepts s who ∧ ForSelf who target ∧ s.dev.transfer who = .writing target i sub size n acc
        none ∧ want = min (segmentSize who) (size - acc.length) ∧ whole = acc ++ data.take want ∧ q = ⟨target, i, sub,
        .writeSegment n last data⟩ ∧ want ≤ data.length ∧ last = true ∧ whole.length = size ∧ (((s.dev.acceptFrame
        who).writeBulk (byAgent who) (s.dev.rights who) i sub whole).toOption).isSome = true) ∧
    (∃ (s : State) (who : Requester) (target i sub n size : Nat) (acc data : List Nat) (last : Bool) (want : Nat) (whole
        : List Nat) (q : Ask), Accepts s who ∧ ForSelf who target ∧ s.dev.transfer who = .writing target i sub size n acc
        none ∧ want = min (segmentSize who) (size - acc.length) ∧ whole = acc ++ data.take want ∧ q = ⟨target, i, sub,
        .writeSegment n last data⟩ ∧ want ≤ data.length ∧ last = true ∧ whole.length = size ∧ (refusalOf
        ((s.dev.acceptFrame who).writeBulk (byAgent who) (s.dev.rights who) i sub whole)).isSome = true) ∧
    (∃ (s : State) (who : Requester) (target i sub n size : Nat) (acc data : List Nat), Accepts s who ∧ ForSelf who
        target ∧ s.dev.transfer who = .writing target i sub size n acc none ∧ acc.length + segmentSize who < size ∧
        data.length = segmentSize who) ∧
    (∃ (s : State) (who : Requester) (target i sub n size : Nat) (acc data : List Nat), Accepts s who ∧ ForSelf who
        target ∧ s.dev.transfer who = .writing target i sub size n acc none ∧ i * 256 + sub = Reg.deviceName.key ∧ isHost
        who = true ∧ acc.length + data.length = size ∧ data ≠ [] ∧ data.length ≤ segmentSize who ∧ size ≤ 32 ∧ (acc ++
        data).any (fun c => c < 0x20 || 0x7E < c) = false) ∧
    (∃ (s : State) (who : Requester) (target : Nat), Accepts s who ∧ ForSelf who target) ∧
    (∃ (s : State) (who : Requester) (target : Nat) (x : _), Accepts s who ∧ ForSelf who target ∧ (s.dev.transfer
        who).open = some x ∧ isHost who = true) ∧
    (∃ (s : State) (who : Requester) (target : Nat), Accepts s who ∧ ForSelf who target ∧ (s.dev.transfer who).open =
        none) :=
  ⟨⟨s2, .canA, 1, 4096, 8, 1, List.replicate 54 65, by unfold Accepts ForSelf; decide +kernel⟩,
    ⟨s3, .canA, 1, 6658, 1, 1, [], 1, [], by unfold Accepts ForSelf; decide +kernel⟩,
    ⟨commissioned, .canA, 1, 1, 1, by unfold Accepts ForSelf; decide +kernel⟩,
    ⟨s4, .canA, 1, 4096, 8, 1, [65, 66, 67], false, by unfold Accepts ForSelf; decide +kernel⟩,
    ⟨s2, .canA, 1, 4096, 8, 8, List.replicate 54 65, 1, by unfold Accepts ForSelf; decide +kernel⟩,
    ⟨commissioned, .canA, 1, 4096, 8, ⟨4096, 4096, 8, 8, .vstr 32, .rw, ObjRange.any, 0⟩, 1,
      by unfold Accepts ForSelf; decide +kernel⟩,
    ⟨commissioned, .canA, 1, 4096, 8, ⟨4096, 4096, 8, 8, .vstr 32, .rw, ObjRange.any, 0⟩, 4096,
      by unfold Accepts ForSelf; decide +kernel⟩,
    ⟨commissioned, .canA, 1, 1, 1, by unfold Accepts ForSelf; decide +kernel⟩,
    ⟨s5, .canA, 1, 4096, 8, 1, 8, [1, 1, 1, 1], some [1, 2, 0, 16, 1, 0], by unfold Accepts ForSelf; decide +kernel⟩,
    ⟨s6, .canA, 1, 4096, 8, 1, 8, [1, 1, 1, 1], [], true, 4, [1, 1, 1, 1], ⟨1, 4096, 8, .writeSegment 1 true []⟩,
      by unfold Accepts ForSelf; decide +kernel⟩,
    ⟨s7, .canA, 1, 4096, 8, 1, 8, [65, 65, 65, 65], [65, 65, 65, 65], true, 4, List.replicate 8 65, ⟨1, 4096, 8,
      .writeSegment 1 true [65, 65, 65, 65]⟩, by unfold Accepts ForSelf; decide +kernel⟩,
    ⟨s6, .canA, 1, 4096, 8, 1, 8, [1, 1, 1, 1], [65, 65, 65, 65], true, 4, [1, 1, 1, 1, 65, 65, 65, 65], ⟨1, 4096, 8,
      .writeSegment 1 true [65, 65, 65, 65]⟩, by unfold Accepts ForSelf; decide +kernel⟩,
    ⟨s8, .canA, 1, 4096, 8, 1, 4096, [], List.replicate 54 65, by unfold Accepts ForSelf; decide +kernel⟩,
    ⟨s7, .canA, 1, 4096, 8, 1, 8, [65, 65, 65, 65], [65, 65, 65, 65], by unfold Accepts ForSelf; decide +kernel⟩,
    ⟨commissioned, .canA, 1, by unfold Accepts ForSelf; decide +kernel⟩,
    ⟨s2, .canA, 1, (1, 4096, 8), by unfold Accepts ForSelf; decide +kernel⟩,
    ⟨commissioned, .canA, 1, by unfold Accepts ForSelf; decide +kernel⟩⟩

theorem met_Commissioning :
    (∃ (s : State) (who : Requester) (code : Nat), isHost who = true ∧ Accepts s who ∧ code = s.dev.svc.code ∧ code < 2 ^
        32 ∧ s.dev.nat Reg.powerMode = 1 ∧ s.dev.nat Reg.commissioningState = 0 ∧ s.dev.svc.codeLocked = false) ∧
    (∃ (s : State) (who : Requester) (code : Nat), isHost who = true ∧ Accepts s who ∧ code ≠ s.dev.svc.code ∧ code < 2 ^
        32 ∧ s.dev.nat Reg.powerMode = 1 ∧ s.dev.nat Reg.commissioningState = 0 ∧ s.dev.svc.codeLocked = false ∧
        s.dev.reg Reg.codeFailures < 0xFFFFFFFF) ∧
    (∃ (s : State) (who : Requester), isHost who = true ∧ Accepts s who) ∧
    (∃ (s : State) (who : Requester) (code : Nat), isHost who = true ∧ Accepts s who ∧ (s.dev.rights who).commissioned =
        true ∧ code = s.dev.svc.code ∧ code < 2 ^ 32 ∧ code ≠ 0 ∧ s.dev.svc.codeLocked = false) ∧
    (∃ (s : State) (who : Requester), isHost who = true ∧ Accepts s who ∧ (s.dev.rights who).commissioned = true) ∧
    (∃ (s : State) (who : Requester) (code : Nat), isHost who = true ∧ Accepts s who ∧ (s.dev.rights who).commissioned =
        true ∧ code < 2 ^ 32) ∧
    (∃ (s : State) (who : Requester), isHost who = true ∧ Accepts s who ∧ (s.dev.rights who).commissioned = true ∧
        s.dev.cpuLive = true) ∧
    (∃ (s : State) (who : Requester), isHost who = true ∧ Accepts s who ∧ (s.dev.rights who).commissioned = true ∧
        s.dev.nat Reg.configStoreState ≠ 2) ∧
    (∃ (s : State) (who : Requester), isHost who = true ∧ Accepts s who ∧ (s.dev.rights who).commissioned = true ∧
        (s.dev.rights who).unlocked = true) :=
  ⟨⟨booted, .canA, 0, by unfold Accepts; decide +kernel⟩,
    ⟨booted, .canA, 1, by unfold Accepts; decide +kernel⟩,
    ⟨commissioned, .canA, by unfold Accepts; decide +kernel⟩,
    ⟨s9, .spi, 77, by unfold Accepts; decide +kernel⟩,
    ⟨commissioned, .spi, by unfold Accepts; decide +kernel⟩,
    ⟨commissioned, .spi, 0, by unfold Accepts; decide +kernel⟩,
    ⟨commissioned, .spi, by unfold Accepts; decide +kernel⟩,
    ⟨commissioned, .spi, by unfold Accepts; decide +kernel⟩,
    ⟨commissioned, .spi, by unfold Accepts; decide +kernel⟩⟩

theorem met_CanAndPublications :
    (∃ (s : State) (b : Bool) (bus : List CanStep) (c ident : Nat), s.dev.canLive b = true ∧ c = (if b then 1 else 0) ∧
        ((bus ++ [CanStep.received]).foldl (Dev.canStep b) s.dev).canLive b = true ∧ ident = s.dev.nat Reg.requestIdBase
        + s.dev.nat Reg.nodeId ∧ s.dev.reg (Reg.framesIgnored c) < 0xFFFFFFFF) ∧
    (∃ (s : State) (b : Bool) (bus : List CanStep) (c ident : Nat) (data : List Nat) (r : _) (m : List Nat),
        s.dev.canLive b = true ∧ c = (if b then 1 else 0) ∧ ((bus ++ [CanStep.received]).foldl (Dev.canStep b)
        s.dev).canLive b = true ∧ ident = s.dev.nat Reg.requestIdBase + s.dev.nat Reg.nodeId ∧ (locate false (parseAsk
        data).index (parseAsk data).sub).toOption = some r ∧ Accepts s (canChannel b) ∧ (parseAsk data).target ≤ 1 ∧
        (parseAsk data).op = .read ∧ r.acc ≠ .wo ∧ r.ty.bulk = false ∧ s.dev.crossingFails false (parseAsk data).index =
        false ∧ (parseAsk data).key ≠ Reg.chargeFaultLatched.key ∧ m = (parseAsk data).reply 0x81 (r.ty.bytes ((((bus ++
        [CanStep.received]).foldl (Dev.canStep b) s.dev).beforeServing (canChannel b) .read).fixedValue false (parseAsk
        data).key))) ∧
    (∃ (s : State) (b : Bool) (bus : List CanStep) (c ident : Nat), s.dev.canLive b = true ∧ c = (if b then 1 else 0) ∧
        ((bus ++ [CanStep.received]).foldl (Dev.canStep b) s.dev).canLive b = true ∧ ident ≠ s.dev.nat Reg.requestIdBase
        + s.dev.nat Reg.nodeId) ∧
    (∃ (s : State) (b : Bool) (bus : List CanStep) (c : Nat), s.dev.canLive b = true ∧ c = (if b then 1 else 0) ∧ ((bus
        ++ [CanStep.received]).foldl (Dev.canStep b) s.dev).canLive b = false) ∧
    (∃ (s : State) (b : Bool), s.dev.canLive b = true ∧ s.dev.reg (Reg.busOffCount (if b then 1 else 0)) < 0xFFFFFFFF) ∧
    (∃ (s : State) (b : Bool), s.dev.transportsOn = true ∧ s.dev.nat (Reg.busState (if b then 1 else 0)) = 2) ∧
    (∃ (s : State) (p : Nat), 1 ≤ p ∧ p ≤ 64 ∧ s.dev.transportsOn = true ∧ s.dev.pubDue p = true ∧ entryGroups
        (s.dev.pubEntriesOf p) = []) ∧
    (∃ (s : State) (p : Nat), 1 ≤ p ∧ p ≤ 64 ∧ s.dev.transportsOn = true ∧ s.dev.pubDue p = true ∧ s.dev.snaps.length =
        7) :=
  ⟨⟨commissioned, false, [], 0, 1601, by decide +kernel⟩,
    ⟨commissioned, false, [], 0, 1601, [1, 2, 0, 16, 1, 0], ⟨4096, 4096, 2, 2, .u32, .const, ObjRange.any, 24⟩, [129,
      2, 0, 16, 1, 0, 24, 0, 0, 0], by unfold Accepts; decide +kernel⟩,
    ⟨commissioned, false, [], 0, 0, by decide +kernel⟩,
    ⟨commissioned, false, List.replicate 32 CanStep.sendError, 0, by decide +kernel⟩,
    ⟨commissioned, false, by decide +kernel⟩,
    ⟨s10, false, by decide +kernel⟩,
    ⟨s11, 1, by decide +kernel⟩,
    ⟨s12, 1, by decide +kernel⟩⟩

theorem met_SpiPort :
    (∃ (s : State) (m a : List Nat), m.length ≤ 252 ∧ Accepts s .spi ∧ (parseAsk m).target ≤ 1 ∧ (parseAsk m).softResets
        = false ∧ ((s.dev.acceptFrame .spi).serveLocal .spi (parseAsk m)).1 = some a) ∧
    (∃ (s : State) (m : List Nat), m.length ≤ 252 ∧ Accepts s .spi ∧ (parseAsk m).target ≤ 1 ∧ (parseAsk m).softResets =
        false ∧ ((s.dev.acceptFrame .spi).serveLocal .spi (parseAsk m)).1 = none) ∧
    (∃ (s : State) (m : List Nat) (r : _) (a : List Nat), m.length ≤ 252 ∧ Accepts s .spi ∧ (parseAsk m).target ≤ 1 ∧
        (parseAsk m).softResets = false ∧ (locate false (parseAsk m).index (parseAsk m).sub).toOption = some r ∧
        (parseAsk m).op = .read ∧ r.acc ≠ .wo ∧ r.ty.bulk = false ∧ s.dev.crossingFails false (parseAsk m).index = false
        ∧ a = (parseAsk m).reply 0x81 (r.ty.bytes ((meets s .spi .read).fixedValue false (parseAsk m).key))) ∧
    (∃ (s : State) (m : List Nat), s.dev.spiRuns = true ∧ s.dev.reg Reg.spiRefused < 0xFFFFFFFF ∧ (parseAsk m).op ≠
        .clientAbort ∧ (252 < m.length ∨ s.dev.svc.spi.waiting = true)) ∧
    (∃ (s : State) (m : List Nat), m.length ≤ 252 ∧ Accepts s .spi ∧ (parseAsk m).target ≤ 1 ∧ 6 ≤ m.length ∧ nth m 0 =
        0x7E) ∧
    (∃ s : State, s.dev.spiRuns = true) ∧
    (∃ (s : State) (bytes : List Nat) (crcFailed : Bool), s.dev.spiRuns = true ∧ parseHostFrame bytes = .refused
        crcFailed ∧ s.dev.reg Reg.spiRefused < 0xFFFFFFFF ∧ s.dev.reg Reg.spiCrcErrors < 0xFFFFFFFF) ∧
    (∃ s : State, s.dev.spiRuns = true ∧ s.dev.windowOpen = false ∧ s.dev.reg Reg.spiRefused < 0xFFFFFFFF) ∧
    (∃ (s : State) (v phys : Nat), s.dev.windowOpen = true ∧ (s.dev.translate 11 v false).toOption = some phys ∧ v % 4 =
        0 ∧ regionOf phys = some .hostArea) ∧
    (∃ (s : State) (v phys : Nat), s.dev.windowOpen = true ∧ (s.dev.translate 11 v true).toOption = some phys ∧ v % 4 =
        0) ∧
    (∃ (s : State) (v n : Nat), s.dev.windowOpen = true ∧ v % 4 = 0 ∧ 1 ≤ n ∧ n ≤ 60 ∧ (∀ k, k < n → (s.dev.translate 11
        (v + 4 * k) false).isOk = true ∧ regionOf (windowAt s v false k) = some .hostArea)) ∧
    (∃ (s : State) (v : Nat) (ws : List Word), s.dev.windowOpen = true ∧ v % 4 = 0 ∧ ws ≠ [] ∧ ws.length ≤ 62 ∧ (∀ k, k <
        ws.length → (s.dev.translate 11 (v + 4 * k) true).isOk = true ∧ regionOf (windowAt s v true k) = some .hostArea)) ∧
    (∃ (s : State) (v n : Nat), s.dev.windowOpen = true ∧ v % 4 = 0 ∧ (n = 0 ∨ 60 < n)) ∧
    (∃ (s : State) (v : Nat) (ws : List Word), s.dev.windowOpen = true ∧ v % 4 = 0 ∧ (ws = [] ∨ 62 < ws.length)) ∧
    (∃ (s : State) (v : Nat), s.dev.windowOpen = true ∧ v % 4 ≠ 0) ∧
    (∃ (s : State) (v : Nat), s.dev.windowOpen = true ∧ v % 4 = 0 ∧ (s.dev.translate 11 v false).toOption = none) :=
  ⟨⟨commissioned, [], [255, 0, 0, 0, 0, 0, 1, 0, 1, 3], by unfold Accepts; decide +kernel⟩,
    ⟨commissioned, [127, 2, 0, 16, 1, 0], by unfold Accepts; decide +kernel⟩,
    ⟨commissioned, [1, 2, 0, 16, 1, 0], ⟨4096, 4096, 2, 2, .u32, .const, ObjRange.any, 24⟩, [129, 2, 0, 16, 1, 0, 24,
      0, 0, 0], by unfold Accepts; decide +kernel⟩,
    ⟨commissioned, List.replicate 253 1, by decide +kernel⟩,
    ⟨commissioned, [126, 2, 0, 153, 1, 0], by unfold Accepts; decide +kernel⟩,
    ⟨commissioned, by decide +kernel⟩,
    ⟨commissioned, [], false, by decide +kernel⟩,
    ⟨commissioned, by decide +kernel⟩,
    ⟨s13, 0, 269221888, by decide +kernel⟩,
    ⟨s13, 0, 269221888, by decide +kernel⟩,
    ⟨s13, 0, 1, by decide +kernel⟩,
    ⟨s13, 0, [1, 2, 3], by decide +kernel⟩,
    ⟨s13, 0, 0, by decide +kernel⟩,
    ⟨s13, 0, [], by decide +kernel⟩,
    ⟨s13, 1, by decide +kernel⟩,
    ⟨s13, 8288, by decide +kernel⟩⟩

theorem met_MemberRequests :
    (∃ (s : State) (a : Nat) (who : Requester) (m : List Nat), isHost who = true ∧ Accepts s who ∧ 2 ≤ a ∧ a ≤ 4094 ∧
        s.dev.transfer who = .idle ∧ nth m 0 = 1 ∧ 6 ≤ m.length ∧ s.dev.drivesRows = true ∧ s.dev.nat (Reg.mirrorState a)
        = 1 ∧ s.dev.nat Reg.chainState = 4 ∧ s.dev.svc.requests = []) ∧
    (∃ (s : State) (a : Nat) (who : Requester) (m : List Nat), isHost who = true ∧ Accepts s who ∧ 2 ≤ a ∧ a ≤ 4094 ∧
        (s.dev.transfer who).open = none ∧ nth m 0 = 1 ∧ 6 ≤ m.length ∧ s.dev.nat (Reg.mirrorState a) ≠ 1) ∧
    (∃ (s : State) (a : Nat) (r : _) (m : List Nat), s.dev.inFlight a = some r ∧ s.dev.drivesRows = true ∧ r.origin < 3 ∧
        nth m 0 = 0x81 ∧ (parseAsk r.message).op = .read ∧ s.dev.svc.requests = [r]) ∧
    (∃ (s : State) (a : Nat) (r : _) (seq : Nat), s.dev.inFlight a = some r ∧ s.dev.drivesRows = true ∧ r.sequence ≠ seq
        ∧ s.dev.reg Reg.floatFrameErrors < 0xFFFFFFFF) ∧
    (∃ (s : State) (a : Nat) (r : _), s.dev.inFlight a = some r ∧ s.dev.drivesRows = true ∧ r.retries < s.dev.nat
        Reg.floatRetries ∧ s.dev.reg Reg.memberTimeouts < 0xFFFFFFFF) ∧
    (∃ (s : State) (a : Nat) (r : _), s.dev.inFlight a = some r ∧ s.dev.drivesRows = true ∧ s.dev.nat Reg.floatRetries ≤
        r.retries ∧ r.origin < 3 ∧ s.dev.svc.requests = [r] ∧ s.dev.reg Reg.memberNoResponse < 0xFFFFFFFF) ∧
    (∃ (s : State) (a : Nat) (bytes : List Nat) (f : _), parseFrame bytes = some f ∧ s.dev.drivesRows = true ∧ f.1 = 3 ∧
        f.2.2.length = 27 ∧ s.dev.on (Reg.mirrorState a) = true ∧ a ≠ 1) ∧
    (∃ (s : State) (bytes : List Nat), s.dev.drivesRows = true ∧ parseFrame bytes = none ∧ s.dev.reg Reg.floatFrameErrors
        < 0xFFFFFFFF) :=
  ⟨⟨s14, 2, .canA, [1, 2, 0, 16, 2, 0], by unfold Accepts; decide +kernel⟩,
    ⟨s14, 3, .canA, [1, 2, 0, 16, 2, 0], by unfold Accepts; decide +kernel⟩,
    ⟨s15, 2, ⟨2, 0, [1, 2, 0, 16, 2, 0], [], 0, true, 0⟩, [129, 2, 0, 16, 2, 0, 9, 9, 9, 9], by decide +kernel⟩,
    ⟨s15, 2, ⟨2, 0, [1, 2, 0, 16, 2, 0], [], 0, true, 0⟩, 2, by decide +kernel⟩,
    ⟨s15, 2, ⟨2, 0, [1, 2, 0, 16, 2, 0], [], 0, true, 0⟩, by decide +kernel⟩,
    ⟨s16, 2, ⟨2, 0, [1, 2, 0, 16, 2, 0], [], 1, true, 7⟩, by decide +kernel⟩,
    ⟨s14, 0, [53, 27, 3, 3, 3, 3, 3, 3, 3, 3, 3, 3, 3, 3, 3, 3, 3, 3, 3, 3, 3, 3, 3, 3, 3, 3, 3, 3, 3, 209, 51], (3, 5,
      List.replicate 27 3), by decide +kernel⟩,
    ⟨s14, [], by decide +kernel⟩⟩

end Objects

/-! ## Page tables, DMA and events -/

namespace Tables

def waiting : State := booted.onDev (fun d => (d.set (Reg.eventFlag 4) 1 |>.set (Reg.eventEnable 4) 1 |>.set
  (Reg.eventRouting 9) 15 |>.set (Reg.eventEnable 9) 1))

def pg (s : State) : State := State.onDev s (fun d =>
  {d with ctl := {d.ctl with pages := [(5*1024, 0x100C0007), (5*1024+1, 0x10080003),(0, 0x100C0007),(11*1024, 0x100C0007),
                             (11*1024+1, 0x24000003)]}} |>.set (Reg.tableLength 0) 2 |>.set (Reg.tableLength 11) 2 |>.set
  (Reg.tableLength 5) 2 |>.set (Reg.currentDescriptor 8) 0x40 |>.set (Reg.firstDescriptor 8) 0x60)

def ws8 (w3 : Nat) : List Word := [0x100, 0x200, 5, BitVec.ofNat 32 w3, 0x80]

def dm (s : State) (st : Nat) (f : DmaChannel → DmaChannel) : State := { State.onDev (pg s) (fun d =>
  ({d with
    ctl := {d.ctl with
      running := if st == 2 then some 8 else none}} : Dev).setChan 8 (f (d.chan 8)) |>.set (Reg.channelState 8) st |>.set
                                                                           (Reg.remaining 8) 3) with
  mem := memWriteBytes (memWriteBytes [] 0x100C0040 ([0,1,0,0, 0,2,0,0, 5,0,0,0, 0x4c,5,0,0, 0,0,0,0])) 0x100C0100
    [1,2,3,4,5,6,7,8,9,10,11,12,13,14,15,16,17,18] }

def fullLog (b : Bool) : State := State.onDev booted (fun d =>
  {(([4,9,44,47,106].foldl (fun d e =>
    d.set (Reg.eventEnable e) 1 |>.set (Reg.eventRouting e) 15) d) : Dev) with
    stor := {d.stor with
      logQueue := List.replicate 64 [], droppedRead := b}, svc := {d.svc with
        emergencies := List.replicate (if b then 16 else 3) (2,3,0)}})

def s1 : State := pg booted
def s2 : State := dm booted 1 (fun c => {c with words := ws8 0x54c, held := 1})
def s3 : State := dm booted 5 (fun c => {c with held := 1})
def s4 : State := dm booted 4 (fun c => {c with faultStage := 3})
def s5 : State := dm booted 2 (fun c => {c with fetch := true})
def s6 : State := { dm booted 2 (fun c => {c with fetch := true}) with mem := [] }
def s7 : State := State.onDev (dm booted 2 (fun c => {c with fetch := true})) (fun d => d.set (Reg.currentDescriptor 8)
  0x2000)
def s8 : State := dm booted 2 (fun c => {c with words := ws8 0xc, src := 0x2000, dst := 0x200})
def s9 : State := dm booted 2 (fun c => {c with words := ws8 0xc, src := 0x100, dst := 0x1000})
def s10 : State := State.onDev (dm booted 2 (fun c => {c with words := ws8 0x20, writeBack := true})) (fun d => d.set
  (Reg.currentDescriptor 8) 0xFEC)
def s11 : State := dm booted 2 (fun c => {c with words := ws8 0xc, src := 0x100, dst := 0x200})
def s12 : State := dm booted 2 (fun c => {c with words := ws8 0x30, writeBack := true})
def s13 : State := fullLog true

theorem met_TablesAndErrors :
    (∃ (s : State) (who : Requester) (r : Nat) (entries : List Word), MayWrite s who (Reg.pageTable r) ∧ hostOwned r =
        true ∧ entries.length = 1024 ∧ ((entries.map BitVec.toNat).take (s.dev.nat (Reg.tableLength r))).any (fun e =>
        !entryAllowed e) = false) ∧
    (∃ (s : State) (who : Requester) (r : Nat) (entries : List Word), MayWrite s who (Reg.pageTable r) ∧ hostOwned r =
        true ∧ entries.length = 1024 ∧ ((entries.map BitVec.toNat).take (s.dev.nat (Reg.tableLength r))).any (fun e =>
        !entryAllowed e) = true) ∧
    (∃ (s : State) (r v : Nat), s.dev.nat (Reg.tableLength r) ≤ field v 12 21) ∧
    (∃ (s : State) (r : Nat) (entries : List Word), MayWrite s .firmware (Reg.pageTable r) ∧ r < 16 ∧ hostOwned r = false
        ∧ entries.length = 1024) ∧
    (∃ (s : State) (who : Requester) (r : Nat) (entries : List Word), MayWrite s who (Reg.pageTable r) ∧ isHost who =
        true ∧ r < 16 ∧ hostOwned r = false ∧ entries.length = 1024) ∧
    (∃ (s : State) (r : Nat) (v : Word) (write fetch : Bool), s.dev.cpuLive = true ∧ r < 16 ∧ isDmaRequestor r = false ∧
        (s.dev.access r v.toNat write fetch).toOption = none ∧ s.dev.reg (Reg.faultCount r) < 0xFFFFFFFF) ∧
    (∃ (s : State) (v : Word) (phys : Nat), (s.dev.translate 0 v.toNat false).toOption = some phys ∧ regionOf phys ≠ some
        .rom) ∧
    (∃ (s : State) (r : Nat) (v : Word) (write fetch : Bool) (phys : Nat), (s.dev.access r v.toNat write fetch).toOption
        = some phys) ∧
    (∃ (s : State) (r : Nat), r ≤ 15 ∧ s.dev.cpuLive = true ∧ s.dev.reg Reg.sramCorrected < 0xFFFFFFFF) ∧
    (∃ (s : State) (r : Nat), r ≤ 15 ∧ s.dev.cpuLive = true ∧ s.dev.reg Reg.sramUncorrectable < 0xFFFFFFFF) :=
  ⟨⟨s1, .canA, 5, [269221895, 269225991] ++ List.replicate 1022 0, by unfold MayWrite Accepts; decide +kernel⟩,
    ⟨s1, .canA, 5, List.replicate 1024 1, by unfold MayWrite Accepts; decide +kernel⟩,
    ⟨s1, 0, 269221892, by decide +kernel⟩,
    ⟨s1, 0, [269221895, 269225991] ++ List.replicate 1022 0, by unfold MayWrite Accepts; decide +kernel⟩,
    ⟨s1, .canA, 0, [269221895, 269225991] ++ List.replicate 1022 0, by unfold MayWrite Accepts; decide +kernel⟩,
    ⟨s1, 0, 0, true, true, by decide +kernel⟩,
    ⟨s1, 0, 269221888, by decide +kernel⟩,
    ⟨s1, 0, 0, true, false, 269221888, by decide +kernel⟩,
    ⟨s1, 0, by decide +kernel⟩,
    ⟨s1, 0, by decide +kernel⟩⟩

theorem met_DmaChannels :
    (∃ (s : State) (c : Nat) (who : Requester), c < 16 ∧ Shape s.dev ∧ MayWrite s who (Reg.channelCommand c) ∧ (8 ≤ c ∨
        who = .firmware) ∧ s.dev.chanState c = 0) ∧
    (∃ (s : State) (c : Nat) (who : Requester), c < 16 ∧ Shape s.dev ∧ MayWrite s who (Reg.channelCommand c) ∧ (8 ≤ c ∨
        who = .firmware) ∧ (s.dev.chanState c = 1 ∨ s.dev.chanState c = 2 ∨ s.dev.chanState c = 3)) ∧
    (∃ (s : State) (c : Nat) (who : Requester), c < 16 ∧ Shape s.dev ∧ MayWrite s who (Reg.channelCommand c) ∧ (8 ≤ c ∨
        who = .firmware) ∧ s.dev.chanState c = 5 ∧ (s.dev.chan c).held = 1) ∧
    (∃ (s : State) (c : Nat) (who : Requester), c < 16 ∧ Shape s.dev ∧ MayWrite s who (Reg.channelCommand c) ∧ (8 ≤ c ∨
        who = .firmware) ∧ s.dev.chanState c = 4) ∧
    (∃ (s : State) (c : Nat) (who : Requester), c < 16 ∧ Shape s.dev ∧ MayWrite s who (Reg.channelCommand c) ∧ (8 ≤ c ∨
        who = .firmware) ∧ s.dev.chanState c ≠ 0) ∧
    (∃ (s : State) (c v phys : Nat) (ws : List Nat), c < 16 ∧ Shape s.dev ∧ v = s.dev.nat (Reg.currentDescriptor c) ∧
        (s.dev.translate (chanRequestor c) v false).toOption = some phys ∧ phys % 32 = 0 ∧ regionOf phys = some .hostArea
        ∧ s.dev.runsStage c true false = true ∧ ws = (s.readWords c phys 5).1 ∧ descriptorInvalid (nth ws 0) (nth ws 1)
        (nth ws 2) (nth ws 3) (nth ws 4) = false) ∧
    (∃ (s : State) (c v phys : Nat) (ws : List Nat), c < 16 ∧ Shape s.dev ∧ v = s.dev.nat (Reg.currentDescriptor c) ∧
        (s.dev.translate (chanRequestor c) v false).toOption = some phys ∧ phys % 32 = 0 ∧ regionOf phys = some .hostArea
        ∧ s.dev.runsStage c true false = true ∧ ws = (s.readWords c phys 5).1 ∧ descriptorInvalid (nth ws 0) (nth ws 1)
        (nth ws 2) (nth ws 3) (nth ws 4) = true) ∧
    (∃ (s : State) (c : Nat) (who : Requester), c < 16 ∧ Shape s.dev ∧ MayWrite s who (Reg.channelCommand c) ∧ c < 8 ∧
        isHost who = true) ∧
    (∃ (s : State) (c k : Nat), c < 16 ∧ Shape s.dev ∧ s.dev.reg (Reg.faultCount (chanRequestor c)) < 0xFFFFFFFF ∧
        faultKind (s.dev.translateSpan (chanRequestor c) (s.dev.nat (Reg.currentDescriptor c)) 5 false) = some k ∧
        s.dev.runsStage c true false = true) ∧
    (∃ (s : State) (c k : Nat) (ch : _), c < 16 ∧ Shape s.dev ∧ s.dev.reg (Reg.faultCount (chanRequestor c)) < 0xFFFFFFFF
        ∧ ch = s.dev.chan c ∧ faultKind (s.dev.translateSpan (chanRequestor c) ch.src (ch.size / 4) false) = some k ∧
        s.dev.runsStage c false false = true ∧ s.dev.on (Reg.remaining c) = true) ∧
    (∃ (s : State) (c k : Nat) (ch : _), c < 16 ∧ Shape s.dev ∧ s.dev.reg (Reg.faultCount (chanRequestor c)) < 0xFFFFFFFF
        ∧ ch = s.dev.chan c ∧ faultKind (s.dev.translateSpan (chanRequestor c) ch.src (ch.size / 4) false) = none ∧
        faultKind (s.dev.translateSpan (chanRequestor c) ch.dst (ch.size / 4) true) = some k ∧ s.dev.runsStage c false
        false = true ∧ s.dev.on (Reg.remaining c) = true) ∧
    (∃ (s : State) (c k : Nat), c < 16 ∧ Shape s.dev ∧ s.dev.reg (Reg.faultCount (chanRequestor c)) < 0xFFFFFFFF ∧
        faultKind (s.dev.translate (chanRequestor c) ((s.dev.nat (Reg.currentDescriptor c) + 20) % 2 ^ 32) true) = some k
        ∧ s.dev.runsStage c false true = true) ∧
    (∃ (s : State) (c kind stage words : Nat), c < 16 ∧ Shape s.dev ∧ (kind = 1 ∨ kind = 2 ∨ kind = 5) ∧ s.dev.cpuLive =
        true ∧ s.dev.ctl.running = some c ∧ s.dev.chanState c = 2 ∧ s.dev.stageNow c stage = true ∧ words < 8) ∧
    (∃ (s : State) (c : Nat) (ch : _) (src dst : Nat), c < 16 ∧ Shape s.dev ∧ s.dev.runsStage c false false = true ∧
        s.dev.on (Reg.remaining c) = true ∧ ch = s.dev.chan c ∧ (s.dev.translate (chanRequestor c) ch.src false).toOption
        = some src ∧ (s.dev.translate (chanRequestor c) ch.dst true).toOption = some dst ∧ ch.src % ch.size = 0 ∧ ch.dst
        % ch.size = 0 ∧ (regionOf src = some .hostArea ∨ regionOf src = some .rowRing) ∧ regionOf dst = some .hostArea) ∧
    (∃ (s : State) (c v phys : Nat), c < 16 ∧ Shape s.dev ∧ s.dev.runsStage c false true = true ∧ v = (s.dev.nat
        (Reg.currentDescriptor c) + 20) % 2 ^ 32 ∧ (s.dev.translate (chanRequestor c) v true).toOption = some phys ∧
        regionOf phys = some .hostArea ∧ s.dev.reg (Reg.descriptorsDone c) < 0xFFFFFFFF) ∧
    (∃ (s : State) (c kind stage words : Nat), c < 16 ∧ Shape s.dev ∧ s.dev.cpuLive = true ∧ s.dev.ctl.running = some c ∧
        s.dev.chanState c = 2 ∧ s.dev.stageNow c stage = true ∧ (kind = 3 ∨ kind = 4) ∧ words < 8 ∧ ¬ (stage = 2 ∧ kind =
        4) ∧ s.dev.reg (Reg.faultCount (chanRequestor c)) < 0xFFFFFFFF) ∧
    (∃ (s : State) (c e : Nat), c < 16 ∧ Shape s.dev ∧ s.dev.cpuLive = true ∧ reservedSource e = false ∧ s.dev.on
        (Reg.eventFlag e) = false ∧ DmaWaits s.dev e c = true) ∧
    (∃ (s : State) (c e : Nat), c < 16 ∧ Shape s.dev ∧ s.dev.on (Reg.eventFlag e) = true) ∧
    (∃ (s : State) (c e : Nat), c < 16 ∧ Shape s.dev ∧ reservedSource e = true) :=
  ⟨⟨s1, 0, .firmware, by unfold MayWrite Shape Accepts; decide +kernel⟩,
    ⟨s2, 8, .canA, by unfold MayWrite Shape Accepts; decide +kernel⟩,
    ⟨s3, 8, .canA, by unfold MayWrite Shape Accepts; decide +kernel⟩,
    ⟨s4, 8, .canA, by unfold MayWrite Shape Accepts; decide +kernel⟩,
    ⟨s2, 8, .canA, by unfold MayWrite Shape Accepts; decide +kernel⟩,
    ⟨s5, 8, 64, 269221952, [256, 512, 5, 1356, 0], by unfold Shape; decide +kernel⟩,
    ⟨s6, 8, 64, 269221952, [0, 0, 0, 0, 0], by unfold Shape; decide +kernel⟩,
    ⟨s1, 0, .canA, by unfold MayWrite Shape Accepts; decide +kernel⟩,
    ⟨s7, 8, 1, by unfold Shape; decide +kernel⟩,
    ⟨s8, 8, 1, ⟨[0x00000100#32, 0x00000200#32, 0x00000005#32, 0x0000000c#32, 0x00000080#32], 8192, 512, 0, false,
      false, 0, 0, 0⟩, by unfold Shape; decide +kernel⟩,
    ⟨s9, 8, 2, ⟨[0x00000100#32, 0x00000200#32, 0x00000005#32, 0x0000000c#32, 0x00000080#32], 256, 4096, 0, false,
      false, 0, 0, 0⟩, by unfold Shape; decide +kernel⟩,
    ⟨s10, 8, 2, by unfold Shape; decide +kernel⟩,
    ⟨s5, 8, 1, 0, 0, by unfold Shape; decide +kernel⟩,
    ⟨s11, 8, ⟨[0x00000100#32, 0x00000200#32, 0x00000005#32, 0x0000000c#32, 0x00000080#32], 256, 512, 0, false, false,
      0, 0, 0⟩, 269222144, 269222400, by unfold Shape; decide +kernel⟩,
    ⟨s12, 8, 84, 269221972, by unfold Shape; decide +kernel⟩,
    ⟨s5, 8, 3, 0, 0, by unfold Shape; decide +kernel⟩,
    ⟨s2, 8, 5, by unfold Shape; decide +kernel⟩,
    ⟨waiting, 0, 4, by unfold Shape; decide +kernel⟩,
    ⟨s1, 0, 269221892, by unfold Shape; decide +kernel⟩⟩

theorem met_EventController :
    (∃ (s : State) (e : Nat), s.dev.cpuLive = true ∧ e < 128 ∧ reservedSource e = false ∧ (e = 117 →
        s.dev.stor.logQueue.length < 64) ∧ s.dev.reg (Reg.eventCount e) < 0xFFFFFFFF) ∧
    (∃ (s : State) (e : Nat) (routed logged : Bool), routed = (!s.dev.on (Reg.eventFlag e) && s.dev.on (Reg.eventEnable
        e) && s.dev.bit (Reg.eventRouting e) 1) ∧ logged = (!s.dev.on (Reg.eventFlag e) && s.dev.on (Reg.eventEnable e)
        && s.dev.bit (Reg.eventRouting e) 3) ∧ s.dev.cpuLive = true ∧ e < 128 ∧ reservedSource e = false ∧
        s.dev.stor.logQueue.length < 64) ∧
    (∃ (s : State) (e : Nat) (routed logged : Bool), routed = (!s.dev.on (Reg.eventFlag e) && s.dev.on (Reg.eventEnable
        e) && s.dev.bit (Reg.eventRouting e) 1) ∧ logged = (!s.dev.on (Reg.eventFlag e) && s.dev.on (Reg.eventEnable e)
        && s.dev.bit (Reg.eventRouting e) 3) ∧ s.dev.cpuLive = true ∧ e < 128 ∧ reservedSource e = false ∧ 64 ≤
        s.dev.stor.logQueue.length ∧ logged = true ∧ e ≠ 117) ∧
    (∃ e : Nat, reservedSource e = true) ∧
    (∃ (s : State) (e : Nat) (who : Requester), MayWrite s who (Reg.eventFlag e) ∧ e < 128 ∧ reservedSource e = false) ∧
    (∃ (s : State) (e : Nat) (who : Requester) (v : Nat), MayWrite s who (Reg.eventEnable e) ∧ e < 128 ∧ v ≤ 1 ∧
        reservedSource e = false) ∧
    (∃ (s : State) (e : Nat) (who : Requester) (v : Nat), MayWrite s who (Reg.eventEnable e) ∧ e < 128 ∧ v ≤ 1 ∧
        reservedSource e = true) :=
  ⟨⟨s1, 0, by decide +kernel⟩,
    ⟨s1, 0, false, true, by decide +kernel⟩,
    ⟨s13, 0, false, true, by decide +kernel⟩,
    ⟨21, by decide +kernel⟩,
    ⟨s1, 0, .canA, by unfold MayWrite Accepts; decide +kernel⟩,
    ⟨s1, 0, .canA, 0, by unfold MayWrite Accepts; decide +kernel⟩,
    ⟨s1, 21, .canA, 0, by unfold MayWrite Accepts; decide +kernel⟩⟩

end Tables

/-! ## The converter -/

namespace Phases

def cv (s : State) (st : Nat) (f : Converter → Converter) (act : Int := 0x3F) : State := State.onDev s (fun d =>
  ({d with conv := f d.conv} : Dev).set Reg.converterState st |>.set Reg.phaseActive act |>.set Reg.phasePopulated 0x3F
  |>.set Reg.phaseUsable 0x3F |>.refreshLimits)

def ph (x : Phase) : List Phase := List.replicate 6 x

def s1 : State := cv commissioned 1 (fun c =>
  {c with phases := ph { Phase.reset with requested := true }, run := true, targetMv := 12000, rampMv := 100, startReady
            := true})
def s2 : State := cv commissioned 2 (fun c => {c with phases := ph { Phase.reset with requested := true, bstLow := true}})
def s3 : State := cv commissioned 2 (fun c =>
  {c with phases := ph { Phase.reset with portion := 1, riseNow := 7}, share := 2000})
def s4 : State := cv commissioned 2 (fun c =>
  {c with phases := ph { Phase.reset with portion := 2, riseNow := 70}, share := 2000})
def s5 : State := cv commissioned 2 (fun c =>
  {c with phases := ph { Phase.reset with portion := 2}, shedding := some 2, share := 100000}) 0x3D
def s6 : State := cv commissioned 2 (fun c =>
  {c with phases := ph { Phase.reset with portion := 1, fixed := some 3000}, share := 3})
def s7 : State := cv commissioned 2 (fun c =>
  {c with phases := ph { Phase.reset with due := true, riseNow := 70, fallNow := 300}, share := 100})
def s8 : State := State.onDev (cv commissioned 2 (fun c =>
  {c with phases := ph { Phase.reset with due := true, riseNow := 70, fallNow := 300}, share := 9000})) (fun d => d.set
  Reg.failCycles 1)
def s9 : State := cv commissioned 3 (fun c =>
  {c with phases := ph { Phase.reset with portion := 2, mirrored := true, history := [(3,4)]}, stopFrom := 7000, stopUs :=
            50})
def s10 : State := State.onDev commissioned (fun d => d.set Reg.hb2Enable 1)
def s11 : State := State.onDev (cv commissioned 0 id 0) (fun d => d.set Reg.phaseExcluded 0x15 |>.set Reg.phaseUsable 0x2A
  |>.set Reg.throttleStep 5 |>.set Reg.hbSyncState 2 |>.set Reg.hbSyncEnable 1)
def s12 : State := State.onDev (cv commissioned 2 (fun c => {c with syncHz := 2000000})) (fun d => d.set Reg.hbSyncState 3
  |>.set Reg.hbSyncEnable 1)
def s13 : State := State.onDev (cv commissioned 2 (fun c => {c with syncHz := 1000000})) (fun d => d.set Reg.hbSyncState 1
  |>.set Reg.hbSyncEnable 1)
def s14 : State := cv commissioned 0 (fun c => {c with run := true, reverse := true}) 0
def s15 : State := State.onDev (cv commissioned 4 (fun c => {c with persist := 0}) 0) (fun d => d.set
  Reg.converterFaultCause 5 |>.set Reg.phaseExcluded 3)
def s16 : State := State.onDev (cv commissioned 4 (fun c => {c with persist := 2}) 0) (fun d => d.set Reg.phaseExcluded
  0x3F |>.set Reg.phaseUsable 0)
def s17 : State := State.onDev (cv commissioned 2 (fun c => {c with share := 9000}) ) (fun d => d.set Reg.throttleStep 16
  |>.set Reg.hbSyncState 1|>.set Reg.hbSyncFrequency 5 |>.set Reg.ctrlDieTemperature 250 |>.set Reg.ainTempMax 200)

theorem met_PhaseCycles :
    (∃ (s : State) (p ns : Nat), 1 ≤ p ∧ p ≤ 6 ∧ Shape s.dev ∧ s.dev.convOn = true ∧ (s.dev.phase p).requested = true ∧
        s.dev.isActive p = true ∧ 20 ≤ ns ∧ s.dev.nat Reg.throttleStep ≠ 16 ∧ (s.dev.phase p).bstLow = false ∧
        ((s.dev.newRound.priorityList.filter (fun q => (s.dev.newRound.phase q).requested && !(s.dev.newRound.phase
        q).bstLow)).head? = some p)) ∧
    (∃ (s : State) (p ns : Nat), 1 ≤ p ∧ p ≤ 6 ∧ Shape s.dev ∧ ns < 20) ∧
    (∃ (s : State) (p : Nat), 1 ≤ p ∧ p ≤ 6 ∧ Shape s.dev ∧ (s.dev.phase p).bstLow = true) ∧
    (∃ (s : State) (p length : Nat) (ma : Int), 1 ≤ p ∧ p ≤ 6 ∧ Shape s.dev ∧ (s.dev.phase p).portion = 1 ∧ ((s.dev.phase
        p).fixed = some length ∧ length ≤ 2667 ∨ ((s.dev.phase p).fixed = none ∧ 40 ≤ length ∧ length ≤ s.dev.riseBound p
        ∧ 2 * s.dev.conv.share + s.dev.nat (Reg.phaseWindow p) ≤ 2 * ma) ∨ ((s.dev.nat Reg.phasePeakLimit : Int) ≤ ma ∧
        length ≤ min 2667 ((s.dev.phase p).fixed.getD (s.dev.riseBound p))))) ∧
    (∃ (s : State) (p length : Nat) (ma : Int), 1 ≤ p ∧ p ≤ 6 ∧ Shape s.dev ∧ (s.dev.phase p).fixed = none ∧ ma <
        (s.dev.nat Reg.phasePeakLimit : Int) ∧ (length < 40 ∨ 2 * ma < 2 * s.dev.conv.share + s.dev.nat (Reg.phaseWindow
        p))) ∧
    (∃ (s : State) (p length : Nat) (ma : Int), 1 ≤ p ∧ p ≤ 6 ∧ Shape s.dev ∧ (s.dev.phase p).portion = 2 ∧ ((s.dev.phase
        p).fixed = some length ∧ (s.dev.phase p).reaches length = true ∨ ((s.dev.phase p).fixed = none ∧ 40 ≤ length ∧
        length ≤ s.dev.fallBound p ∧ 2 * ma ≤ 2 * s.dev.conv.share - s.dev.nat (Reg.phaseWindow p))) ∧
        s.dev.conv.shedding ≠ some p) ∧
    (∃ (s : State) (p length : Nat) (ma : Int), 1 ≤ p ∧ p ≤ 6 ∧ Shape s.dev ∧ (s.dev.phase p).portion = 2 ∧ ((s.dev.phase
        p).fixed = some length ∧ (s.dev.phase p).reaches length = true ∨ ((s.dev.phase p).fixed = none ∧ 40 ≤ length ∧
        length ≤ s.dev.fallBound p ∧ 2 * ma ≤ 2 * s.dev.conv.share - s.dev.nat (Reg.phaseWindow p))) ∧
        s.dev.conv.shedding = some p) ∧
    (∃ (s : State) (p length : Nat) (ma : Int), 1 ≤ p ∧ p ≤ 6 ∧ Shape s.dev ∧ (s.dev.phase p).fixed = none ∧ (length < 40
        ∨ 2 * s.dev.conv.share - s.dev.nat (Reg.phaseWindow p) < 2 * ma)) ∧
    (∃ (s : State) (p : Nat) (rising : Bool), 1 ≤ p ∧ p ≤ 6 ∧ Shape s.dev ∧ s.dev.convOn = true ∧ (s.dev.phase p).portion
        = (if rising then 1 else 2) ∧ (s.dev.phase p).fixed = none ∧ (s.dev.phase p).forced = false) ∧
    (∃ (s : State) (p : Nat) (rising : Bool) (n : Nat), 1 ≤ p ∧ p ≤ 6 ∧ Shape s.dev ∧ s.dev.convOn = true ∧ (s.dev.phase
        p).portion = (if rising then 1 else 2) ∧ (s.dev.phase p).fixed = some n ∧ (s.dev.phase p).reaches n = false ∧
        s.dev.conv.shedding ≠ some p) ∧
    (∃ (s : State) (p : Nat), 1 ≤ p ∧ p ≤ 6 ∧ Shape s.dev ∧ s.dev.convOn = true ∧ s.dev.isActive p = true ∧ (s.dev.phase
        p).due = true ∧ s.dev.reg Reg.windowMin ≤ s.dev.reg Reg.windowMax ∧ (s.dev.phase p).forced = false ∧ (s.dev.phase
        p).mirrored = false ∧ s.dev.conv.shedding ≠ some p ∧ s.dev.conv.share < s.dev.nat Reg.phaseCheckMin ∧ 0 <
        s.dev.conv.share) ∧
    (∃ (s : State) (p : Nat) (mean : Int), 1 ≤ p ∧ p ≤ 6 ∧ Shape s.dev ∧ s.dev.convOn = true ∧ s.dev.isActive p = true ∧
        (s.dev.phase p).due = true ∧ (s.dev.phase p).forced = false ∧ (s.dev.phase p).mirrored = false ∧
        s.dev.conv.shedding ≠ some p ∧ 0 < s.dev.conv.share ∧ (s.dev.nat Reg.phaseCheckMin : Int) ≤ s.dev.conv.share ∧
        (s.dev.nat Reg.failDeviation : Int) * s.dev.conv.share < (mean - s.dev.conv.share).natAbs * 100 ∧ s.dev.nat
        Reg.failCycles ≤ s.dev.nat (Reg.phaseDeviationCount p) + 1) ∧
    (∃ (s : State) (p : Nat), 1 ≤ p ∧ p ≤ 6 ∧ Shape s.dev ∧ (s.dev.phase p).portion = 2 ∧ s.dev.nat (Reg.phaseRegion p) ≠
        1) ∧
    (∃ (s : State) (p n : Nat), 1 ≤ p ∧ p ≤ 6 ∧ Shape s.dev ∧ 0 < n) :=
  ⟨⟨s1, 1, 20, by unfold Shape; decide +kernel⟩,
    ⟨commissioned, 1, 0, by unfold Shape; decide +kernel⟩,
    ⟨s2, 1, by unfold Shape; decide +kernel⟩,
    ⟨s3, 1, 0, 60000, by unfold Shape; decide +kernel⟩,
    ⟨commissioned, 1, 0, 0, by unfold Shape; decide +kernel⟩,
    ⟨s4, 1, 40, 0, by unfold Shape; decide +kernel⟩,
    ⟨s5, 2, 40, 0, by unfold Shape; decide +kernel⟩,
    ⟨commissioned, 1, 0, 0, by unfold Shape; decide +kernel⟩,
    ⟨s3, 1, true, by unfold Shape; decide +kernel⟩,
    ⟨s6, 1, true, 3000, by unfold Shape; decide +kernel⟩,
    ⟨s7, 1, by unfold Shape; decide +kernel⟩,
    ⟨s8, 1, 0, by unfold Shape; decide +kernel⟩,
    ⟨s4, 1, by unfold Shape; decide +kernel⟩,
    ⟨commissioned, 1, 1, by unfold Shape; decide +kernel⟩⟩

theorem met_OuterLoopAndBucks :
    (∃ s : State, s.dev.cnvRuns = true ∧ (s.dev.convState = 1 ∨ s.dev.convState = 2)) ∧
    (∃ s : State, s.dev.cnvRuns = true ∧ s.dev.convState = 3) ∧
    (∃ (s : State) (p : Nat), s.dev.conv.shedding = some p ∧ 1 ≤ p ∧ p ≤ 6 ∧ Shape s.dev ∧ s.dev.isActive p = false) ∧
    (∃ s : State, s.dev.hb2On = true ∧ s.dev.reg Reg.hbFaultCount < 0xFFFFFFFF) ∧
    (∃ (s : State) (periods : List Nat), s.dev.cpuLive = true ∧ s.dev.on Reg.hbSyncEnable = true ∧ (s.dev.nat
        Reg.hbSyncState = 0 ∨ s.dev.nat Reg.hbSyncState = 2) ∧ syncFits periods = true) ∧
    (∃ (s : State) (periods : List Nat), s.dev.cpuLive = true ∧ s.dev.on Reg.hbSyncEnable = true ∧ (s.dev.nat
        Reg.hbSyncState = 0 ∨ s.dev.nat Reg.hbSyncState = 2) ∧ syncFits periods = false) ∧
    (∃ (s : State) (period : _), s.dev.cpuLive = true ∧ (s.dev.nat Reg.hbSyncState = 1 ∨ s.dev.nat Reg.hbSyncState = 3) ∧
        (period = none ∨ ∃ x, period = some x ∧ (1000000000000 : Int) < 10 * (((x * s.dev.conv.syncHz : Nat) : Int) -
        1000000000000).natAbs)) ∧
    (∃ (s : State) (period : _), s.dev.cpuLive = true ∧ (s.dev.nat Reg.hbSyncState = 1 ∨ s.dev.nat Reg.hbSyncState = 3) ∧
        s.dev.syncBroken period = false) ∧
    (∃ s : State, s.dev.cpuLive = true ∧ s.dev.nat Reg.hbSyncState = 1) ∧
    (∃ s : State, s.dev.cpuLive = true ∧ s.dev.nat Reg.hbSyncState = 2) :=
  ⟨⟨s3, by decide +kernel⟩,
    ⟨s9, by decide +kernel⟩,
    ⟨s5, 2, by unfold Shape; decide +kernel⟩,
    ⟨s10, by decide +kernel⟩,
    ⟨s11, List.replicate 16 1000000, by decide +kernel⟩,
    ⟨s11, [], by decide +kernel⟩,
    ⟨s12, none, by decide +kernel⟩,
    ⟨s13, some 1000000, by decide +kernel⟩,
    ⟨s13, by decide +kernel⟩,
    ⟨s11, by decide +kernel⟩⟩

theorem met_ConverterStates :
    (∃ (s : State) (vdrv : Nat), s.dev.cnvRuns = true ∧ s.dev.conv.run = true ∧ s.dev.convState = 0 ∧ 9000 ≤ vdrv ∧ 0 <
        s.dev.usableCount) ∧
    (∃ (s : State) (vdrv : Nat), s.dev.convState = 0 ∧ vdrv < 9000) ∧
    (∃ s : State, s.dev.convState = 1 ∧ s.dev.conv.startReady = true) ∧
    (∃ s : State, s.dev.conv.run = false ∧ (s.dev.convState = 1 ∨ s.dev.convState = 2)) ∧
    (∃ s : State, s.dev.convState = 3) ∧
    (∃ (s : State) (cause : Nat), s.dev.convOn = true ∧ cause < 4) ∧
    (∃ (s : State) (who : Requester), MayWrite s who Reg.converterFaultClear ∧ s.dev.convState = 4 ∧ s.dev.persisting =
        0) ∧
    (∃ (s : State) (who : Requester), MayWrite s who Reg.converterFaultClear ∧ s.dev.convState = 4 ∧ s.dev.persisting ≠
        0) ∧
    (∃ (s : State) (who : Requester) (v : Nat), MayWrite s who Reg.phaseExcludedClear ∧ 1 ≤ v ∧ v ≤ 0x3F ∧
        s.dev.convState = 0) ∧
    (∃ (s : State) (who : Requester) (v : Nat), MayWrite s who Reg.phaseExcludedClear ∧ 1 ≤ v ∧ v ≤ 0x3F ∧
        s.dev.convState ≠ 0) ∧
    (∃ (s : State) (who : Requester) (v : Nat), MayWrite s who Reg.phasePopulated ∧ 1 ≤ v ∧ v ≤ 0x3F ∧ s.dev.convState =
        0) ∧
    (∃ s : State, (s.dev.convState = 1 ∨ s.dev.convState = 2)) ∧
    (∃ s : State, s.dev.cpuLive = true ∧ s.dev.nat Reg.throttleStep < s.dev.throttleNew 0) ∧
    (∃ s : State, s.dev.cpuLive = true ∧ s.dev.throttleNew 0 ≤ s.dev.nat Reg.throttleStep ∧ s.dev.throttleNew 30 <
        s.dev.nat Reg.throttleStep) ∧
    (∃ s : State, s.dev.cnvRuns = true ∧ Shape s.dev) :=
  ⟨⟨s14, 9000, by decide +kernel⟩,
    ⟨commissioned, 0, by decide +kernel⟩,
    ⟨s1, by decide +kernel⟩,
    ⟨s3, by decide +kernel⟩,
    ⟨s9, by decide +kernel⟩,
    ⟨s3, 0, by decide +kernel⟩,
    ⟨s15, .canA, by unfold MayWrite Accepts; decide +kernel⟩,
    ⟨s16, .canA, by unfold MayWrite Accepts; decide +kernel⟩,
    ⟨commissioned, .canA, 1, by unfold MayWrite Accepts; decide +kernel⟩,
    ⟨s3, .canA, 1, by unfold MayWrite Accepts; decide +kernel⟩,
    ⟨commissioned, .firmware, 1, by unfold MayWrite Accepts; decide +kernel⟩,
    ⟨s3, by decide +kernel⟩,
    ⟨commissioned, by decide +kernel⟩,
    ⟨s17, by decide +kernel⟩,
    ⟨commissioned, by unfold Shape; decide +kernel⟩⟩

end Phases

/-! ## Power path and keep-alive -/

namespace Paths

def pp (s : State) (st : Nat) (f : Path → Path) (g : Dev → Dev) : State := State.onDev s (fun d =>
  g (({d with path := f d.path, safe := {d.safe with held := true}} : Dev).set Reg.pathState st))

def src (d : Dev) : Dev := d.set Reg.selectedSource 1 |>.set Reg.sourceStatus 0x2A |>.set Reg.inputLimitInForce 5000
  |>.set Reg.batfetState 3

def fresh (d : Dev) : Dev := d.set Reg.ainTempMax 200 |>.set Reg.ainTempMin 150 |>.set Reg.chargeEnable 1

def cells (v : Int) (d : Dev) : Dev := (upTo 24).foldl (fun d k => d.set (Reg.cellVoltage k) (v*1000)) d

def kst (n h k : Nat) (cap f : Int) : State := State.onDev commissioned (fun d =>
  {d with path := {d.path with nimhHoldS := k, nimhS := h, nimhBack := 1 + h % 3, nimhDrop := k == 3}} |>.set
  Reg.kaChargeEnable 1 |>.set Reg.kaChargeState n |>.set Reg.kaCapacity cap |>.set Reg.kaFaultLatched (if n == 5 then f
  else 0))

def s1 : State := pp commissioned 1 (fun p => {p with allowMa := 3000}) (fun d => d.set Reg.sourceStatus 4 |>.set
  Reg.searchEnable 0)
def s2 : State := pp commissioned 1 id (fun d => ({d with pd := {d.pd with asking := true}} : Dev).set Reg.chargeMinCell
  4000 |>.set Reg.reverseMinCell 3000)
def s3 : State := pp commissioned 2 (fun p => {p with good := some 4500, allowMa := 5100}) src
def s4 : State := State.onDev (pp commissioned 2 id (fun d =>
  src d |>.set Reg.chargeFaultLatched 3)) (fun d => {d with safe := {d.safe with held := false}})
def s5 : State := pp commissioned 3 id src
def s6 : State := pp commissioned 2 (fun p => {p with good := some 149800}) (fun d => src d |>.set Reg.inputLimitInForce
  149900)
def s7 : State := pp commissioned 2 (fun p => {p with allowMa := 5100, termMs := 10000000, cvMs := 100000000}) (fun d =>
  src d |>.set Reg.selectedSource 2 |>.set Reg.chargeState 4 |>.set Reg.batfetState 1)
def s8 : State := pp commissioned 2 (fun p => {p with trickleMs := 1000000000}) (fun d => src (cells 2000 (fresh d))
  |>.set Reg.chargeState 1)
def s9 : State := kst 0 0 0 2000 0
def s10 : State := State.onDev (kst 1 0 0 2000 0) (fun d => d.set Reg.kaChargeEnable 0)
def s11 : State := kst 5 7 3 150 1
def s12 : State := kst 5 0 0 2000 0
def s13 : State := kst 1 0 0 2000 0
def s14 : State := kst 4 0 0 2000 0
def s15 : State := kst 2 0 0 2000 0
def s16 : State := kst 3 0 0 2000 0
def s17 : State := kst 2 7 3 150 1
def s18 : State := State.onDev (kst 0 0 0 2000 0) (fun d => d.set Reg.kaOutState 4 |>.set Reg.kaOutEnable 1)

theorem met_PowerPath :
    (∃ (s : State) (mv : Nat), s.dev.cpuLive = true ∧ 20000 ≤ mv ∧ mv ≤ 60000) ∧
    (∃ s : State, s.dev.cpuLive = true ∧ s.dev.pwr.logic = .active) ∧
    (∃ (s : State) (src : Nat), s.dev.cpuLive = true ∧ (s.dev.pathState = 0 ∨ (s.dev.pathState = 1 ∧ s.dev.convState = 0
        ∧ (s.dev.pd.asking && s.dev.reverseAllowed) = false)) ∧ s.dev.pickSource = some src) ∧
    (∃ (s : State) (mv : Nat) (ma : Int) (vbus : Bool) (n : Nat), s.dev.cpuLive = true ∧ n = (if vbus then 2 else 1) ∧
        ((vbus = false ∧ (mv < s.dev.nat Reg.dockLossVoltage ∨ 62000 < mv)) ∨ (vbus = true ∧ s.dev.pdState = 5 ∧
        s.dev.pd.transition = none ∧ 100 * mv < 85 * s.dev.nat Reg.contractVoltage) ∨ (s.dev.pathState = 2 ∧ s.dev.nat
        Reg.selectedSource = n ∧ ma < -500))) ∧
    (∃ (s : State) (mv : Nat) (ma : Int) (vbus : Bool), s.dev.cpuLive = true ∧ s.dev.lossHolds (if vbus then 2 else 1) mv
        ma = false) ∧
    (∃ s : State, s.dev.cpuLive = true ∧ s.dev.pd.asking = true ∧ s.dev.reverseAllowed = true) ∧
    (∃ s : State, s.dev.cpuLive = true ∧ s.dev.nat Reg.batfetState = 3) ∧
    (∃ s : State, s.dev.cpuLive = true ∧ s.dev.pathState = 2 ∧ s.dev.disconnectClosed = false ∧ (s.dev.on
        Reg.chargeFaultLatched = true ∨ s.dev.on Reg.chargeEnable = false)) ∧
    (∃ s : State, s.dev.pathState = 3 ∧ s.dev.reg Reg.handOverCount < 0xFFFFFFFF) ∧
    (∃ s : State, s.dev.searching = true ∧ s.dev.nat Reg.inputLimitInForce + s.dev.nat Reg.searchStep < s.dev.searchCap
        (s.dev.nat Reg.selectedSource)) ∧
    (∃ s : State, s.dev.searching = true ∧ s.dev.searchCap (s.dev.nat Reg.selectedSource) ≤ s.dev.nat
        Reg.inputLimitInForce + s.dev.nat Reg.searchStep) ∧
    (∃ s : State, s.dev.searching = true ∧ s.dev.path.good = none) ∧
    (∃ (s : State) (g : Nat), s.dev.searching = true ∧ s.dev.path.good = some g) ∧
    (∃ s : State, (s.dev.nat Reg.batfetState = 1 ∨ s.dev.nat Reg.batfetState = 2)) :=
  ⟨⟨commissioned, 20000, by decide +kernel⟩,
    ⟨commissioned, by decide +kernel⟩,
    ⟨s1, 2, by decide +kernel⟩,
    ⟨commissioned, 0, 0, false, 1, by decide +kernel⟩,
    ⟨commissioned, 0, 0, true, by decide +kernel⟩,
    ⟨s2, by decide +kernel⟩,
    ⟨s3, by decide +kernel⟩,
    ⟨s4, by decide +kernel⟩,
    ⟨s5, by decide +kernel⟩,
    ⟨s3, by decide +kernel⟩,
    ⟨s6, by decide +kernel⟩,
    ⟨s7, by decide +kernel⟩,
    ⟨s3, 4500, by decide +kernel⟩,
    ⟨s7, by decide +kernel⟩⟩

theorem met_TractionCharging :
    (∃ s : State, s.dev.cpuLive = true ∧ s.dev.pathState ≠ 4) ∧
    (∃ (s : State) (bit : Nat), s.dev.cpuLive = true ∧ bit < 7 ∧ s.dev.chargeFaultHolds bit = true) ∧
    (∃ s : State, s.dev.cpuLive = true ∧ s.dev.nat Reg.chargeState = 4 ∧ s.dev.nat Reg.terminationTime * 1000 ≤
        s.dev.path.termMs) ∧
    (∃ s : State, s.dev.cpuLive = true ∧ s.dev.nat Reg.chargeState = 4 ∧ s.dev.nat Reg.cvTimer * 60000 ≤ s.dev.path.cvMs) ∧
    (∃ (s : State) (who : Requester), Accepts s who ∧ byAgent who = false) :=
  ⟨⟨commissioned, by decide +kernel⟩,
    ⟨s8, 0, by decide +kernel⟩,
    ⟨s7, by decide +kernel⟩,
    ⟨s7, by decide +kernel⟩,
    ⟨commissioned, .canA, by unfold Accepts; decide +kernel⟩⟩

theorem met_KeepAlive :
    (∃ (s : State) (mv : Nat), s.dev.kaActive = true ∧ s.dev.nimhMayRun = true ∧ s.dev.nat Reg.kaChargeState = 0 ∧ mv ≤
        65535 ∧ s.dev.pwr.logic ≠ .inReset) ∧
    (∃ s : State, s.dev.kaActive = true ∧ s.dev.nimhMayRun = false ∧ s.dev.nat Reg.kaFaultLatched = 0) ∧
    (∃ s : State, s.dev.kaActive = true ∧ s.dev.nimhMayRun = false ∧ s.dev.nat Reg.kaFaultLatched ≠ 0 ∧ s.dev.nat
        Reg.kaChargeState = 5) ∧
    (∃ s : State, s.dev.kaActive = true ∧ s.dev.nimhMayRun = true ∧ s.dev.nat Reg.kaChargeState = 5) ∧
    (∃ (s : State) (code : Nat) (temp : Int), s.dev.kaTempOf code = some temp ∧ s.dev.kaActive = true ∧ s.dev.nimhMayRun
        = true ∧ 1 ≤ s.dev.nat Reg.kaChargeState ∧ s.dev.nat Reg.kaChargeState ≤ 3 ∧ temp ≠ -32768 ∧ -32768 ≤ temp ∧ temp
        ≤ 32767 ∧ (temp < 0 ∨ 450 < temp)) ∧
    (∃ (s : State) (code : Nat) (temp : Int), s.dev.kaTempOf code = some temp ∧ s.dev.kaActive = true ∧ s.dev.nimhMayRun
        = true ∧ s.dev.nat Reg.kaChargeState = 4) ∧
    (∃ (s : State) (code : Nat) (temp : Int) (secs : Nat), s.dev.kaTempOf code = some temp ∧ s.dev.kaActive = true ∧
        s.dev.nimhMayRun = true ∧ s.dev.nat Reg.kaChargeState = 1 ∧ 0 ≤ temp ∧ temp ≤ 450 ∧ 1 ≤ secs) ∧
    (∃ (s : State) (code : Nat) (temp : Int), s.dev.kaTempOf code = some temp ∧ s.dev.kaActive = true ∧ s.dev.nimhMayRun
        = true ∧ s.dev.nat Reg.kaChargeState = 2 ∧ 0 ≤ temp ∧ temp ≤ 450) ∧
    (∃ (s : State) (code : Nat) (temp : Int) (secs : Nat), s.dev.kaTempOf code = some temp ∧ s.dev.kaActive = true ∧
        s.dev.nimhMayRun = true ∧ s.dev.nat Reg.kaChargeState = 3 ∧ 0 ≤ temp ∧ temp ≤ 450 ∧ 1 ≤ secs) ∧
    (∃ (s : State) (cause : Nat), s.dev.nat Reg.kaChargeState = 2 ∧ s.dev.nimhEnds cause = true) ∧
    (∃ (s : State) (bit : Nat), s.dev.nimhFaultCan bit = false) ∧
    (∃ (s : State) (bit : Nat), (bit = 0 ∧ 0 < s.dev.nimhCurrent ∨ bit = 1 ∧ 1 ≤ s.dev.nat Reg.kaChargeState ∧ s.dev.nat
        Reg.kaChargeState ≤ 3 ∨ bit = 2 ∧ 1 ≤ s.dev.nat Reg.kaChargeState ∧ s.dev.nat Reg.kaChargeState ≤ 4)) ∧
    (∃ (s : State) (ms : Nat), (s.dev.nat Reg.kaOutState = 1 ∨ s.dev.nat Reg.kaOutState = 2 ∨ s.dev.nat Reg.kaOutState =
        3) ∧ 10 ≤ ms) ∧
    (∃ (s : State) (ms : Nat), (s.dev.nat Reg.kaOutState = 1 ∨ s.dev.nat Reg.kaOutState = 2 ∨ s.dev.nat Reg.kaOutState =
        3) ∧ 0 < ms ∧ ms < 10) ∧
    (∃ s : State, (s.dev.nat Reg.kaOutState = 1 ∨ s.dev.nat Reg.kaOutState = 2 ∨ s.dev.nat Reg.kaOutState = 3)) ∧
    (∃ s : State, s.dev.nat Reg.kaOutState = 4) :=
  ⟨⟨s9, 0, by decide +kernel⟩,
    ⟨s10, by decide +kernel⟩,
    ⟨s11, by decide +kernel⟩,
    ⟨s12, by decide +kernel⟩,
    ⟨s13, 2, 27833, by decide +kernel⟩,
    ⟨s14, 0, -32768, by decide +kernel⟩,
    ⟨s13, 32768, 250, 1, by decide +kernel⟩,
    ⟨s15, 32768, 250, by decide +kernel⟩,
    ⟨s16, 32768, 250, 1, by decide +kernel⟩,
    ⟨s17, 1, by decide +kernel⟩,
    ⟨s10, 10, by decide +kernel⟩,
    ⟨s10, 0, by decide +kernel⟩,
    ⟨s10, 10, by decide +kernel⟩,
    ⟨s10, 1, by decide +kernel⟩,
    ⟨s10, by decide +kernel⟩,
    ⟨s18, by decide +kernel⟩⟩

end Paths

/-! ## USB power delivery -/

namespace Ports

def rev (d : Dev) : Dev := ({d with safe := {d.safe with held := true}} : Dev).set Reg.pathState 1 |>.set
  Reg.chargeMinCell 4000 |>.set Reg.reverseMinCell 3000

def po (s : State) (st : Nat) (f : Pd → Pd) (g : Dev → Dev) : State := State.onDev s (fun d =>
  g (({d with pd := f {d.pd with policy := true}} : Dev).set Reg.pdPortState st |>.set Reg.portEnable 1))

def tn : Transition := ⟨5000,9000,3000,0,2,false,false⟩

def expl (d : Dev) : Dev := d.set Reg.contractState 1 |>.set Reg.contractVoltage 5000 |>.set Reg.contractCurrent 3000
  |>.set Reg.contractPdoType 1

def s1 : State := po commissioned 3 id id
def s2 : State := po commissioned 1 id id
def s3 : State := po commissioned 5 (fun p => {p with epr := true}) (fun d => expl d |>.set Reg.contractState 2)
def s4 : State := po commissioned 5 (fun p => {p with awaitCaps := true, request := some (2,1,9000,2000)}) id
def s5 : State := po commissioned 5 (fun p => {p with transition := some tn, epr := true}) (fun d => d.set
  Reg.sourceStatus 4 |>.set Reg.pathState 2 |>.set Reg.selectedSource 2)
def s6 : State := po commissioned 6 id (fun d => d.set Reg.pathState 2)
def s7 : State := po commissioned 6 (fun p => {p with discharging := true, after := 1}) rev
def s8 : State := po commissioned 5 id expl
def s9 : State := po commissioned 6 (fun p =>
  {p with cfg := [(Reg.sourceCurrentMax.key, 3000),(Reg.sourcePdoMask.key, 0x7F)]}) (fun d => rev (expl d) |>.set
  Reg.pathState 4 |>.set Reg.cableCurrent 2 |>.set Reg.cableEpr 1 |>.set Reg.reversePowerLimit 60000)
def s10 : State := po commissioned 6 (fun p => {p with restart := true, epr := true}) rev
def s11 : State := po commissioned 5 (fun p => {p with epr := true}) (fun d => rev (expl d) |>.set Reg.frsEnable 1 |>.set
  Reg.partnerFrsCurrent 3000)
def s12 : State := po commissioned 5 id (fun d => rev (expl d) |>.set Reg.frsState 2)
def s13 : State := po commissioned 5 id (fun d => expl d |>.set Reg.frsState 2)
def s14 : State := po commissioned 5 id (fun d => rev (expl d) |>.set Reg.frsState 2 |>.set Reg.pathState 4)
def s15 : State := po commissioned 6 (fun p => {p with farSent := some 3, discoverSent := 4}) rev
def s16 : State := po commissioned 6 (fun p => {p with farSent := some 2}) id
def s17 : State := po commissioned 6 (fun p => {p with endDue := true, vconn := true}) (fun d => rev d |>.set
  Reg.pathState 4)
def s18 : State := po commissioned 6 (fun p => {p with restart := true}) (fun d => d.set Reg.pathState 2)
def s19 : State := po commissioned 6 (fun p => {p with transition := some tn}) (fun d => rev d |>.set Reg.pathState 4)
def s20 : State := po commissioned 6 (fun p => {p with transition := some {tn with ramping := true}}) (fun d => rev d
  |>.set Reg.pathState 4)
def s21 : State := po commissioned 6 (fun p => {p with discharging := true, after := 6}) rev
def s22 : State := po commissioned 0 (fun p => {p with discharging := true, after := 0}) rev

theorem met_PortAsSink :
    (∃ (s : State) (code vbus us : Nat), s.dev.portRuns = true ∧ s.dev.pdState = 3 ∧ (code = 3 ∨ code = 4 ∨ code = 5) ∧
        150000 ≤ us ∧ 4000 < vbus) ∧
    (∃ (s : State) (code : Nat), s.dev.portRuns = true ∧ s.dev.pdState = 1 ∧ (code = 3 ∨ code = 4 ∨ code = 5)) ∧
    (∃ s : State, s.dev.portRuns = true ∧ s.dev.pdState = 5 ∧ s.dev.pd.discharging = false) ∧
    (∃ (s : State) (mv : Nat), s.dev.portRuns = true ∧ s.dev.pdState = 5 ∧ s.dev.pd.policy = true ∧ s.dev.on
        Reg.frsEnable = false ∧ s.dev.pd.transition = none ∧ 9 * s.dev.expectedMv ≤ 10 * mv ∧ 10 * mv ≤ 11 *
        s.dev.expectedMv) ∧
    (∃ s : State, s.dev.portRuns = true ∧ s.dev.pdState = 5 ∧ s.dev.pd.transition = none) ∧
    (∃ (s : State) (epr : Bool), s.dev.portRuns = true ∧ s.dev.pd.policy = true ∧ s.dev.pdState = 5 ∧ (epr = false ∨
        s.dev.pd.epr = true)) ∧
    (∃ s : State, s.dev.portRuns = true ∧ s.dev.pdState = 5 ∧ s.dev.explicit = true ∧ s.dev.nat Reg.contractPdoType = 1 ∧
        s.dev.pd.transition = none) ∧
    (∃ (s : State) (r : _), s.dev.portRuns = true ∧ s.dev.pd.request = some r ∧ s.dev.pdState = 5) ∧
    (∃ (s : State) (x : _), s.dev.portRuns = true ∧ s.dev.pd.transition = some x ∧ s.dev.pdState = 5 ∧ s.dev.reg
        Reg.transitionCount < 0xFFFFFFFF) ∧
    (∃ (s : State) (x : _), s.dev.portRuns = true ∧ s.dev.pd.transition = some x ∧ s.dev.pdState = 5 ∧ s.dev.pd.policy =
        true) ∧
    (∃ s : State, s.dev.portRuns = true ∧ s.dev.pd.awaitCaps = true ∧ s.dev.pdState = 5 ∧ s.dev.pd.policy = true) ∧
    (∃ s : State, s.dev.portRuns = true ∧ (s.dev.pdState = 5 ∨ s.dev.pdState = 6) ∧ s.dev.pd.policy = true ∧
        s.dev.sourcingEnded = false ∧ s.dev.reg Reg.hardResetCount < 0xFFFFFFFF) ∧
    (∃ s : State, s.dev.portRuns = true ∧ s.dev.sourcingEnded = true) ∧
    (∃ (s : State) (vbus : Nat), s.dev.portRuns = true ∧ s.dev.pdState = 5 ∧ s.dev.pd.policy = true ∧ 55000 < vbus) ∧
    (∃ s : State, s.dev.portRuns = true ∧ s.dev.pd.policy = true ∧ s.dev.pdState = 5) ∧
    (∃ s : State, s.dev.headActive = true) :=
  ⟨⟨s1, 3, 4900, 150000, by decide +kernel⟩,
    ⟨s2, 3, by decide +kernel⟩,
    ⟨s3, by decide +kernel⟩,
    ⟨s3, 4900, by decide +kernel⟩,
    ⟨s3, by decide +kernel⟩,
    ⟨s3, true, by decide +kernel⟩,
    ⟨s3, by decide +kernel⟩,
    ⟨s4, (2, 1, 9000, 2000), by decide +kernel⟩,
    ⟨s5, ⟨5000, 9000, 3000, 0, 2, false, false⟩, by decide +kernel⟩,
    ⟨s5, ⟨5000, 9000, 3000, 0, 2, false, false⟩, by decide +kernel⟩,
    ⟨s4, by decide +kernel⟩,
    ⟨s6, by decide +kernel⟩,
    ⟨s7, by decide +kernel⟩,
    ⟨s3, 60000, by decide +kernel⟩,
    ⟨s3, by decide +kernel⟩,
    ⟨commissioned, by decide +kernel⟩⟩

theorem met_MessagesAndFastSwap :
    (∃ (s : State) (m : PdOther), s.dev.attached = true ∧ m ≠ .unstructuredVdm) ∧
    (∃ s : State, s.dev.attached = true) ∧
    (∃ s : State, s.dev.attached = true ∧ s.dev.busyPd = false ∧ s.dev.pdState = 5 ∧ s.dev.pdCfg Reg.sinkEprEnable = 1 ∧
        s.dev.nat Reg.contractState = 1) ∧
    (∃ s : State, s.dev.attached = true ∧ s.dev.busyPd = false ∧ s.dev.pdState = 6 ∧ s.dev.nat Reg.contractState = 1 ∧
        field (s.dev.pdCfg Reg.sourcePdoMask) 4 6 ≠ 0 ∧ s.dev.nat Reg.cableCurrent = 2 ∧ s.dev.on Reg.cableEpr = true) ∧
    (∃ s : State, s.dev.attached = true ∧ s.dev.pdState = 5 ∧ s.dev.pd.epr = true) ∧
    (∃ s : State, s.dev.attached = true ∧ s.dev.pdState = 6 ∧ s.dev.pd.epr = true) ∧
    (∃ s : State, s.dev.attached = true ∧ s.dev.pd.epr = true) ∧
    (∃ s : State, s.dev.portRuns = true ∧ s.dev.frsStandby = true ∧ s.dev.nat Reg.frsState ≠ 2) ∧
    (∃ s : State, s.dev.portRuns = true ∧ s.dev.nat Reg.frsState = 2 ∧ s.dev.pathState ≠ 4 ∧ s.dev.reverseAllowed = true) ∧
    (∃ s : State, s.dev.portRuns = true ∧ s.dev.nat Reg.frsState = 2 ∧ s.dev.pathState ≠ 4 ∧ s.dev.reverseAllowed =
        false) ∧
    (∃ s : State, s.dev.portRuns = true ∧ s.dev.nat Reg.frsState = 2 ∧ s.dev.pathState = 4) ∧
    (∃ s : State, s.dev.portRuns = true ∧ s.dev.nat Reg.frsState = 2 ∧ s.dev.pdState = 5 ∧ s.dev.pd.policy = true) :=
  ⟨⟨s6, PdOther.prSwap, by decide +kernel⟩,
    ⟨s6, by decide +kernel⟩,
    ⟨s8, by decide +kernel⟩,
    ⟨s9, by decide +kernel⟩,
    ⟨s3, by decide +kernel⟩,
    ⟨s10, by decide +kernel⟩,
    ⟨s3, by decide +kernel⟩,
    ⟨s11, by decide +kernel⟩,
    ⟨s12, by decide +kernel⟩,
    ⟨s13, by decide +kernel⟩,
    ⟨s14, by decide +kernel⟩,
    ⟨s12, by decide +kernel⟩⟩

theorem met_PortAsSource :
    (∃ s : State, s.dev.portRuns = true ∧ s.dev.pdState = 6 ∧ s.dev.pd.asking = false ∧ s.dev.pd.discharging = false ∧
        s.dev.pd.restart = false ∧ s.dev.pd.after ≠ 6 ∧ s.dev.pathState ≠ 4 ∧ s.dev.reverseAllowed = true) ∧
    (∃ s : State, s.dev.portRuns = true ∧ s.dev.pdState = 6 ∧ s.dev.pd.asking = false ∧ s.dev.pd.discharging = false ∧
        s.dev.pd.restart = false ∧ s.dev.pd.after ≠ 6 ∧ s.dev.pathState ≠ 4 ∧ s.dev.reverseAllowed = false) ∧
    (∃ s : State, s.dev.portRuns = true ∧ s.dev.pdState = 6 ∧ s.dev.pd.policy = true ∧ s.dev.pd.farSent = none ∧
        s.dev.pd.discoverSent < 4 ∧ s.dev.nat Reg.cableCurrent = 0) ∧
    (∃ (s : State) (n : Nat), s.dev.portRuns = true ∧ s.dev.pdState = 6 ∧ s.dev.pd.policy = true ∧ s.dev.pd.farSent =
        some n ∧ n < 4) ∧
    (∃ s : State, s.dev.portRuns = true ∧ s.dev.pdState = 6 ∧ s.dev.pd.policy = true ∧ s.dev.pathState = 4 ∧
        s.dev.pd.capsAcked = false ∧ s.dev.pd.capsSent < 50) ∧
    (∃ (s : State) (pos : Nat) (o : _) (ma : Nat), s.dev.portRuns = true ∧ s.dev.pdState = 6 ∧ s.dev.offers.find? (fun x
        => x.1 == pos) = some o ∧ s.dev.pd.policy = true ∧ s.dev.pathState = 4 ∧ s.dev.busyPd = false ∧ ma ≤ o.2.2) ∧
    (∃ (s : State) (pos : Nat) (o : _) (ma : Nat), s.dev.portRuns = true ∧ s.dev.pdState = 6 ∧ s.dev.offers.find? (fun x
        => x.1 == pos) = some o ∧ s.dev.pd.policy = true ∧ s.dev.pathState = 4 ∧ s.dev.busyPd = false ∧ o.2.2 < ma) ∧
    (∃ s : State, s.dev.portRuns = true ∧ s.dev.pdState = 6 ∧ s.dev.pd.restart = true ∧ s.dev.pd.discharging = false ∧
        s.dev.sourceAllowed = true) ∧
    (∃ s : State, s.dev.portRuns = true ∧ s.dev.pdState = 6 ∧ s.dev.pd.restart = true ∧ s.dev.pd.discharging = false ∧
        s.dev.sourceAllowed = false) ∧
    (∃ s : State, s.dev.portRuns = true ∧ s.dev.pdState = 6 ∧ s.dev.pd.endDue = true ∧ s.dev.pd.discharging = false) ∧
    (∃ (s : State) (x : _), s.dev.pd.transition = some x ∧ s.dev.pdState = 6 ∧ x.ramping = false) ∧
    (∃ (s : State) (x : _) (vbus : Nat), s.dev.pd.transition = some x ∧ s.dev.pdState = 6 ∧ x.ramping = true ∧ 95 *
        x.newMv ≤ 100 * vbus ∧ 100 * vbus ≤ 105 * x.newMv) ∧
    (∃ (s : State) (x : _), s.dev.pd.transition = some x ∧ s.dev.pdState = 6 ∧ s.dev.portRuns = true ∧ s.dev.pd.policy =
        true ∧ s.dev.pd.discharging = false) ∧
    (∃ (s : State) (x : _) (vbus : Nat), s.dev.pd.transition = some x ∧ s.dev.pdState = 6 ∧ s.dev.portRuns = true ∧
        s.dev.pd.policy = true ∧ s.dev.pd.discharging = false ∧ 11 * max x.oldMv x.newMv + 5000 < 10 * vbus) ∧
    (∃ s : State, s.dev.pd.discharging = true ∧ s.dev.pd.after = 1) ∧
    (∃ s : State, s.dev.pd.discharging = true) ∧
    (∃ s : State, s.dev.pd.discharging = true ∧ s.dev.pd.after = 6) ∧
    (∃ s : State, s.dev.pd.discharging = true ∧ s.dev.pd.after = 0) :=
  ⟨⟨s15, by decide +kernel⟩,
    ⟨s6, by decide +kernel⟩,
    ⟨s6, by decide +kernel⟩,
    ⟨s16, 2, by decide +kernel⟩,
    ⟨s17, by decide +kernel⟩,
    ⟨s17, 1, (1, 5000, 3000), 0, by decide +kernel⟩,
    ⟨s17, 1, (1, 5000, 3000), 4900, by decide +kernel⟩,
    ⟨s10, by decide +kernel⟩,
    ⟨s18, by decide +kernel⟩,
    ⟨s17, by decide +kernel⟩,
    ⟨s19, ⟨5000, 9000, 3000, 0, 2, false, false⟩, by decide +kernel⟩,
    ⟨s20, ⟨5000, 9000, 3000, 0, 2, false, true⟩, 9000, by decide +kernel⟩,
    ⟨s19, ⟨5000, 9000, 3000, 0, 2, false, false⟩, by decide +kernel⟩,
    ⟨s19, ⟨5000, 9000, 3000, 0, 2, false, false⟩, 60000, by decide +kernel⟩,
    ⟨s7, by decide +kernel⟩,
    ⟨s7, by decide +kernel⟩,
    ⟨s21, by decide +kernel⟩,
    ⟨s22, by decide +kernel⟩⟩

end Ports

/-! ## Safety -/

namespace Safe

def sf (s : State) (f : Safety → Safety) (g : Dev → Dev) : State := State.onDev s (fun d => g {d with safe := f d.safe})

def armed (s : State) : State := sf s (fun x => {x with quiet := 3, checkFormed := true}) (fun d => d.set Reg.startupState
  8 |>.set Reg.powerMode 1 |>.set Reg.confirmState 1 |>.set Reg.degradedRemaining 3600 |>.set Reg.activeFaults 0 |>.set
  Reg.faultLatched 0 |>.set Reg.tripCause 0)

def closed (s : State) : State := sf (armed s) (fun x => {x with drive := true, held := true, fbClosed := true}) id

def packd (s : State) : State := State.onDev s (fun d =>
  ({ d with stor := {d.stor with working := [(77, ⟨[(Reg.auxMode.key, 2)], []⟩)]}} : Dev) |>.set Reg.highestAddress 3
  |>.set (Reg.mirrorState 2) 1 |>.set (Reg.mirrorState 3) 1 |>.set (Reg.memberConfigState 2) 1 |>.set
  (Reg.memberConfigState 3) 1 |>.set (Reg.memberWindows 2) (3+4096*0x7F) |>.set (Reg.memberWindows 3) (4+4096*0x7F) |>.set
  (Reg.memberSerial 2) 77)

def s1 : State := State.onDev (closed commissioned) (fun d => {d with link := {d.link with alarmSeen := true}})
def s2 : State := sf (closed commissioned) (fun x =>
  {x with shortRun := 3, laneFJudged := true, overMs := 9, resetDue := some 1, dcinDemand := 1, latentFailed := [(1,2)],
          overdue := true}) id
def s3 : State := closed (packd commissioned)
def s4 : State := State.onDev (packd commissioned) (fun d => d.set Reg.cellTempMax 600 |>.set Reg.dcinEnable 15)
def s5 : State := State.onDev (closed commissioned) (fun d => {d with samp := {d.samp with tickRow := 5}})
def s6 : State := sf (closed commissioned) (fun x =>
  {x with laneFJudged := true, overMs := 0, resetDue := some 2, dcinDemand := 1, latentFailed := [(1,2)], overdue :=
            true}) (fun d => {d with link := {d.link with alarmSeen := true}} |>.set Reg.faultPromote (2^24+2^25))
def s7 : State := armed commissioned
def s8 : State := State.onDev (armed commissioned) (fun d => d.set Reg.sdAutoClose 1)
def s9 : State := closed commissioned
def s10 : State := sf (armed commissioned) (fun x => {x with drive := true, closing := true}) id
def s11 : State := sf (armed commissioned) (fun x => {x with opening := true, fbClosed := true, byTrip := true}) id
def s12 : State := sf (closed commissioned) (fun x => {x with pulse := .running}) (fun d => d.set Reg.sdTestPulse 500)
def s13 : State := sf (closed commissioned) (fun x => {x with pulse := .after}) id
def s14 : State := sf (closed commissioned) (fun x => {x with degraded := true, latentRuns := true}) (fun d => d.set
  Reg.faultLatched (2^24)|>.set Reg.degradedRemaining 2)
def s15 : State := sf (closed commissioned) (fun x => {x with degraded := true}) (fun d => d.set Reg.faultLatched
  (2^24)|>.set Reg.degradedRemaining 1)
def s16 : State := State.onDev (armed commissioned) (fun d => {d with svc := {d.svc with code := 5}} |>.set
  Reg.confirmState 3 |>.set Reg.safetyUnlockState 0 |>.set Reg.cresVoltage 5000 |>.set Reg.cresCapacitance 60|>.set
  Reg.checkValueComputed 7)

theorem met_SafetyFaults :
    (∃ (s : State) (n : Nat), s.dev.cpuLive = true ∧ n < 28 ∧ s.dev.faultHolds n = true ∧ s.dev.bit Reg.activeFaults n =
        false ∧ s.dev.classD n = true) ∧
    (∃ (s : State) (n : Nat), s.dev.cpuLive = true ∧ n < 28 ∧ s.dev.faultHolds n = true ∧ s.dev.bit Reg.activeFaults n =
        false ∧ s.dev.classD n = false) ∧
    (∃ (s : State) (n : Nat), s.dev.cpuLive = true ∧ n < 28 ∧ s.dev.faultHolds n = false) ∧
    (∃ s : State, s.dev.cpuLive = true ∧ s.dev.faultHolds 5 = true ∧ s.dev.bit Reg.activeFaults 5 = false) ∧
    (∃ (s : State) (a : Nat) (temp : Int), s.dev.cpuLive = true ∧ a ∈ s.dev.presentMembers ∧ 2 ≤ s.dev.memberAuxMode a ∧
        temp ≠ -32768 ∧ s.dev.reg Reg.cellTempMax < temp) ∧
    (∃ (s : State) (n : Nat), s.dev.cpuLive = true ∧ s.dev.pairEnabled n = true ∧ n < 4) ∧
    (∃ s : State, s.dev.cpuLive = true ∧ s.dev.safe.resetDue = none ∧ s.dev.cycleTick = true) ∧
    (∃ s : State, s.dev.cpuLive = true ∧ s.dev.cycleTick = false) ∧
    (∃ s : State, s.dev.cpuLive = true ∧ s.dev.safe.resetDue = none ∧ s.dev.bit Reg.activeFaults 2 = false) ∧
    (∃ s : State, s.dev.cpuLive = true ∧ s.dev.safe.resetDue = none ∧ s.dev.bit Reg.activeFaults 3 = false) ∧
    (∃ s : State, s.dev.cpuLive = true ∧ s.dev.safe.resetDue = none ∧ s.dev.bit Reg.activeFaults 4 = false) ∧
    (∃ (s : State) (c : Nat), s.dev.cpuLive = true ∧ s.dev.safe.resetDue = some c ∧ (c = 2 ∨ c = 3) ∧ s.dev.reg
        Reg.safetyResetCount < 0xFFFFFFFF) :=
  ⟨⟨s1, 0, by decide +kernel⟩,
    ⟨s2, 24, by decide +kernel⟩,
    ⟨commissioned, 0, by decide +kernel⟩,
    ⟨s2, by decide +kernel⟩,
    ⟨s3, 2, 700, by decide +kernel⟩,
    ⟨s4, 0, by decide +kernel⟩,
    ⟨commissioned, by decide +kernel⟩,
    ⟨s5, by decide +kernel⟩,
    ⟨commissioned, by decide +kernel⟩,
    ⟨commissioned, by decide +kernel⟩,
    ⟨commissioned, by decide +kernel⟩,
    ⟨s6, 2, by decide +kernel⟩⟩

theorem met_SafeDisconnect :
    (∃ (s : State) (who : Requester), MayWrite s who Reg.disconnectCommand ∧ s.dev.closeReady = true ∧ s.dev.safe.held =
        false ∧ s.dev.safe.closing = false) ∧
    (∃ (s : State) (who : Requester), MayWrite s who Reg.disconnectCommand ∧ s.dev.closeReady = false ∧ s.dev.cpuLive =
        true) ∧
    (∃ s : State, s.dev.cpuLive = true ∧ s.dev.on Reg.sdAutoClose = true ∧ s.dev.safe.held = false ∧ s.dev.safe.closing =
        false ∧ s.dev.closeReady = true) ∧
    (∃ (s : State) (who : Requester), MayWrite s who Reg.disconnectCommand ∧ s.dev.safe.drive = true ∧ s.dev.cpuLive =
        true) ∧
    (∃ s : State, s.dev.safe.drive = true) ∧
    (∃ s : State, s.dev.pwr.role = .head ∧ s.dev.pwr.vlog = true ∧ s.dev.safe.closing = true) ∧
    (∃ s : State, s.dev.pwr.role = .head ∧ s.dev.pwr.vlog = true ∧ s.dev.safe.opening = true ∧ s.dev.safe.byTrip = true ∧
        s.dev.safe.held = false ∧ s.dev.bit Reg.activeFaults 8 = false) ∧
    (∃ (s : State) (us : Nat), s.dev.pwr.role = .head ∧ s.dev.pwr.vlog = true ∧ s.dev.safe.held = true ∧ s.dev.safe.pulse
        = .none ∧ 1000 ≤ us) ∧
    (∃ s : State, s.dev.safe.closing = true ∧ s.dev.safe.fbClosed = false) ∧
    (∃ s : State, s.dev.safe.opening = true ∧ s.dev.safe.fbClosed = true ∧ s.dev.cpuLive = true) ∧
    (∃ s : State, s.dev.safe.held = true ∧ s.dev.reg Reg.sdTestCount < 0xFFFFFFFF) ∧
    (∃ (s : State) (us : Nat), s.dev.safe.pulse = .running ∧ us ≤ s.dev.nat Reg.sdTestPulse) ∧
    (∃ (s : State) (fell : _), s.dev.safe.pulse = .running ∧ s.dev.cpuLive = true ∧ (∀ us, fell = some us → s.dev.nat
        Reg.sdTestPulse < us)) ∧
    (∃ s : State, s.dev.safe.pulse = .after) :=
  ⟨⟨s7, .canA, by unfold MayWrite Accepts; decide +kernel⟩,
    ⟨commissioned, .canA, by unfold MayWrite Accepts; decide +kernel⟩,
    ⟨s8, by decide +kernel⟩,
    ⟨s9, .canA, by unfold MayWrite Accepts; decide +kernel⟩,
    ⟨s9, by decide +kernel⟩,
    ⟨s10, by decide +kernel⟩,
    ⟨s11, by decide +kernel⟩,
    ⟨s9, 1000, by decide +kernel⟩,
    ⟨s10, by decide +kernel⟩,
    ⟨s11, by decide +kernel⟩,
    ⟨s9, by decide +kernel⟩,
    ⟨s12, 0, by decide +kernel⟩,
    ⟨s12, none, by decide +kernel⟩,
    ⟨s13, by decide +kernel⟩⟩

theorem met_DegradedAndLatent :
    (∃ s : State, s.dev.cpuLive = true ∧ s.dev.safe.degraded = true ∧ 1 < s.dev.nat Reg.degradedRemaining) ∧
    (∃ s : State, s.dev.cpuLive = true ∧ s.dev.safe.degraded = true ∧ s.dev.nat Reg.degradedRemaining = 1) ∧
    (∃ s : State, s.dev.cpuLive = true ∧ s.dev.safe.degraded = false ∧ 0 < s.dev.nat Reg.degradedTime) ∧
    (∃ s : State, s.dev.cpuLive = true ∧ s.dev.safe.degraded = true) ∧
    (∃ s : State, s.dev.cpuLive = true ∧ s.dev.pwr.logic = .active ∧ s.dev.safe.latentRuns = false) ∧
    (∃ s : State, s.dev.cpuLive = true ∧ s.dev.safe.latentRuns = true) ∧
    (∃ s : State, s.dev.cpuLive = true) ∧
    (∃ (s : State) (who : Requester) (value code : Nat) (run : CommitRun), MayWrite s who Reg.checkValueConfirm ∧
        s.dev.cpuLive = true ∧ (s.dev.rights who).commissioned = true ∧ s.dev.svc.codeLocked = false ∧ s.dev.nat
        Reg.configStoreState = 0 ∧ s.dev.on Reg.safetyUnlockState = false ∧ value = s.dev.nat Reg.checkValueComputed ∧
        code = s.dev.svc.code ∧ code < 2 ^ 32 ∧ value < 2 ^ 32 ∧ s.dev.stor.jobs = [] ∧ s.dev.commitCause run.cresMv
        run.ecc = 0 ∧ run.stop = none) ∧
    (∃ (s : State) (who : Requester) (value code : Nat) (run : CommitRun), MayWrite s who Reg.checkValueConfirm ∧
        s.dev.cpuLive = true ∧ (s.dev.rights who).commissioned = true ∧ s.dev.svc.codeLocked = false ∧ s.dev.nat
        Reg.configStoreState = 0 ∧ s.dev.on Reg.safetyUnlockState = false ∧ value = s.dev.nat Reg.checkValueComputed ∧
        code = s.dev.svc.code ∧ code < 2 ^ 32 ∧ value < 2 ^ 32 ∧ s.dev.stor.jobs = [] ∧ s.dev.commitCause run.cresMv
        run.ecc = 0 ∧ run.stop ≠ none ∧ s.dev.nat Reg.confirmState ≠ 1) :=
  ⟨⟨s14, by decide +kernel⟩,
    ⟨s15, by decide +kernel⟩,
    ⟨commissioned, by decide +kernel⟩,
    ⟨s15, by decide +kernel⟩,
    ⟨commissioned, by decide +kernel⟩,
    ⟨s14, by decide +kernel⟩,
    ⟨commissioned, by decide +kernel⟩,
    ⟨s16, .spi, 7, 5, ⟨5000, false, none⟩, by unfold MayWrite Accepts; decide +kernel⟩,
    ⟨s16, .spi, 7, 5, ⟨5000, false, some 1⟩, by unfold MayWrite Accepts; decide +kernel⟩⟩

end Safe

/-! ## Storage, clock and self-test -/

namespace Stores

def crystalOn : State := commissioned.onDev (fun d => {d with pwr := {d.pwr with crystal := true}})

def e1 : List Nat := List.replicate 16 3

def st (s : State) (f : Storage → Storage) (g : Dev → Dev := id) : State := State.onDev s (fun d =>
  g {d with stor := f d.stor} |>.set Reg.cresVoltage 5000 |>.set Reg.cresCapacitance 60)

def lg (d : Dev) : Dev := d.set Reg.logState 2 |>.set Reg.logPageSize 2048 |>.set Reg.logBlockCount 64

def fm (x : Storage) : Storage := {x with
  nand := true, formatted := true, logQueue := [e1], erasedSkein := some 0, pages :=
    [⟨0,0,1,[e1],true⟩,⟨0,1,2,[e1],true⟩], nextPage := 2, nextSeq := 3, openPage := [e1,e1], factoryBad := [9]}

def lgc (l : LogicMode) (s : State) : State := State.onDev s (fun d =>
  {d with pwr := {d.pwr with logic := l, crystal := true}} |>.set Reg.calendarTime 7 |>.set Reg.calendarAlarm 8 |>.set
  Reg.wakeEnable 0x80)

def s1 : State := st crystalOn (fun x => {x with jobs := [.generation], logQueue := [e1]})
def s2 : State := st crystalOn (fun x => {x with jobs := [.image 1, .image 60, .generation]})
def s3 : State := State.onDev (st crystalOn (fun x => {fm x with logQueue := [e1,e1]})) (fun d => lg d |>.set
  Reg.cresVoltage 1000 |>.set (Reg.eventRouting 112) 8)
def s4 : State := st crystalOn (fun x => {fm x with openPage := List.replicate 127 e1}) (fun d => lg d |>.set Reg.logState
  3)
def s5 : State := st crystalOn (fun x => {fm x with closeDue := true}) lg
def s6 : State := st crystalOn (fun x => {fm x with erasedSkein := none}) (fun d => lg d |>.set Reg.logOldestSequence 1
  |>.set Reg.logNewestSequence 2)
def s7 : State := State.onDev (st crystalOn id) (fun d => d.set Reg.calendarTime 6462908006399)
def s8 : State := lgc .sleepEntry crystalOn
def s9 : State := lgc .sleep crystalOn
def s10 : State := st crystalOn (fun x => {x with calendarWrite := some 9})
def s11 : State := st crystalOn (fun x => {x with ctrlTempBusy := true, ctrlTempValid := 2})
def s12 : State := st crystalOn (fun x => {x with ctrlTempBusy := true, compensationDue := true}) (fun d => d.set
  Reg.ctrlDieTempStatus 1 |>.set Reg.crystalTurnover 250 |>.set Reg.crystalCurvature (-34) |>.set Reg.crystalOffset 300)
def s13 : State := st crystalOn (fun x => {x with monTempBusy := true, monTempValid := 2}) (fun d => d.set
  Reg.monDieTempStatus 3)
def s14 : State := st crystalOn (fun x => {x with romFailed := true}) (fun d => d.set Reg.swatchPosition 1087)
def s15 : State := st crystalOn (fun x => {x with monSwatch := 5, badSignatures := [(3,0)]}) (fun d => d.set
  Reg.swatchPosition 1090)
def s16 : State := st crystalOn id (fun d => d.set Reg.swatchPosition 1150)
def s17 : State := st crystalOn (fun x => {x with monSwatch := 7}) (fun d => d.set Reg.bufferState 3)
def s18 : State := st crystalOn (fun x => {x with monSwatch := 257, monSkipped := true})

theorem met_FramCommits :
    (∃ (s : State) (j : Job) (ecc : Bool) (cresMv : Nat), s.dev.cpuLive = true ∧ s.dev.stor.jobs.head? = some j ∧
        s.dev.commitCause cresMv ecc ≠ 0 ∧ s.dev.reg Reg.commitsRefused < 0xFFFFFFFF) ∧
    (∃ (s : State) (j : Job) (ecc : Bool) (cresMv : Nat), s.dev.cpuLive = true ∧ s.dev.stor.jobs.head? = some j ∧
        s.dev.commitCause cresMv ecc = 0 ∧ s.dev.reg Reg.commitsDone < 0xFFFFFFFF) ∧
    (∃ (s : State) (j : Job) (ecc : Bool) (cresMv : Nat), s.dev.cpuLive = true ∧ s.dev.stor.jobs.head? = some j ∧
        s.dev.commitCause cresMv ecc = 0) ∧
    (∃ (s : State) (cresMv : Nat), s.dev.cpuLive = true ∧ s.dev.stor.jobs.head? = some (.image 1) ∧
        s.dev.stor.record.length = 5 ∧ s.dev.stor.generation + 1 < 2 ^ 32 ∧ s.dev.commitCause cresMv false = 0) ∧
    (∃ (s : State) (mv uv : Nat), s.dev.cpuLive = true ∧ 0 < uv ∧ mv < 65536) :=
  ⟨⟨s1, .generation, true, 0, by decide +kernel⟩,
    ⟨s1, .generation, false, 4500, by decide +kernel⟩,
    ⟨s1, .generation, false, 4500, by decide +kernel⟩,
    ⟨s2, 4500, by decide +kernel⟩,
    ⟨crystalOn, 0, 1, by decide +kernel⟩⟩

theorem met_HistoryLog :
    (∃ (s : State) (e : List Nat) (run : CommitRun), s.dev.cpuLive = true ∧ s.dev.stor.logQueue.head? = some e ∧
        s.dev.stor.jobs = [] ∧ s.dev.stor.openPage.length < s.dev.pageCapacity ∧ s.dev.commitCause run.cresMv run.ecc = 0
        ∧ run.stop = none) ∧
    (∃ (s : State) (e : List Nat) (run : CommitRun), s.dev.cpuLive = true ∧ s.dev.stor.logQueue.head? = some e ∧
        s.dev.stor.jobs = [] ∧ s.dev.pageCapacity ≤ s.dev.stor.openPage.length ∧ s.dev.nat Reg.logState ≠ 2 ∧
        s.dev.commitCause run.cresMv run.ecc = 0 ∧ run.stop = none) ∧
    (∃ (s : State) (e : List Nat) (run : CommitRun), s.dev.cpuLive = true ∧ s.dev.stor.logQueue.head? = some e ∧
        s.dev.stor.jobs = [] ∧ s.dev.commitCause run.cresMv run.ecc ≠ 0 ∧ s.dev.stor.openPage.length <
        s.dev.pageCapacity) ∧
    (∃ (s : State) (e : List Nat), s.dev.cpuLive = true ∧ s.dev.stor.logQueue.head? = some e ∧ s.dev.stor.jobs ≠ []) ∧
    (∃ (s : State) (e : List Nat), s.dev.cpuLive = true ∧ s.dev.stor.logQueue.head? = some e ∧ s.dev.stor.jobs = [] ∧
        s.dev.reg Reg.logDropped < 0xFFFFFFFF ∧ s.dev.stor.logQueue.length ≤ 64) ∧
    (∃ (s : State) (x y : CommitRun), s.dev.cpuLive = true ∧ s.dev.nat Reg.logState = 2 ∧ s.dev.programDue = true ∧
        s.dev.pageReady = true ∧ s.dev.stor.jobs = [] ∧ s.dev.stor.ended = none ∧ s.dev.commitCause x.cresMv x.ecc = 0 ∧
        x.stop = none ∧ s.dev.commitCause y.cresMv y.ecc = 0 ∧ y.stop = none) ∧
    (∃ (s : State) (x y : CommitRun), s.dev.cpuLive = true ∧ s.dev.nat Reg.logState = 2 ∧ s.dev.programDue = true ∧
        s.dev.pageReady = true ∧ s.dev.stor.jobs = [] ∧ s.dev.stor.ended = none ∧ s.dev.commitCause x.cresMv x.ecc = 0 ∧
        x.stop = none ∧ s.dev.commitCause y.cresMv y.ecc = 0 ∧ y.stop = none ∧ s.dev.goodBlock s.dev.stor.nextBlock =
        true ∧ s.dev.stor.nextBlock < s.dev.nat Reg.logBlockCount) ∧
    (∃ (s : State) (x y : CommitRun), s.dev.cpuLive = true ∧ s.dev.nat Reg.logState = 2 ∧ s.dev.programDue = true ∧
        s.dev.pageReady = true ∧ s.dev.stor.jobs = [] ∧ s.dev.stor.ended = none ∧ s.dev.commitCause x.cresMv x.ecc = 0 ∧
        x.stop = none ∧ s.dev.commitCause y.cresMv y.ecc ≠ 0) ∧
    (∃ s : State, s.dev.cpuLive = true ∧ s.dev.nat Reg.logState = 2 ∧ s.dev.stor.erasedSkein = none ∧ 2 ≤
        s.dev.usableSkeins.length) ∧
    (∃ (s : State) (b : Nat), s.dev.cpuLive = true ∧ s.dev.goodBlock b = true ∧ b < s.dev.nat Reg.logBlockCount) ∧
    (∃ (s : State) (who : Requester), s.dev.cpuLive = true ∧ MayWrite s who Reg.logCommand ∧ (s.dev.rights
        who).commissioned = true ∧ s.dev.nat Reg.logState ≠ 0) ∧
    (∃ (s : State) (who : Requester), s.dev.cpuLive = true ∧ MayWrite s who Reg.logCommand ∧ (s.dev.rights
        who).commissioned = false) ∧
    (∃ (s : State) (who : Requester), s.dev.cpuLive = true ∧ MayWrite s who Reg.logCommand) ∧
    (∃ (s : State) (who : Requester) (b : List Nat), s.dev.cpuLive = true ∧ MayWrite s who Reg.logWrite ∧ b.length = 5 ∧
        s.dev.nat Reg.logState ≠ 0 ∧ s.dev.stor.logQueue.length < 64) ∧
    (∃ (s : State) (who : Requester) (seq : Nat), s.dev.cpuLive = true ∧ MayWrite s who Reg.logReadSequence ∧ s.dev.nat
        Reg.logOldestSequence ≤ seq ∧ seq ≤ s.dev.nat Reg.logNewestSequence ∧ seq < 2 ^ 32) :=
  ⟨⟨s3, List.replicate 16 3, ⟨5000, false, none⟩, by decide +kernel⟩,
    ⟨s4, List.replicate 16 3, ⟨5000, false, none⟩, by decide +kernel⟩,
    ⟨s3, List.replicate 16 3, ⟨2000, false, none⟩, by decide +kernel⟩,
    ⟨s1, List.replicate 16 3, by decide +kernel⟩,
    ⟨s3, List.replicate 16 3, by decide +kernel⟩,
    ⟨s5, ⟨5000, false, none⟩, ⟨5000, false, none⟩, by decide +kernel⟩,
    ⟨s5, ⟨5000, false, none⟩, ⟨5000, false, none⟩, by decide +kernel⟩,
    ⟨s5, ⟨5000, false, none⟩, ⟨2000, false, none⟩, by decide +kernel⟩,
    ⟨s6, by decide +kernel⟩,
    ⟨crystalOn, 0, by decide +kernel⟩,
    ⟨s3, .spi, by unfold MayWrite Accepts; decide +kernel⟩,
    ⟨crystalOn, .canA, by unfold MayWrite Accepts; decide +kernel⟩,
    ⟨crystalOn, .canA, by unfold MayWrite Accepts; decide +kernel⟩,
    ⟨s3, .canA, [1, 2, 3, 4, 5], by unfold MayWrite Accepts; decide +kernel⟩,
    ⟨crystalOn, .canA, 0, by unfold MayWrite Accepts; decide +kernel⟩⟩

theorem met_ClockAndSelfTest :
    (∃ s : State, s.dev.kaActive = true ∧ s.dev.pwr.crystal = true ∧ s.dev.stor.calendarWrite = none ∧ s.dev.nat
        Reg.calendarTime < calendarMax ∧ s.dev.nat Reg.calendarTime + 1 ≠ s.dev.nat Reg.calendarAlarm ∧ s.dev.nat
        Reg.calendarTime + 1 ≠ calendarMax) ∧
    (∃ s : State, s.dev.kaActive = true ∧ s.dev.pwr.crystal = true ∧ s.dev.stor.calendarWrite = none ∧ s.dev.nat
        Reg.calendarTime = calendarMax) ∧
    (∃ s : State, s.dev.kaActive = true ∧ s.dev.pwr.crystal = true ∧ s.dev.stor.calendarWrite = none ∧ s.dev.nat
        Reg.calendarTime + 1 = s.dev.nat Reg.calendarAlarm ∧ s.dev.nat Reg.calendarTime < calendarMax ∧ s.dev.cpuLive =
        true) ∧
    (∃ s : State, s.dev.kaActive = true ∧ s.dev.pwr.crystal = true ∧ s.dev.stor.calendarWrite = none ∧ s.dev.nat
        Reg.calendarTime + 1 = s.dev.nat Reg.calendarAlarm ∧ s.dev.nat Reg.calendarTime < calendarMax ∧ s.dev.pwr.logic =
        .sleep) ∧
    (∃ (s : State) (v : Nat), s.dev.kaActive = true ∧ s.dev.pwr.crystal = true ∧ s.dev.stor.calendarWrite = some v ∧ v <
        2 ^ 64) ∧
    (∃ (s : State) (who : Requester) (v : Nat), MayWrite s who Reg.calendarTime ∧ v ≤ calendarMax) ∧
    (∃ (s : State) (who : Requester) (v : Nat), MayWrite s who Reg.calendarTime ∧ calendarMax < v ∧ v < 2 ^ 64) ∧
    (∃ s : State, s.dev.kaActive = true) ∧
    (∃ (s : State) (who : Requester) (ctrl : Bool), MayWrite s who (if ctrl then Reg.ctrlDieTempRequest else
        Reg.monDieTempRequest)) ∧
    (∃ (s : State) (c : Int), s.dev.stor.ctrlTempBusy = true ∧ s.dev.stor.compensationDue = false ∧ -600 ≤ c ∧ c ≤ 1800) ∧
    (∃ (s : State) (c : Int), s.dev.stor.ctrlTempBusy = true ∧ s.dev.stor.compensationDue = false ∧ (c < -600 ∨ 1800 < c)
        ∧ s.dev.reg Reg.ctrlDieTempBroken < 0xFFFFFFFF) ∧
    (∃ (s : State) (c e : Int), s.dev.stor.ctrlTempBusy = true ∧ s.dev.stor.compensationDue = true ∧ -600 ≤ c ∧ c ≤ 1800
        ∧ e = s.dev.reg Reg.crystalOffset * 1000 + s.dev.reg Reg.crystalCurvature * ((c - s.dev.reg Reg.crystalTurnover)
        * (c - s.dev.reg Reg.crystalTurnover))) ∧
    (∃ (s : State) (c : Int), s.dev.monLive = true ∧ s.dev.stor.monTempBusy = true ∧ -600 ≤ c ∧ c ≤ 1800) ∧
    (∃ (s : State) (c : Int), s.dev.monLive = true ∧ s.dev.stor.monTempBusy = true ∧ (c < -600 ∨ 1800 < c)) ∧
    (∃ (s : State) (failed : Bool), s.dev.cpuLive = true ∧ s.dev.on Reg.swatchControl = true ∧ s.dev.nat
        Reg.swatchPosition < 1150 ∧ s.swatchFails failed = false) ∧
    (∃ (s : State) (failed : Bool), s.dev.cpuLive = true ∧ s.dev.on Reg.swatchControl = true ∧ s.dev.nat
        Reg.swatchPosition < 1150 ∧ s.dev.nat Reg.swatchPosition = 1087 ∧ (failed || s.dev.stor.romFailed) = true) ∧
    (∃ (s : State) (failed : Bool), s.dev.cpuLive = true ∧ s.dev.on Reg.swatchControl = true ∧ s.dev.nat
        Reg.swatchPosition < 1150 ∧ 1088 ≤ s.dev.nat Reg.swatchPosition ∧ (failed || s.dev.stor.pageDiffers (s.dev.nat
        Reg.swatchPosition - 1087)) = true) ∧
    (∃ s : State, s.dev.cpuLive = true ∧ s.dev.on Reg.swatchControl = true ∧ s.dev.nat Reg.swatchPosition < 1150 ∧
        s.dev.nat Reg.swatchPosition < 1024) ∧
    (∃ s : State, s.dev.cpuLive = true ∧ s.dev.on Reg.swatchControl = true ∧ s.dev.nat Reg.swatchPosition = 1150) ∧
    (∃ s : State, s.dev.monLive = true ∧ s.dev.on Reg.monSwatchControl = true ∧ s.dev.stor.monSwatch < 256 ∧ s.dev.nat
        Reg.bufferState ≠ 3) ∧
    (∃ s : State, s.dev.monLive = true ∧ s.dev.on Reg.monSwatchControl = true ∧ s.dev.stor.monSwatch < 256 ∧ s.dev.nat
        Reg.bufferState = 3) ∧
    (∃ s : State, s.dev.monLive = true ∧ s.dev.on Reg.monSwatchControl = true ∧ s.dev.stor.monSwatch = 257 ∧ s.dev.reg
        Reg.monSwatchCycles < 0xFFFFFFFF) ∧
    (∃ (s : State) (who : Requester) (mon : Bool) (v : Nat), MayWrite s who (if mon then Reg.monSwatchControl else
        Reg.swatchControl) ∧ v < 2) :=
  ⟨⟨crystalOn, by decide +kernel⟩,
    ⟨s7, by decide +kernel⟩,
    ⟨s8, by decide +kernel⟩,
    ⟨s9, by decide +kernel⟩,
    ⟨s10, 9, by decide +kernel⟩,
    ⟨crystalOn, .canA, 0, by unfold MayWrite Accepts; decide +kernel⟩,
    ⟨crystalOn, .canA, 6462908006400, by unfold MayWrite Accepts; decide +kernel⟩,
    ⟨crystalOn, by decide +kernel⟩,
    ⟨crystalOn, .canA, true, by unfold MayWrite Accepts; decide +kernel⟩,
    ⟨s11, -600, by decide +kernel⟩,
    ⟨s11, -601, by decide +kernel⟩,
    ⟨s12, -600, -24265000, by decide +kernel⟩,
    ⟨s13, -600, by decide +kernel⟩,
    ⟨s13, -601, by decide +kernel⟩,
    ⟨crystalOn, false, by decide +kernel⟩,
    ⟨s14, true, by decide +kernel⟩,
    ⟨s15, true, by decide +kernel⟩,
    ⟨crystalOn, by decide +kernel⟩,
    ⟨s16, by decide +kernel⟩,
    ⟨crystalOn, by decide +kernel⟩,
    ⟨s17, by decide +kernel⟩,
    ⟨s18, by decide +kernel⟩,
    ⟨crystalOn, .canA, true, 0, by unfold MayWrite Accepts; decide +kernel⟩⟩

end Stores

/-! ## The machine as a whole -/

theorem met_EmptyQueueIdles :
    ∃ s : State, s.pending = [] ∧ s.dev.svc.emergencies = [] ∧ s.dev.svc.pubQueue = [] :=
  ⟨booted, by decide +kernel⟩

theorem met_CommandsKeepQueue :
    (∃ (c : Instr) (s t : State), Machine.exec c s = .next t) ∧ withinRatings (.vioChange 3600) = true ∧
      withinRatings (.vioChange 3601) = false :=
  ⟨⟨.sampleTick, booted, _, rfl⟩, by decide, by decide⟩

theorem met_StepKeepsMemory : ∃ s t : State, MemoryOk s ∧ Machine.step s = .next t :=
  ⟨{ booted with pending := [.sampleTick], mem := [(0x10000000, 7), (0x100FFFFF, 1)] }, _,
    by unfold MemoryOk; decide +kernel, rfl⟩

theorem met_StepKeepsShape : ∃ s t : State, Shape s.dev ∧ Machine.step s = .next t :=
  ⟨{ booted with pending := [.rowStart] }, _, by unfold Shape; decide +kernel, rfl⟩

theorem met_RoleOnlyAtRelease :
    ∃ (c : Instr) (s t : State), (∀ (h : Bool) (mv : Nat), c ≠ .resetRelease h mv) ∧ Machine.exec c s = .next t :=
  ⟨.externalReset, booted, _, fun _ _ => Instr.noConfusion, rfl⟩

theorem met_StepKeepsBounds : ∃ s t : State, Bounded s.dev ∧ Machine.step s = .next t :=
  ⟨{ booted with pending := [.eventRaise 9] }, _, by unfold Bounded; decide +kernel, rfl⟩

/-- A property of the state that a command leaves; false where it does not complete. -/
def left (r : Host.Outcome State Fault Refusal) (p : State → Bool) : Bool :=
  match r with
  | .next t => p t
  | _ => false

/-- Two steps' commands in order: VSTK rises, and the rest waits. -/
theorem test_step_first_in_first_out :
    left (Machine.step { State.reset with pending := [.hvPowerOn 48000, .vlogRise 24000] })
      (fun t => t.dev.pwr.vstk && !t.dev.pwr.vlog && t.pending == [.vlogRise 24000]) = true := by decide +kernel

/-- Table 16.1: 3.6 V is the limit of VIO. -/
theorem test_vio_beyond : Machine.exec (.vioChange 3601) State.reset = .fault (.beyondAbsoluteMaximum "VIO") := rfl

/-! ## The manual's worked examples -/

/-- Chapter 4: 3.651198 V and −4.25 mV (in steps of 12.5 nV) as stream values. -/
theorem test_stream_values : cellStream 3651198 = 0xB315D ∧ currentStream (-340000) = 0xFACFE := by decide +kernel

/-- Chapter 4: code 0x5393 of a 10 kΩ thermistor reads 45.0 °C. -/
theorem test_thermistor : ntcTenths 16 0x5393 10000 10000 3435 = some 450 := by decide +kernel

/-- Chapter 5: the factors of cell 5 at 45.0 °C between the sets at 25.0 °C and 85.0 °C. -/
theorem test_gauge_factors :
    let at25 : GaugeSet := ⟨250, List.replicate 26 (-40), List.replicate 26 1073870673⟩
    let at85 : GaugeSet := ⟨850, List.replicate 26 20, List.replicate 26 1073612975⟩
    (nthInt (factorsAt 450 [at25, at85]).1 4, nth (factorsAt 450 [at25, at85]).2 4) = (-20, 1073784774) := by
  decide +kernel

/-- Chapter 6: 24 cells of 47.174 mW under a limit of 1,000 mW, in raw and in blank mode. -/
theorem test_throttle_duty :
    throttleDuty 0 (24 * 47174000000 * 2 * 16) 1000 = 14 ∧ throttleDuty 0 (24 * 47174000000 * 2 * 14) 1000 = 16 := by
  decide +kernel

/-- Chapter 9: the CAN frame that writes FilterCorner of member 5 becomes a request to that member. -/
theorem test_can_write_to_member :
    left (Machine.exec (.canFrameReceived false 0x641 true [2, 2, 0, 0x20, 5, 0, 1] [.received])
      (booted.onDev fun d => (d.set (Reg.mirrorState 5) 1).set Reg.highestAddress 5))
      (fun t => t.dev.svc.requests.map (fun r => (r.member, r.message)) == [(5, [2, 2, 0, 0x20, 5, 0, 1])])
      = true := by decide +kernel

/-- Chapter 9: the content of that float frame: kind 1, sequence 3, length, 7 bytes and the CRC. -/
theorem test_float_content :
    (frameContent 1 3 [2, 2, 0, 0x20, 5, 0, 1]).take 9 = [0x13, 7, 2, 2, 0, 0x20, 5, 0, 1]
      ∧ (frameContent 1 3 [2, 2, 0, 0x20, 5, 0, 1]).length = 11 := by decide +kernel

/-- Chapter 13: the currents offered for 150 W with a 5 A cable. -/
theorem test_offered_currents :
    let d := (commissioned.dev.set Reg.reversePowerLimit 150000).set Reg.cableCurrent 2
    [d.pdoCurrent 48000 0 5000, d.pdoCurrent 36000 0 5000, d.pdoCurrent 28000 0 5000, d.pdoCurrent 20000 3000 5000]
      = [3120, 4160, 5000, 5000] := by decide +kernel

/-- Chapter 15: −51.40 ppm at 65.0 °C, 101 ticks to correct. -/
theorem test_crystal_compensation :
    let d := ((commissioned.dev.set Reg.ctrlDieTemperature 650).set Reg.crystalTurnover 250).set Reg.crystalCurvature (-34)
    let t := (d.set Reg.crystalOffset 300).compensate
    (t.reg Reg.compensationInForce, t.stor.ticksToCorrect) = (-5140, -101) := by decide +kernel

/-! ## Ball map -/

/-- Chapter 2: phase 3 stands in column 19, from BST3 at A19 to VDRV at L19. -/
theorem test_phase_column :
    logicBall 0 19 = "BST3" ∧ logicBall 1 19 = "GH3" ∧ ballRows[10]? = some "L" ∧ logicBall 10 19 = "VDRV" := by
  decide +kernel

/-- Chapter 2: 77 named balls and 143 of HVGND, 131 named balls and 133 of GND. -/
theorem test_ball_counts :
    let hv := (List.range 22).flatMap (fun r => (List.range 10).map (fun c => hvBall r (c + 1)))
    let lf := (List.range 22).flatMap (fun r => (List.range 12).map (fun c => logicBall r (c + 11)))
    hv.count "HVGND" = 143 ∧ hv.length = 220 ∧ lf.count "GND" = 133 ∧ lf.length = 264 := by decide +kernel

end Sys2Proof.Tests
end

/-! # The roles in force (R2, R19, R20, R66, R67)

The controller die latches its role at the release of reset, and the monitor die takes the role that lane H reports. That
nothing else changes either is a frame, proved bottom up along the calls of the model: one lemma for each shared operation,
one for each command, each from the lemmas of the operations that it calls; an operation with one caller is unfolded there.
The few operations that do set the monitor die's role follow with what they set it to. -/

namespace Sys2Proof.Machine

/-! ## The pair of roles -/

/-- The role of the device and the role of its monitor die. -/
def Power.roles (p : Power) : Role × Role := (p.role, p.monRole)

/-- The roles in force on a device. -/
def Dev.roles (d : Dev) : Role × Role := d.pwr.roles

/-! The pair of an updated record. These equations are not definitional steps to `simp` (hence `(rfl)`): the kernel would check
such a step by comparing whole records, field by field. -/

@[simp] theorem Power.pair_roles (p : Power) : (p.role, p.monRole) = p.roles := (rfl)
@[simp] theorem Dev.pwr_roles (d : Dev) : d.pwr.roles = d.roles := (rfl)
@[simp] theorem Power.roles_mk (vstk vlog vlogLow vio : Bool) (kaBatMv : Nat) (ka : KaSupply) (rstbLow headEn : Bool)
    (logic : LogicMode) (hv : HvMode) (role monRole : Role) (laneH laneF laneU trimLoaded crystal monLocked : Bool)
    (markCycles : Nat) (startupTempDone fieldLoaded shipLatched shipExit hb1Off wakeDue shipEntry closing : Bool)
    (crossings : List (Nat × Word)) :
    Power.roles ⟨vstk, vlog, vlogLow, vio, kaBatMv, ka, rstbLow, headEn, logic, hv, role, monRole, laneH, laneF, laneU,
      trimLoaded, crystal, monLocked, markCycles, startupTempDone, fieldLoaded, shipLatched, shipExit, hb1Off, wakeDue,
      shipEntry, closing, crossings⟩ = (role, monRole) := (rfl)
@[simp] theorem Dev.roles_mk (regs : Tab) (blobs : List (Nat × List Nat)) (free : Nat) (pwr : Power)
    (snaps : List SnapGroup) (samp : Sampling) (sup : Supervision) (bal : Balancing) (link : Link) (chain : Chain)
    (svc : Service) (ctl : Controller) (stor : Storage) (conv : Converter) (path : Path) (pd : Pd) (safe : Safety) :
    Dev.roles ⟨regs, blobs, free, pwr, snaps, samp, sup, bal, link, chain, svc, ctl, stor, conv, path, pd, safe⟩
      = pwr.roles := (rfl)

@[simp] theorem Dev.setPwr_roles (d : Dev) (f : Power → Power) : (d.setPwr f).roles = (f d.pwr).roles := (rfl)

/-! ## Branches and loops -/

@[simp] theorem Dev.roles_ite (c : Prop) [Decidable c] (d e : Dev) :
    (if c then d else e).roles = if c then d.roles else e.roles := apply_ite Dev.roles c d e
@[simp] theorem State.roles_ite (c : Prop) [Decidable c] (s t : State) :
    (if c then s else t).dev.roles = if c then s.dev.roles else t.dev.roles := apply_ite (fun u : State => u.dev.roles) c s t
@[simp] theorem Dev.snd_roles_ite {α : Type} (c : Prop) [Decidable c] (x y : α × Dev) :
    (if c then x else y).2.roles = if c then x.2.roles else y.2.roles := apply_ite (fun x : α × Dev => x.2.roles) c x y

@[simp] theorem Dev.foldl_roles {α : Type} (f : Dev → α → Dev) (hf : ∀ d a, (f d a).roles = d.roles) (l : List α)
    (d : Dev) : (l.foldl f d).roles = d.roles := by
  induction l generalizing d with
  | nil => rfl
  | cons a t ih => rw [List.foldl_cons, ih, hf]

@[simp] theorem Dev.fst_foldl_roles {α β : Type} (f : Dev × β → α → Dev × β)
    (hf : ∀ x a, (f x a).1.roles = x.1.roles) (l : List α) (x : Dev × β) : (l.foldl f x).1.roles = x.1.roles := by
  induction l generalizing x with
  | nil => rfl
  | cons a t ih => rw [List.foldl_cons, ih, hf]

@[simp] theorem State.foldl_roles {α : Type} (f : State → α → State)
    (hf : ∀ s a, (f s a).dev.roles = s.dev.roles) (l : List α) (s : State) : (l.foldl f s).dev.roles = s.dev.roles := by
  induction l generalizing s with
  | nil => rfl
  | cons a t ih => rw [List.foldl_cons, ih, hf]

/-! ## Pairs -/

theorem Dev.snd_roles_of_eq {α : Type} {x : α × Dev} {a : α} {e : Dev} (h : x = (a, e)) : e.roles = x.2.roles := by rw [h]
theorem Dev.fst_roles_of_eq {α : Type} {x : Dev × α} {a : α} {e : Dev} (h : x = (e, a)) : e.roles = x.1.roles := by rw [h]

/-! ## Writes of the object service -/

/-- The device after a write: as it was where the write is refused. -/
def Written.dev (d : Dev) : Written → Dev
  | .ok e => e
  | .error _ => d

/-- The device that a write leaves, accepted or refused. -/
def WriteResult.dev : WriteResult → Dev
  | .ok d => d
  | .error (_, d) => d

@[simp] theorem Written.dev_ok (d e : Dev) : Written.dev d (.ok e) = e := (rfl)
@[simp] theorem Written.dev_error (d : Dev) (reason : Nat) : Written.dev d (.error reason) = d := (rfl)
@[simp] theorem Written.dev_ite (d : Dev) (c : Prop) [Decidable c] (x y : Written) :
    Written.dev d (if c then x else y) = if c then Written.dev d x else Written.dev d y := apply_ite (Written.dev d) c x y
@[simp] theorem WriteResult.dev_ok (d : Dev) : WriteResult.dev (.ok d) = d := (rfl)
@[simp] theorem WriteResult.dev_error (reason : Nat) (d : Dev) : WriteResult.dev (.error (reason, d)) = d := (rfl)
@[simp] theorem WriteResult.dev_ite (c : Prop) [Decidable c] (x y : WriteResult) :
    WriteResult.dev (if c then x else y) = if c then WriteResult.dev x else WriteResult.dev y :=
  apply_ite WriteResult.dev c x y
@[simp] theorem WriteResult.map_roles (f : Dev → Dev) (hf : ∀ d, (f d).roles = d.roles) (w : WriteResult) :
    (WriteResult.dev (w.map f)).roles = (WriteResult.dev w).roles := by
  cases w with
  | ok d => exact hf d
  | error e => rfl

theorem Written.roles_of_ok {d e : Dev} {w : Written} {r : Role × Role} (h : w = .ok e)
    (hw : (Written.dev d w).roles = r) : e.roles = r := by
  rwa [h, Written.dev_ok] at hw
theorem WriteResult.roles_of_ok {w : WriteResult} {e : Dev} (h : w = .ok e) : e.roles = (WriteResult.dev w).roles := by
  rw [h, WriteResult.dev_ok]
theorem WriteResult.roles_of_error {w : WriteResult} {x : Nat} {e : Dev} (h : w = .error (x, e)) :
    e.roles = (WriteResult.dev w).roles := by
  rw [h, WriteResult.dev_error]

@[simp] theorem Ask.written_dev (a : Ask) (agent : Bool) (w : WriteResult) : (a.written agent w).2 = WriteResult.dev w := by
  cases w <;> rfl

/-! ## Commands -/

/-- Where a command completes it leaves both roles as they were. -/
def KeepsRoles (s : State) (r : Res) : Prop := ∀ t, r = .next t → t.dev.roles = s.dev.roles

@[simp] theorem keepsRoles_next (s t : State) : KeepsRoles s (.next t) ↔ t.dev.roles = s.dev.roles :=
  ⟨fun h => h t rfl, fun h _ e => Host.Outcome.next.inj e ▸ h⟩
@[simp] theorem keepsRoles_fault (s : State) (f : Fault) : KeepsRoles s (.fault f) := fun _ => nofun
@[simp] theorem keepsRoles_ite (s : State) (c : Prop) [Decidable c] (x y : Res) :
    KeepsRoles s (if c then x else y) ↔ if c then KeepsRoles s x else KeepsRoles s y := by
  split <;> rfl

@[simp] theorem State.together_roles (s t : State) : (s.together t).dev.roles = t.dev.roles := (rfl)

/-! ## The operations and the commands, file by file -/

section

variable (d : Dev) (s : State)

/-! ### Machine/Ops -/

@[simp] theorem Dev.set_roles (r : Reg) (v : Int) : (d.set r v).roles = d.roles := by simp [Dev.set]
@[simp] theorem Dev.setNat_roles (r : Reg) (v : Nat) : (d.setNat r v).roles = d.roles := by simp [Dev.setNat]
@[simp] theorem Dev.setBool_roles (r : Reg) (b : Bool) : (d.setBool r b).roles = d.roles := by simp [Dev.setBool]
@[simp] theorem Dev.setBit_roles (r : Reg) (n : Nat) (b : Bool) : (d.setBit r n b).roles = d.roles := by simp [Dev.setBit]
@[simp] theorem Dev.orBits_roles (r : Reg) (m : Nat) : (d.orBits r m).roles = d.roles := by simp [Dev.orBits]
@[simp] theorem Dev.andNot_roles (r : Reg) (m : Nat) : (d.andNot r m).roles = d.roles := by simp [Dev.andNot]
@[simp] theorem Dev.bump_roles (r : Reg) : (d.bump r).roles = d.roles := by simp [Dev.bump]
@[simp] theorem Dev.bumpBy_roles (r : Reg) (n : Nat) : (d.bumpBy r n).roles = d.roles := by simp [Dev.bumpBy]
@[simp] theorem Dev.dropRegs_roles (p : Nat → Bool) : (d.dropRegs p).roles = d.roles := by simp [Dev.dropRegs]
@[simp] theorem Dev.setBlob_roles (key : Nat) (v : List Nat) : (d.setBlob key v).roles = d.roles := by simp [Dev.setBlob]
@[simp] theorem Dev.dropBlobs_roles (p : Nat → Bool) : (d.dropBlobs p).roles = d.roles := by simp [Dev.dropBlobs]
@[simp] theorem Dev.freeWord_roles : d.freeWord.2.roles = d.roles := by simp [Dev.freeWord]
@[simp] theorem Dev.freeBool_roles : d.freeBool.2.roles = d.roles := by simp [Dev.freeBool]
@[simp] theorem Dev.refreshSupply_roles : d.refreshSupply.roles = d.roles := by simp [Dev.refreshSupply]

@[simp] theorem Dev.dmaReady_roles (c : Nat) : (d.dmaReady c).roles = d.roles := by
  unfold Dev.dmaReady
  dsimp only
  split <;> simp

@[simp] theorem Dev.raiseBare_roles (es : List Nat) :
    (d.raiseBare es).1.roles = d.roles := by simp [Dev.raiseBare, Dev.dmaTrigger, Dev.markSource, Dev.queueEmergency]
@[simp] theorem Dev.logPut_roles (e : List Nat) : (d.logPut e).roles = d.roles := by simp [Dev.logPut]
@[simp] theorem Dev.logDrop_roles : d.logDrop.roles = d.roles := by simp [Dev.logDrop]
@[simp] theorem Dev.log_roles (kind code data : Nat) : (d.log kind code data).roles = d.roles := by simp [Dev.log]
@[simp] theorem Dev.raiseNow_roles (es : List Nat) : (d.raiseNow es).roles = d.roles := by simp [Dev.raiseNow, Dev.logEvent]
@[simp] theorem Dev.raiseMany_roles (es : List Nat) : (d.raiseMany es).roles = d.roles := by simp [Dev.raiseMany]
@[simp] theorem Dev.raise_roles (e : Nat) : (d.raise e).roles = d.roles := by simp [Dev.raise]
@[simp] theorem Dev.raiseKa_roles (e : Nat) : (d.raiseKa e).roles = d.roles := by simp [Dev.raiseKa]
@[simp] theorem Dev.raiseIf_roles (c : Bool) (e : Nat) : (d.raiseIf c e).roles = d.roles := by simp [Dev.raiseIf]
@[simp] theorem Dev.setPortLink_roles (p : Port) (l : PortLink) :
    (d.setPortLink p l).roles = d.roles := by simp [Dev.setPortLink]

@[simp] theorem Dev.windowAbort_roles (reason : Nat) : (d.windowAbort reason).roles = d.roles := by
  unfold Dev.windowAbort
  dsimp only
  rw [Dev.roles_mk, Dev.pwr_roles, Dev.setNat_roles, Dev.bump_roles]

/-! ### Machine/Snapshots -/

@[simp] theorem Dev.setGroup_roles (g : Nat) (v : SnapGroup) : (d.setGroup g v).roles = d.roles := by simp [Dev.setGroup]
@[simp] theorem Dev.latchInstant_roles (g : Nat) (words : List Nat) :
    (d.latchInstant g words).roles = d.roles := by simp [Dev.latchInstant, Dev.latch]
@[simp] theorem Dev.snapshotInstant_roles (g : Nat) : (d.snapshotInstant g).roles = d.roles := by simp [Dev.snapshotInstant]
@[simp] theorem execSnapshotLatchInstant_keepsRoles (g : Nat) :
    KeepsRoles s (execSnapshotLatchInstant g s) := by simp [execSnapshotLatchInstant]
@[simp] theorem Dev.openRead_roles (g reader : Nat) : (d.openRead g reader).roles = d.roles := by simp [Dev.openRead]
@[simp] theorem Dev.closeRead_roles (g reader : Nat) : (d.closeRead g reader).roles = d.roles := by simp [Dev.closeRead]
@[simp] theorem Dev.closeReader_roles (reader : Nat) : (d.closeReader reader).roles = d.roles := by simp [Dev.closeReader]
@[simp] theorem execSnapshotReadOpen_keepsRoles (g reader : Nat) :
    KeepsRoles s (execSnapshotReadOpen g reader s) := by simp [execSnapshotReadOpen]
@[simp] theorem Dev.holdExpires_roles (g : Nat) : (d.holdExpires g).roles = d.roles := by
  unfold Dev.holdExpires
  split <;> simp
@[simp] theorem execSnapshotHoldExpiry_keepsRoles (g : Nat) :
    KeepsRoles s (execSnapshotHoldExpiry g s) := by simp [execSnapshotHoldExpiry]
@[simp] theorem Dev.requestLatches_roles (mask : Nat) :
    (d.requestLatches mask).roles = d.roles := by simp [Dev.requestLatches]

/-! ### Machine/Counters -/

@[simp] theorem Dev.countPack_roles (i num den : Nat) : (d.countPack i num den).roles = d.roles := by simp [Dev.countPack]
@[simp] theorem Dev.countCell_roles (k num den : Nat) : (d.countCell k num den).roles = d.roles := by simp [Dev.countCell]
@[simp] theorem Dev.refreshSource_roles : d.refreshSource.roles = d.roles := by simp [Dev.refreshSource]
@[simp] theorem Dev.integrate_roles (s : CounterStep) : (d.integrate s).roles = d.roles := by simp [Dev.integrate]
@[simp] theorem Dev.takeStep_roles : d.takeStep.roles = d.roles := by
  unfold Dev.takeStep
  split <;> simp
@[simp] theorem Dev.applyClear_roles (mask : Nat) : (d.applyClear mask).roles = d.roles := by simp [Dev.applyClear]
@[simp] theorem Dev.applyRestore_roles (bytes : List Nat) :
    (d.applyRestore bytes).roles = d.roles := by simp [Dev.applyRestore]

@[simp] theorem Dev.counterRowMark_roles : d.counterRowMark.roles = d.roles := by
  unfold Dev.counterRowMark
  split
  · rfl
  · rw [Dev.latchInstant_roles, Dev.latchInstant_roles, Dev.takeStep_roles]
    split
    all_goals
      simp only [Dev.applyRestore_roles, Dev.roles_mk, Dev.pwr_roles]
      split <;> simp

@[simp] theorem execCounterRowMark_keepsRoles : KeepsRoles s (execCounterRowMark s) := by simp [execCounterRowMark]

/-! ### Machine/Sampling -/

@[simp] theorem Dev.startSettling_roles (mask : Nat) (other : Bool) :
    (d.startSettling mask other).roles = d.roles := by simp [Dev.startSettling]
@[simp] theorem execSettlingEnd_keepsRoles (c : Nat) :
    KeepsRoles s (execSettlingEnd c s) := by simp [execSettlingEnd, Dev.settlingEnd]
@[simp] theorem Dev.refreshTimed_roles : d.refreshTimed.roles = d.roles := by simp [Dev.refreshTimed]

@[simp] theorem Dev.refreshReach_roles : d.refreshReach.roles = d.roles := by
  unfold Dev.refreshReach
  split
  · rfl
  · split <;> simp

@[simp] theorem Dev.alignAtTick_roles (row : Nat) : (d.alignAtTick row).roles = d.roles := by
  unfold Dev.alignAtTick
  split <;> simp
@[simp] theorem Dev.bufferTriggered_roles (t : Nat) : (d.bufferTriggered t).roles = d.roles := by simp [Dev.bufferTriggered]
@[simp] theorem execBufferTrigger_keepsRoles (t : Nat) : KeepsRoles s (execBufferTrigger t s) := by simp [execBufferTrigger]
@[simp] theorem execBufferFreeze_keepsRoles :
    KeepsRoles s (execBufferFreeze s) := by simp [execBufferFreeze, Dev.bufferFrozen]
@[simp] theorem Dev.bufferRearmed_roles : d.bufferRearmed.roles = d.roles := by simp [Dev.bufferRearmed]
@[simp] theorem Dev.bufferModeWritten_roles (v : Nat) :
    (d.bufferModeWritten v).roles = d.roles := by simp [Dev.bufferModeWritten]
@[simp] theorem Dev.holdMean_roles : d.holdMean.roles = d.roles := by simp [Dev.holdMean]
@[simp] theorem Dev.cornerApply_roles : d.cornerApply.roles = d.roles := by
  unfold Dev.cornerApply
  split <;> simp
@[simp] theorem execFilterCornerApply_keepsRoles : KeepsRoles s (execFilterCornerApply s) := by simp [execFilterCornerApply]
@[simp] theorem Dev.streamApply_roles : d.streamApply.roles = d.roles := by
  unfold Dev.streamApply
  split <;> simp
@[simp] theorem execStreamRateApply_keepsRoles : KeepsRoles s (execStreamRateApply s) := by simp [execStreamRateApply]

/-! ### Machine/Auxiliary -/

@[simp] theorem Dev.setAux_roles (b : Bool) (c : AuxConverter) : (d.setAux b c).roles = d.roles := by simp [Dev.setAux]
@[simp] theorem Dev.applyRef_roles (b : Bool) : (d.applyRef b).roles = d.roles := by simp [Dev.applyRef]
@[simp] theorem Dev.endPass_roles (b : Bool) : (d.endPass b).roles = d.roles := by simp [Dev.endPass]
@[simp] theorem Dev.startPass_roles (b : Bool) : (d.startPass b).roles = d.roles := by simp [Dev.startPass]
@[simp] theorem Dev.dropPass_roles (b : Bool) : (d.dropPass b).roles = d.roles := by simp [Dev.dropPass]
@[simp] theorem Dev.continuePasses_roles : d.continuePasses.roles = d.roles := by simp [Dev.continuePasses]
@[simp] theorem execAuxPaceTick_keepsRoles : KeepsRoles s (execAuxPaceTick s) := by simp [execAuxPaceTick, Dev.paceTick]
@[simp] theorem Dev.writeAuxStart_roles : (Written.dev d d.writeAuxStart).roles = d.roles := by simp [Dev.writeAuxStart]
@[simp] theorem Dev.writeAuxMode_roles (v : Nat) : (d.writeAuxMode v).roles = d.roles := by simp [Dev.writeAuxMode]
@[simp] theorem Dev.takeRef_roles (b : Bool) : (d.takeRef b).roles = d.roles := by simp [Dev.takeRef]
@[simp] theorem Dev.writeAuxRef_roles (b : Bool) (v : Nat) : (d.writeAuxRef b v).roles = d.roles := by simp [Dev.writeAuxRef]
@[simp] theorem execAuxRefSettled_keepsRoles (conv : Nat) (inRange : Bool) :
    KeepsRoles s (execAuxRefSettled conv inRange s) := by simp [execAuxRefSettled, Dev.refSettled]
@[simp] theorem Dev.storeAux_roles (n : Nat) (v : Int) : (d.storeAux n v).roles = d.roles := by simp [Dev.storeAux]
@[simp] theorem Dev.openCheck_roles (n : Nat) (v pulled : Int) :
    (d.openCheck n v pulled).roles = d.roles := by simp [Dev.openCheck]

@[simp] theorem Dev.auxConversion_roles (n : Nat) (code pulled : Int) : (d.auxConversion n code pulled).roles = d.roles := by
  unfold Dev.auxConversion
  dsimp only
  split <;> simp

@[simp] theorem execAuxConversionDone_keepsRoles (n : Nat) (code pulled : Int) :
    KeepsRoles s (execAuxConversionDone n code pulled s) := by simp [execAuxConversionDone]
@[simp] theorem Dev.writeAuxUrgent_roles (n : Nat) :
    (Written.dev d (d.writeAuxUrgent n)).roles = d.roles := by simp [Dev.writeAuxUrgent]
@[simp] theorem Dev.urgentDone_roles (b : Bool) (code : Int) : (d.urgentDone b code).roles = d.roles := by
  unfold Dev.urgentDone
  split <;> simp
@[simp] theorem execAuxUrgentDone_keepsRoles (conv : Nat) (code : Int) :
    KeepsRoles s (execAuxUrgentDone conv code s) := by simp [execAuxUrgentDone]
@[simp] theorem execAuxScanComplete_keepsRoles :
    KeepsRoles s (execAuxScanComplete s) := by simp [execAuxScanComplete, Dev.scanComplete, Dev.judgeNtc]

@[simp] theorem Dev.pairAway_roles (m : Nat) : (d.pairAway m).roles = d.roles := by
  unfold Dev.pairAway
  dsimp only
  split <;> simp

@[simp] theorem Dev.ainConfigured_roles (n : Nat) :
    (d.ainConfigured n).roles = d.roles := by simp [Dev.ainConfigured, Dev.unpair]
@[simp] theorem Dev.writeAinConfig_roles (n v : Nat) : (d.writeAinConfig n v).roles = d.roles := by simp [Dev.writeAinConfig]
@[simp] theorem Dev.writeSelfCal_roles : (Written.dev d d.writeSelfCal).roles = d.roles := by simp [Dev.writeSelfCal]
@[simp] theorem Dev.passesAgain_roles : d.passesAgain.roles = d.roles := by simp [Dev.passesAgain]
@[simp] theorem Dev.abandonSelfCal_roles : d.abandonSelfCal.roles = d.roles := by simp [Dev.abandonSelfCal]

/-! ### Machine/Gauge -/

@[simp] theorem Dev.refreshSetsInUse_roles : d.refreshSetsInUse.roles = d.roles := by simp [Dev.refreshSetsInUse]
@[simp] theorem Dev.computeFactors_roles : d.computeFactors.roles = d.roles := by simp [Dev.computeFactors]
@[simp] theorem Dev.tableTaken_roles (before : Dev) : (d.tableTaken before).roles = d.roles := by simp [Dev.tableTaken]
@[simp] theorem Dev.writeGaugeField_roles (g : Nat) (b : List Nat) :
    (Written.dev d (d.writeGaugeField g b)).roles = d.roles := by simp [Dev.writeGaugeField]
@[simp] theorem Dev.writeGaugeValid_roles (g v : Nat) :
    (d.writeGaugeValid g v).roles = d.roles := by simp [Dev.writeGaugeValid]
@[simp] theorem Dev.applyFactors_roles : d.applyFactors.roles = d.roles := by
  unfold Dev.applyFactors
  split <;> simp
@[simp] theorem execGaugeFactorsApply_keepsRoles : KeepsRoles s (execGaugeFactorsApply s) := by simp [execGaugeFactorsApply]
@[simp] theorem execGaugeTempInterval_keepsRoles :
    KeepsRoles s (execGaugeTempInterval s) := by simp [execGaugeTempInterval, Dev.gaugeInterval]

/-! ### Machine/Supervision -/

@[simp] theorem Dev.refreshBal_roles : d.refreshBal.roles = d.roles := by simp [Dev.refreshBal]
@[simp] theorem Dev.refreshLive_roles : d.refreshLive.roles = d.roles := by simp [Dev.refreshLive]
@[simp] theorem Dev.restartCounts_roles : d.restartCounts.roles = d.roles := by simp [Dev.restartCounts]
@[simp] theorem execComparatorRawChange_keepsRoles (k : Nat) (ov active : Bool) :
    KeepsRoles s (execComparatorRawChange k ov active s) := by simp [execComparatorRawChange, Dev.rawChange]
@[simp] theorem execComparatorTrip_keepsRoles (k : Nat) (ov : Bool) :
    KeepsRoles s (execComparatorTrip k ov s) := by simp [execComparatorTrip, Dev.comparatorTrip]
@[simp] theorem execComparatorRelease_keepsRoles (k : Nat) (ov : Bool) :
    KeepsRoles s (execComparatorRelease k ov s) := by simp [execComparatorRelease, Dev.comparatorRelease]
@[simp] theorem Dev.sendAlarm_roles (skip : Option Nat) (merged : Nat) :
    (d.sendAlarm skip merged).roles = d.roles := by simp [Dev.sendAlarm]
@[simp] theorem execFaultStateChange_keepsRoles (merged : Nat) :
    KeepsRoles s (execFaultStateChange merged s) := by simp [execFaultStateChange, Dev.faultChange]
@[simp] theorem execAlarmReinject_keepsRoles (merged : Nat) :
    KeepsRoles s (execAlarmReinject merged s) := by simp [execAlarmReinject, Dev.alarmReinject]
@[simp] theorem Dev.writeComparatorTest_roles (k : Nat) :
    (Written.dev d (d.writeComparatorTest k)).roles = d.roles := by simp [Dev.writeComparatorTest]
@[simp] theorem Dev.comparatorTestDone_roles (ov uv : Bool) : (d.comparatorTestDone ov uv).roles = d.roles := by
  unfold Dev.comparatorTestDone
  split <;> simp
@[simp] theorem Dev.superviseRuns_roles (w m : Nat) (v : Int) :
    (d.superviseRuns w m v).roles = d.roles := by simp [Dev.superviseRuns, Dev.runIf]
@[simp] theorem Dev.gaugeEdge_roles (period code : Nat) : (d.gaugeEdge period code).roles = d.roles := by
  unfold Dev.gaugeEdge
  split <;> simp
@[simp] theorem execCheckSarSlot_keepsRoles (slot code : Nat) : KeepsRoles s (execCheckSarSlot slot code s) := by
  simp [execCheckSarSlot, Dev.checkSlot, Dev.referenceCheck, Dev.endCellSlot]

@[simp] theorem Dev.stackCheck_roles (code : Nat) (sum : Int) : (d.stackCheck code sum).roles = d.roles := by
  unfold Dev.stackCheck
  extract_lets v diff d1 d2 n sup d3
  have h1 : d1.roles = d.roles := Dev.set_roles d _ _
  have h2 : d2.roles = d.roles := (Dev.set_roles _ _ _).trans h1
  have h3 : d3.roles = d.roles := h2
  split <;> simp [h2, h3]

@[simp] theorem Dev.checkCompare_roles (k period : Nat) (c m : Int) : (d.checkCompare k period c m).roles = d.roles := by
  simp [Dev.checkCompare]
@[simp] theorem Dev.compareSlot_roles (c : CheckSlot) : (d.compareSlot c).roles = d.roles := by simp [Dev.compareSlot]
@[simp] theorem Dev.compareSlots_roles : d.compareSlots.roles = d.roles := by simp [Dev.compareSlots]
@[simp] theorem Dev.refreshOpen_roles : d.refreshOpen.roles = d.roles := by simp [Dev.refreshOpen]
@[simp] theorem Dev.latchWires_roles (mask : Nat) : (d.latchWires mask).roles = d.roles := by simp [Dev.latchWires]
@[simp] theorem Dev.startWirePass_roles : d.startWirePass.roles = d.roles := by simp [Dev.startWirePass]
@[simp] theorem Dev.writeOpenWire_roles : (Written.dev d d.writeOpenWire).roles = d.roles := by simp [Dev.writeOpenWire]
@[simp] theorem execOpenWireInterval_keepsRoles :
    KeepsRoles s (execOpenWireInterval s) := by simp [execOpenWireInterval, Dev.openWireInterval]
@[simp] theorem execOpenWireWindowStart_keepsRoles :
    KeepsRoles s (execOpenWireWindowStart s) := by simp [execOpenWireWindowStart, Dev.wireWindowStart]
@[simp] theorem Dev.wireStage_roles (a b : Nat) : (d.wireStage a b).roles = d.roles := by simp [Dev.wireStage]
@[simp] theorem execOpenWirePullOn_keepsRoles : KeepsRoles s (execOpenWirePullOn s) := by simp [execOpenWirePullOn]
@[simp] theorem execOpenWirePullOff_keepsRoles : KeepsRoles s (execOpenWirePullOff s) := by simp [execOpenWirePullOff]
@[simp] theorem execOpenWireEvaluate_keepsRoles :
    KeepsRoles s (execOpenWireEvaluate s) := by simp [execOpenWireEvaluate, Dev.wireEvaluate]

@[simp] theorem Dev.wireWindowEnd_roles : d.wireWindowEnd.roles = d.roles := by
  unfold Dev.wireWindowEnd
  split
  · split <;> simp
  · rfl

@[simp] theorem execGroupTrip_keepsRoles (w : Nat) (ov tripped : Bool) :
    KeepsRoles s (execGroupTrip w ov tripped s) := by simp [execGroupTrip, Dev.groupTrip]
@[simp] theorem execShuntCommonMode_keepsRoles (x : Nat) (beyond : Bool) :
    KeepsRoles s (execShuntCommonMode x beyond s) := by simp [execShuntCommonMode, Dev.shuntCommonMode]
@[simp] theorem execLegacyWakeCheck_keepsRoles (cells : List Nat) (ain1 ain2 : Nat) :
    KeepsRoles s (execLegacyWakeCheck cells ain1 ain2 s) := by simp [execLegacyWakeCheck, Dev.legacyCheck]

/-! ### Machine/Balancing -/

@[simp] theorem Dev.writeBalRequest_roles (v : Nat) : (d.writeBalRequest v).roles = d.roles := by simp [Dev.writeBalRequest]
@[simp] theorem execBalHoldExpiry_keepsRoles :
    KeepsRoles s (execBalHoldExpiry s) := by simp [execBalHoldExpiry, Dev.balHoldExpiry]
@[simp] theorem execSwitchFaultLatch_keepsRoles (k : Nat) (stuck : Bool) :
    KeepsRoles s (execSwitchFaultLatch k stuck s) := by simp [execSwitchFaultLatch, Dev.switchFault]

@[simp] theorem Dev.takeMeasures_roles : d.takeMeasures.roles = d.roles := by
  unfold Dev.takeMeasures
  dsimp only
  rw [Dev.roles_mk, Dev.pwr_roles, Dev.foldl_roles]
  intro d k
  split <;> simp

@[simp] theorem Dev.assignLevels_roles : d.assignLevels.roles = d.roles := by simp [Dev.assignLevels]
@[simp] theorem Dev.abandonRun_roles (st : Nat) : (d.abandonRun st).roles = d.roles := by simp [Dev.abandonRun]

@[simp] theorem Dev.decideFrame_roles : d.decideFrame.roles = d.roles := by
  unfold Dev.decideFrame
  dsimp only
  split <;> simp

@[simp] theorem Dev.gaugeTick_roles : d.gaugeTick.roles = d.roles := by simp [Dev.gaugeTick]
@[simp] theorem Dev.startGauge_roles : d.startGauge.roles = d.roles := by
  unfold Dev.startGauge
  split <;> simp
@[simp] theorem Dev.startRun_roles : d.startRun.roles = d.roles := by simp [Dev.startRun]
@[simp] theorem execBalanceFrameStart_keepsRoles :
    KeepsRoles s (execBalanceFrameStart s) := by simp [execBalanceFrameStart, Dev.frameStart, Dev.judgeCells, Dev.applyMode]
@[simp] theorem execBlankHold_keepsRoles : KeepsRoles s (execBlankHold s) := by simp [execBlankHold, Dev.blankHold]
@[simp] theorem Dev.writeBalMode_roles (v : Nat) : (d.writeBalMode v).roles = d.roles := by simp [Dev.writeBalMode]
@[simp] theorem Dev.writeWireGauge_roles : (Written.dev d d.writeWireGauge).roles = d.roles := by simp [Dev.writeWireGauge]
@[simp] theorem Dev.noteGauge_roles (mirrorUa : List Int) : (d.noteGauge mirrorUa).roles = d.roles := by
  unfold Dev.noteGauge
  split <;> simp
@[simp] theorem execWireGaugeStep_keepsRoles :
    KeepsRoles s (execWireGaugeStep s) := by simp [execWireGaugeStep, Dev.gaugeStep]
@[simp] theorem Dev.gaugeResult_roles (k n : Nat) (g : GaugeStep) :
    (d.gaugeResult k n g).roles = d.roles := by simp [Dev.gaugeResult]

@[simp] theorem Dev.gaugeDone_roles : d.gaugeDone.roles = d.roles := by
  unfold Dev.gaugeDone
  dsimp only
  split
  · split <;> simp
  · rfl

@[simp] theorem execWireGaugeDone_keepsRoles : KeepsRoles s (execWireGaugeDone s) := by simp [execWireGaugeDone]
@[simp] theorem Dev.writeImpCommand_roles : (Written.dev d d.writeImpCommand).roles = d.roles := by simp [Dev.writeImpCommand]
@[simp] theorem execImpRunStart_keepsRoles : KeepsRoles s (execImpRunStart s) := by simp [execImpRunStart, Dev.impStart]
@[simp] theorem Dev.impLeadInEnd_roles : d.impLeadInEnd.roles = d.roles := by
  unfold Dev.impLeadInEnd
  split <;> simp
@[simp] theorem execImpLeadInEnd_keepsRoles : KeepsRoles s (execImpLeadInEnd s) := by simp [execImpLeadInEnd]
@[simp] theorem Dev.correlate_roles : d.correlate.roles = d.roles := by
  unfold Dev.correlate
  split <;> simp
@[simp] theorem Dev.cellResults_roles (r : ImpRun) (k : Nat) :
    (d.cellResults r k).roles = d.roles := by simp [Dev.cellResults, Dev.toneResult]
@[simp] theorem Dev.nextPhase_roles (r : ImpRun) : (d.nextPhase r).roles = d.roles := by simp [Dev.nextPhase]
@[simp] theorem Dev.impWindowEnd_roles : d.impWindowEnd.roles = d.roles := by
  unfold Dev.impWindowEnd
  split <;> simp
@[simp] theorem execImpWindowEnd_keepsRoles : KeepsRoles s (execImpWindowEnd s) := by simp [execImpWindowEnd]
@[simp] theorem execImpRunAbandon_keepsRoles (forPower : Bool) :
    KeepsRoles s (execImpRunAbandon forPower s) := by simp [execImpRunAbandon]

/-! ### Machine/Memory -/

@[simp] theorem State.physRead_roles (reader a : Nat) : (s.physRead reader a).2.dev.roles = s.dev.roles := by
  unfold State.physRead
  split <;> simp
@[simp] theorem State.physWrite_roles (a v : Nat) : (s.physWrite a v).dev.roles = s.dev.roles := by
  unfold State.physWrite
  split <;> simp
@[simp] theorem Dev.requestorRecord_roles (r : Nat) (bytes : List Nat) :
    (d.requestorRecord r bytes).roles = d.roles := by simp [Dev.requestorRecord]
@[simp] theorem Dev.translationFault_roles (r v : Nat) (write : Bool) (kind phys : Nat) :
    (d.translationFault r v write kind phys).roles = d.roles := by simp [Dev.translationFault]

@[simp] theorem Dev.faultedAccess_roles (r v : Nat) (write fetch : Bool) :
    (d.faultedAccess r v write fetch).roles = d.roles := by
  unfold Dev.faultedAccess
  split
  · split <;> simp
  · rfl

@[simp] theorem execTranslationFault_keepsRoles (r : Nat) (v : BitVec 32) (write fetch : Bool) :
    KeepsRoles s (execTranslationFault r v write fetch s) := by simp [execTranslationFault]

/-! ### Machine/Controller -/

@[simp] theorem Dev.writePageTable_roles (host : Bool) (r : Nat) (entries : List Nat) :
    (Written.dev d (d.writePageTable host r entries)).roles = d.roles := by simp [Dev.writePageTable]
@[simp] theorem Dev.writeTableLength_roles (host : Bool) (r v : Nat) :
    (Written.dev d (d.writeTableLength host r v)).roles = d.roles := by simp [Dev.writeTableLength]
@[simp] theorem Dev.setChan_roles (c : Nat) (v : DmaChannel) : (d.setChan c v).roles = d.roles := by simp [Dev.setChan]
@[simp] theorem Dev.setChanState_roles (c v : Nat) : (d.setChanState c v).roles = d.roles := by simp [Dev.setChanState]
@[simp] theorem Dev.enginePick_roles : d.enginePick.roles = d.roles := by
  unfold Dev.enginePick
  split <;> simp
@[simp] theorem Dev.engineRun_roles : d.engineRun.roles = d.roles := by
  unfold Dev.engineRun
  split <;> simp
@[simp] theorem Dev.beginWait_roles (c : Nat) : (d.beginWait c).roles = d.roles := by simp [Dev.beginWait]
@[simp] theorem Dev.preempt_roles (c : Nat) : (d.preempt c).roles = d.roles := by
  unfold Dev.preempt
  split <;> simp
@[simp] theorem Dev.closeBankOf_roles (c : Nat) : (d.closeBankOf c).roles = d.roles := by simp [Dev.closeBankOf]
@[simp] theorem Dev.dmaFault_roles (c kind stage words : Nat) (uncertain : Bool) (vaddr left phys : Nat) :
    (d.dmaFault c kind stage words uncertain vaddr left phys).roles = d.roles := by simp [Dev.dmaFault]

@[simp] theorem State.readWords_roles (c a n : Nat) : (s.readWords c a n).2.dev.roles = s.dev.roles := by
  induction n generalizing s a with
  | zero => rfl
  | succ n ih => simp [State.readWords, ih]

@[simp] theorem State.writeWords_roles (a : Nat) (words : List Nat) : (s.writeWords a words).dev.roles = s.dev.roles := by
  induction words generalizing s a with
  | nil => rfl
  | cons v t ih => simp [State.writeWords, ih]

@[simp] theorem Dev.takeDescriptor_roles (c : Nat) (ws : List Nat) :
    (d.takeDescriptor c ws).roles = d.roles := by simp [Dev.takeDescriptor]

@[simp] theorem State.descriptorFetch_roles (c : Nat) : (s.descriptorFetch c).dev.roles = s.dev.roles := by
  unfold State.descriptorFetch
  dsimp only
  split
  · split <;> simp
  · simp

@[simp] theorem execDescriptorFetch_keepsRoles (c : Nat) :
    KeepsRoles s (execDescriptorFetch c s) := by simp [execDescriptorFetch]
@[simp] theorem Dev.elementDone_roles (c : Nat) : (d.elementDone c).roles = d.roles := by simp [Dev.elementDone]

@[simp] theorem State.dmaElement_roles (c : Nat) : (s.dmaElement c).dev.roles = s.dev.roles := by
  unfold State.dmaElement
  dsimp only
  split
  · split <;> simp
  · simp

@[simp] theorem execDmaElement_keepsRoles (c : Nat) : KeepsRoles s (execDmaElement c s) := by simp [execDmaElement]
@[simp] theorem Dev.descriptorDone_roles (c : Nat) :
    (d.descriptorDone c).roles = d.roles := by simp [Dev.descriptorDone, Dev.pickAfter]

@[simp] theorem State.dmaWriteBack_roles (c : Nat) : (s.dmaWriteBack c).dev.roles = s.dev.roles := by
  unfold State.dmaWriteBack
  dsimp only
  split
  · split <;> simp
  · simp

@[simp] theorem execDmaWriteBack_keepsRoles (c : Nat) : KeepsRoles s (execDmaWriteBack c s) := by simp [execDmaWriteBack]

@[simp] theorem State.partialElement_roles (c words : Nat) : (s.partialElement c words).dev.roles = s.dev.roles := by
  unfold State.partialElement
  dsimp only
  split <;> simp

@[simp] theorem execDmaFault_keepsRoles (c kind stage words : Nat) :
    KeepsRoles s (execDmaFault c kind stage words s) := by simp [execDmaFault, State.externalFault, State.stageFaults]

@[simp] theorem Dev.dmaReadError_roles (requestor addr : Nat) : (d.dmaReadError requestor addr).roles = d.roles := by
  unfold Dev.dmaReadError
  dsimp only
  split <;> simp

@[simp] theorem execDmaTrigger_keepsRoles (source : Nat) : KeepsRoles s (execDmaTrigger source s) := by simp [execDmaTrigger]
@[simp] theorem Dev.chanHalt_roles (c : Nat) : (d.chanHalt c).roles = d.roles := by simp [Dev.chanHalt]
@[simp] theorem Dev.writeChannelCommand_roles (host : Bool) (c v : Nat) :
    (Written.dev d (d.writeChannelCommand host c v)).roles = d.roles := by
  simp [Dev.writeChannelCommand, Dev.chanStart, Dev.chanResume, Dev.chanAbort]
@[simp] theorem Dev.writeFirstDescriptor_roles (host : Bool) (c v : Nat) :
    (Written.dev d (d.writeFirstDescriptor host c v)).roles = d.roles := by simp [Dev.writeFirstDescriptor]
@[simp] theorem Dev.writeChannelPriority_roles (host : Bool) (c v : Nat) :
    (Written.dev d (d.writeChannelPriority host c v)).roles = d.roles := by simp [Dev.writeChannelPriority]

@[simp] theorem State.ringThrough_roles (e at_ : Nat) (words : List Nat) :
    (s.ringThrough e at_ words).dev.roles = s.dev.roles := by
  induction words generalizing s at_ with
  | nil => simp [State.ringThrough, Dev.ringEntered]
  | cons w rest ih =>
    unfold State.ringThrough
    dsimp only
    split <;> simp [ih]

@[simp] theorem State.ringWrite_roles (row : Nat) (windows : List (Nat × Nat)) :
    (s.ringWrite row windows).dev.roles = s.dev.roles := by simp [State.ringWrite, Dev.ringEntered]
@[simp] theorem execEventRaise_keepsRoles (e : Nat) : KeepsRoles s (execEventRaise e s) := by simp [execEventRaise]
@[simp] theorem Dev.clearFlag_roles (e v : Nat) : (d.clearFlag e v).roles = d.roles := by simp [Dev.clearFlag]
@[simp] theorem Dev.writeEventSetting_roles (e : Nat) (r : Reg) (v : Nat) :
    (Written.dev d (d.writeEventSetting e r v)).roles = d.roles := by simp [Dev.writeEventSetting]

/-! ### Machine/Outputs -/

@[simp] theorem Dev.wideConsumers_roles (mirrorUa : List Int) :
    (d.wideConsumers mirrorUa).roles = d.roles := by simp [Dev.wideConsumers, Dev.noteWire, Dev.superviseGroups]
@[simp] theorem Dev.narrowConsumers_roles (atTick : Bool) : (d.narrowConsumers atTick).roles = d.roles := by
  simp [Dev.narrowConsumers, Dev.storeSet, Dev.liveObjects, Dev.bufferWrite]
@[simp] theorem Dev.takeOutput_roles (raw mirrorUa vdsUv : List Int) : (d.takeOutput raw mirrorUa vdsUv).roles = d.roles := by
  simp [Dev.takeOutput, Dev.integrateOutput, Dev.noteOutput, Dev.formTaps, Dev.measureSwitches]
@[simp] theorem Dev.deliverOwn_roles : d.deliverOwn.roles = d.roles := by
  unfold Dev.deliverOwn
  split <;> simp
@[simp] theorem Dev.tickAt_roles (row : Nat) : (d.tickAt row).roles = d.roles := by simp [Dev.tickAt]
@[simp] theorem execSampleTick_keepsRoles : KeepsRoles s (execSampleTick s) := by simp [execSampleTick, Dev.sampleTick]
@[simp] theorem execTickLost_keepsRoles : KeepsRoles s (execTickLost s) := by simp [execTickLost, Dev.tickLost]
@[simp] theorem execTickReturn_keepsRoles (row : Nat) (withinHalf : Bool) :
    KeepsRoles s (execTickReturn row withinHalf s) := by simp [execTickReturn, Dev.tickReturn]
@[simp] theorem execChannelSetApply_keepsRoles : KeepsRoles s (execChannelSetApply s) := by
  simp [execChannelSetApply, Dev.channelApply, Dev.channelsInForce, Dev.refreshOwnCount]

/-! ### Machine/Link -/

@[simp] theorem Dev.leaveUp_roles (p : Port) : (d.leaveUp p).roles = d.roles := by simp [Dev.leaveUp]
@[simp] theorem execPortSignalReturn_keepsRoles (p : Port) :
    KeepsRoles s (execPortSignalReturn p s) := by simp [execPortSignalReturn, Dev.signalReturn]
@[simp] theorem Dev.clearStats_roles (p : Nat) : (d.clearStats p).roles = d.roles := by simp [Dev.clearStats]
@[simp] theorem Dev.putSlot_roles (s v : Nat) : (d.putSlot s v).roles = d.roles := by
  unfold Dev.putSlot
  split <;> simp
@[simp] theorem Dev.refreshForwardBy_roles (next : Nat → Nat) :
    (d.refreshForwardBy next).roles = d.roles := by simp [Dev.refreshForwardBy]
@[simp] theorem Dev.memberForward_roles : d.memberForward.roles = d.roles := by simp [Dev.memberForward]
@[simp] theorem Dev.adoptUp_roles (p : Port) : (d.adoptUp p).roles = d.roles := by simp [Dev.adoptUp]
@[simp] theorem Dev.takeRingBreak_roles (p : Port) : (d.takeRingBreak p).roles = d.roles := by simp [Dev.takeRingBreak]
@[simp] theorem Dev.answerProbe_roles (q : Nat) : (d.answerProbe q).roles = d.roles := by
  unfold Dev.answerProbe
  split <;> simp
@[simp] theorem Dev.departSlots_roles (q sincePs : Nat) :
    (d.departSlots q sincePs).roles = d.roles := by simp [Dev.departSlots]
@[simp] theorem Dev.noteProbe_roles (p : Nat) (s : ServiceSlot) (turnaround : Nat) :
    (d.noteProbe p s turnaround).roles = d.roles := by simp [Dev.noteProbe]
@[simp] theorem Dev.closeRow_roles : d.closeRow.roles = d.roles := by simp [Dev.closeRow]
@[simp] theorem Dev.passRow_roles (row : Nat) (slots : List ServiceSlot) :
    (d.passRow row slots).roles = d.roles := by simp [Dev.passRow]
@[simp] theorem Dev.acceptRow_roles (p row flags : Nat) (headerOk : Bool) (slots : List ServiceSlot) :
    (d.acceptRow p row flags headerOk slots).roles = d.roles := by simp [Dev.acceptRow, Dev.takeFlags, Dev.writePresence]
@[simp] theorem execRingBreakReceived_keepsRoles (p : Port) (row : Nat) :
    KeepsRoles s (execRingBreakReceived p row s) := by simp [execRingBreakReceived, Dev.ringBreakReceived]
@[simp] theorem Dev.checkMark_roles (p : Nat) (headerOk periodOk : Bool) (edges : Nat) :
    (d.checkMark p headerOk periodOk edges).roles = d.roles := by simp [Dev.checkMark]

@[simp] theorem execRowMarkReceived_keepsRoles (p : Port) (row flags : Nat) (headerOk periodOk : Bool) (timing : MarkTiming)
    (slots : List ServiceSlot) :
    KeepsRoles s (execRowMarkReceived p row flags headerOk periodOk timing slots s) := by
  simp [execRowMarkReceived, Dev.rowMark, Dev.markOnUp, Dev.returnOnDown]

@[simp] theorem execDeadEndMark_keepsRoles (p : Port) :
    KeepsRoles s (execDeadEndMark p s) := by simp [execDeadEndMark, Dev.deadEndMark]
@[simp] theorem Dev.refreshFloat_roles : d.refreshFloat.roles = d.roles := by simp [Dev.refreshFloat]

@[simp] theorem Dev.nextFloatBit_roles : d.nextFloatBit.2.roles = d.roles := by
  unfold Dev.nextFloatBit
  dsimp only
  split
  all_goals
    simp only [Dev.refreshFloat_roles, Dev.roles_mk, Dev.pwr_roles, Dev.roles_ite]
    cases d.link.upResponse <;> cases d.link.upReport <;> simp

@[simp] theorem Dev.releaseSet_roles (row : Nat) : (d.releaseSet row).roles = d.roles := by simp [Dev.releaseSet]
@[simp] theorem Dev.sendStitch_roles (second : Bool) : (d.sendStitch second).roles = d.roles := by simp [Dev.sendStitch]
@[simp] theorem Dev.countWindow_roles (p : Nat) (w : RxWindow) :
    (d.countWindow p w).roles = d.roles := by simp [Dev.countWindow]
@[simp] theorem Dev.stitchInsert_roles (w : RxWindow) : (d.stitchInsert w).roles = d.roles := by
  unfold Dev.stitchInsert
  split <;> simp
@[simp] theorem execWindowForward_keepsRoles (p : Port) (w : RxWindow) :
    KeepsRoles s (execWindowForward p w s) := by simp [execWindowForward, Dev.windowForward]
@[simp] theorem execDiagnosticReport_keepsRoles :
    KeepsRoles s (execDiagnosticReport s) := by simp [execDiagnosticReport, Dev.diagnosticReport]
@[simp] theorem execDelayProbe_keepsRoles : KeepsRoles s (execDelayProbe s) := by simp [execDelayProbe, Dev.delayProbe]
@[simp] theorem Dev.newDelay_roles (v : Nat) : (d.newDelay v).roles = d.roles := by
  unfold Dev.newDelay
  split <;> simp

@[simp] theorem Dev.probeAnswer_roles (roundTrip turnaround : Nat) :
    (d.probeAnswer roundTrip turnaround).roles = d.roles := by
  unfold Dev.probeAnswer
  dsimp only
  split
  · split <;> simp
  · rfl

@[simp] theorem execProbeAnswer_keepsRoles (roundTrip turnaround : Nat) :
    KeepsRoles s (execProbeAnswer roundTrip turnaround s) := by simp [execProbeAnswer]
@[simp] theorem execDelayReport_keepsRoles (ps : Nat) :
    KeepsRoles s (execDelayReport ps s) := by simp [execDelayReport, Dev.delayReport]
@[simp] theorem Dev.delayApply_roles : d.delayApply.roles = d.roles := by
  unfold Dev.delayApply
  split <;> simp
@[simp] theorem execDelayApply_keepsRoles : KeepsRoles s (execDelayApply s) := by simp [execDelayApply]

@[simp] theorem Dev.tickAlign_roles (row ps : Nat) (crcOk : Bool) : (d.tickAlign row ps crcOk).roles = d.roles := by
  unfold Dev.tickAlign
  split
  · split <;> simp
  · rfl

@[simp] theorem execTickAlignReceived_keepsRoles (row ps : Nat) (crcOk : Bool) :
    KeepsRoles s (execTickAlignReceived row ps crcOk s) := by simp [execTickAlignReceived]
@[simp] theorem execBeyondTickReach_keepsRoles : KeepsRoles s (execBeyondTickReach s) := by simp [execBeyondTickReach]
@[simp] theorem Dev.clearAddress_roles : d.clearAddress.roles = d.roles := by simp [Dev.clearAddress]
@[simp] theorem Dev.unbind_roles : d.unbind.roles = d.roles := by simp [Dev.unbind]

/-! ### Machine/Chain -/

@[simp] theorem Dev.refreshChain_roles : d.refreshChain.roles = d.roles := by simp [Dev.refreshChain]
@[simp] theorem Dev.topologyNow_roles : d.topologyNow.roles = d.roles := by simp [Dev.topologyNow]
@[simp] theorem Dev.refreshTopology_roles : d.refreshTopology.roles = d.roles := by simp [Dev.refreshTopology]
@[simp] theorem Dev.followPorts_roles : d.followPorts.roles = d.roles := by simp [Dev.followPorts, Dev.headForward]
@[simp] theorem execPortTrainingDone_keepsRoles (p : Port) (ok rate25 : Bool) (forwardPs : List Nat) :
    KeepsRoles s (execPortTrainingDone p ok rate25 forwardPs s) := by simp [execPortTrainingDone, Dev.trainingDone]
@[simp] theorem execPortSignalLoss_keepsRoles (p : Port) :
    KeepsRoles s (execPortSignalLoss p s) := by simp [execPortSignalLoss, Dev.signalLoss, Dev.walkPortLost]

@[simp] theorem Dev.refreshWalk_roles : d.refreshWalk.roles = d.roles := by
  unfold Dev.refreshWalk
  dsimp only
  rw [Dev.fst_foldl_roles]
  simp

@[simp] theorem Dev.refreshHops_roles : d.refreshHops.roles = d.roles := by simp [Dev.refreshHops]
@[simp] theorem Dev.followTree_roles : d.followTree.roles = d.roles := by simp [Dev.followTree]
@[simp] theorem Dev.joinAt_roles (a : Nat) (w : WalkSlot) : (d.joinAt a w).roles = d.roles := by simp [Dev.joinAt]

@[simp] theorem Dev.joinTree_roles (a : Nat) (c : Claim) : (d.joinTree a c).roles = d.roles := by
  unfold Dev.joinTree
  dsimp only
  split
  · rfl
  · split <;> simp

@[simp] theorem Dev.keepTrunk_roles : d.keepTrunk.roles = d.roles := by simp [Dev.keepTrunk]

@[simp] theorem Dev.sideOf_roles (leg : Nat) (side : List (Nat × List (Nat × Nat))) :
    (d.sideOf leg side).roles = d.roles := by
  unfold Dev.sideOf
  rw [Dev.foldl_roles]
  intro d e
  dsimp only
  rw [Dev.roles_mk, Dev.pwr_roles]
  split <;> simp

@[simp] theorem Dev.splitRing_roles : d.splitRing.roles = d.roles := by simp [Dev.splitRing]
@[simp] theorem Dev.refreshWaiting_roles : d.refreshWaiting.roles = d.roles := by simp [Dev.refreshWaiting]
@[simp] theorem Dev.queueOwn_roles (member : Nat) (message : List Nat) (more : List (List Nat)) :
    (d.queueOwn member message more).roles = d.roles := by simp [Dev.queueOwn]
@[simp] theorem Dev.admitMember_roles (a : Nat) : (d.admitMember a).roles = d.roles := by simp [Dev.admitMember]
@[simp] theorem Dev.announceBindOff_roles (row : Nat) : (d.announceBindOff row).roles = d.roles := by
  unfold Dev.announceBindOff
  split <;> simp
@[simp] theorem Dev.windowChange_roles (row : Nat) : (d.windowChange row).roles = d.roles := by simp [Dev.windowChange]
@[simp] theorem Dev.loseCall_roles : d.loseCall.roles = d.roles := by simp [Dev.loseCall]
@[simp] theorem Dev.upBit_roles (a : Nat) (b : Option Bool) : (d.upBit a b).roles = d.roles := by simp [Dev.upBit]
@[simp] theorem Dev.missRow_roles (a row w : Nat) : (d.missRow a row w).roles = d.roles := by simp [Dev.missRow]
@[simp] theorem Dev.receiveWindow_roles (p row : Nat) (w : RxWindow) : (d.receiveWindow p row w).roles = d.roles := by
  simp [Dev.receiveWindow, Dev.takeStitch, Dev.gatherSet, Dev.countUnreached]
@[simp] theorem Dev.missLeg_roles (p row : Nat) : (d.missLeg p row).roles = d.roles := by simp [Dev.missLeg]
@[simp] theorem Dev.missUnreached_roles (row : Nat) : (d.missUnreached row).roles = d.roles := by simp [Dev.missUnreached]
@[simp] theorem Dev.announceAlign_roles (row : Nat) : (d.announceAlign row).roles = d.roles := by simp [Dev.announceAlign]
@[simp] theorem Dev.endCalls_roles (row : Nat) : (d.endCalls row).roles = d.roles := by simp [Dev.endCalls]
@[simp] theorem Dev.headSlots_roles (q sincePs : Nat) : (d.headSlots q sincePs).roles = d.roles := by simp [Dev.headSlots]
@[simp] theorem Dev.departRow_roles (row : Nat) (s0 : Nat × Nat × Nat) :
    (d.departRow row s0).roles = d.roles := by simp [Dev.departRow]
@[simp] theorem Dev.wrapPubStart_roles : d.wrapPubStart.roles = d.roles := by simp [Dev.wrapPubStart]
@[simp] theorem Dev.takeWalkTime_roles (ps : Nat) : (d.takeWalkTime ps).roles = d.roles := by simp [Dev.takeWalkTime]
@[simp] theorem Dev.foreignRow_roles (p : Port) : (d.foreignRow p).roles = d.roles := by simp [Dev.foreignRow]
@[simp] theorem State.closeRing_roles (row : Nat) : (s.closeRing row).dev.roles = s.dev.roles := by
  unfold State.closeRing
  split <;> simp

@[simp] theorem Dev.nextOut_roles (p sincePs : Nat) (slots : List ServiceSlot) :
    (d.nextOut p sincePs slots).roles = d.roles := by
  unfold Dev.nextOut
  dsimp only
  split <;> simp

@[simp] theorem Dev.acceptReturn_roles (p : Port) (row : Nat) (timing : MarkTiming) (windows : List RxWindow)
    (slots : List ServiceSlot) :
    (d.acceptReturn p row timing windows slots).roles = d.roles := by
  simp [Dev.acceptReturn, Dev.takeSlot0, Dev.addRingWindows]

@[simp] theorem Dev.returnLimit_roles (p : Port) : (d.returnLimit p).roles = d.roles := by simp [Dev.returnLimit]
@[simp] theorem Dev.discardReturn_roles (p : Port) (sincePs : Nat) :
    (d.discardReturn p sincePs).roles = d.roles := by simp [Dev.discardReturn]
@[simp] theorem Dev.ringDetected_roles : d.ringDetected.roles = d.roles := by simp [Dev.ringDetected]
@[simp] theorem Dev.countWindows_roles (p : Nat) (windows : List RxWindow) :
    (d.countWindows p windows).roles = d.roles := by simp [Dev.countWindows]

@[simp] theorem State.rowReturn_roles (p : Port) (row : Nat) (headerOk periodOk : Bool) (timing : MarkTiming)
    (windows : List RxWindow) (slots : List ServiceSlot) :
    (s.rowReturn p row headerOk periodOk timing windows slots).dev.roles = s.dev.roles := by
  simp [State.rowReturn]

@[simp] theorem Dev.portsLost_roles : d.portsLost.roles = d.roles := by simp [Dev.portsLost]
@[simp] theorem Dev.beginFullCastOn_roles : d.beginFullCastOn.roles = d.roles := by simp [Dev.beginFullCastOn, Dev.ownMirror]
@[simp] theorem execFullCastOn_keepsRoles : KeepsRoles s (execFullCastOn s) := by simp [execFullCastOn, Dev.fullCastOn]
@[simp] theorem Dev.beginIncremental_roles : d.beginIncremental.roles = d.roles := by simp [Dev.beginIncremental]
@[simp] theorem Dev.incrementalPass_roles : d.incrementalPass.roles = d.roles := by
  unfold Dev.incrementalPass
  split <;> simp
@[simp] theorem execIncrementalPass_keepsRoles : KeepsRoles s (execIncrementalPass s) := by simp [execIncrementalPass]
@[simp] theorem Dev.clearMirrors_roles : d.clearMirrors.roles = d.roles := by simp [Dev.clearMirrors]
@[simp] theorem execPassOpen_keepsRoles (pass : Nat) (full : Bool) :
    KeepsRoles s (execPassOpen pass full s) := by simp [execPassOpen, Dev.passOpen, Dev.openPass, Dev.acceptOpen]
@[simp] theorem execCall_keepsRoles (nonce : Nat) : KeepsRoles s (execCall nonce s) := by simp [execCall, Dev.call]
@[simp] theorem execClaim_keepsRoles (pass nonce : Nat) :
    KeepsRoles s (execClaim pass nonce s) := by simp [execClaim, Dev.claim]
@[simp] theorem Dev.exhausted_roles (bit : Nat) : (d.exhausted bit).roles = d.roles := by simp [Dev.exhausted]

@[simp] theorem Dev.assignNext_roles : d.assignNext.roles = d.roles := by
  unfold Dev.assignNext
  split
  · split <;> simp
  · rfl

@[simp] theorem execAssign_keepsRoles (address windows nonce : Nat) :
    KeepsRoles s (execAssign address windows nonce s) := by simp [execAssign, Dev.assign, Dev.takeAssign]
@[simp] theorem Dev.recordClaim_roles (a wa : Nat) (c : Claim) (state : Nat) :
    (d.recordClaim a wa c state).roles = d.roles := by simp [Dev.recordClaim]
@[simp] theorem Dev.recordMember_roles (a wa : Nat) (c : Claim) :
    (d.recordMember a wa c).roles = d.roles := by simp [Dev.recordMember]
@[simp] theorem Dev.recordHole_roles (a : Nat) : (d.recordHole a).roles = d.roles := by simp [Dev.recordHole]
@[simp] theorem Dev.assignAccepted_roles (ok : Bool) : (d.assignAccepted ok).roles = d.roles := by
  unfold Dev.assignAccepted
  split <;> simp
@[simp] theorem execAssignAccepted_keepsRoles (ok : Bool) :
    KeepsRoles s (execAssignAccepted ok s) := by simp [execAssignAccepted]
@[simp] theorem execPresenceCode_keepsRoles (fragment : Nat) :
    KeepsRoles s (execPresenceCode fragment s) := by simp [execPresenceCode, Dev.presence]
@[simp] theorem execMemberReturned_keepsRoles (a : Nat) :
    KeepsRoles s (execMemberReturned a s) := by simp [execMemberReturned, Dev.memberReturned]
@[simp] theorem Dev.startBindOff_roles (action : Nat) : (d.startBindOff action).roles = d.roles := by simp [Dev.startBindOff]
@[simp] theorem execBindOff_keepsRoles (sleep : Bool) : KeepsRoles s (execBindOff sleep s) := by simp [execBindOff]
@[simp] theorem execRateFallback_keepsRoles :
    KeepsRoles s (execRateFallback s) := by simp [execRateFallback, Dev.rateFallback]
@[simp] theorem Dev.retrain_roles : d.retrain.roles = d.roles := by simp [Dev.retrain]
@[simp] theorem Dev.writeLinkRate_roles (v : Nat) :
    (Written.dev d (d.writeLinkRate v)).roles = d.roles := by simp [Dev.writeLinkRate]
@[simp] theorem execRingBreak_keepsRoles : KeepsRoles s (execRingBreak s) := by simp [execRingBreak, Dev.ringBreak]
@[simp] theorem Dev.headUnbound_roles (action : Nat) : (d.headUnbound action).roles = d.roles := by simp [Dev.headUnbound]
@[simp] theorem Dev.writeSet_roles (a row : Nat) (values : List Nat) :
    (d.writeSet a row values).roles = d.roles := by simp [Dev.writeSet]

@[simp] theorem Dev.mirrorSet_roles (a : Nat) : (d.mirrorSet a).roles = d.roles := by
  unfold Dev.mirrorSet
  split
  · rfl
  split
  · simp
  · split <;> simp

@[simp] theorem execMirrorSetWrite_keepsRoles (a : Nat) :
    KeepsRoles s (execMirrorSetWrite a s) := by simp [execMirrorSetWrite]
@[simp] theorem Dev.tickAlignUpdate_roles (a delay : Nat) : (d.tickAlignUpdate a delay).roles = d.roles := by
  unfold Dev.tickAlignUpdate
  split <;> simp
@[simp] theorem execTickAlignUpdate_keepsRoles (a delay : Nat) :
    KeepsRoles s (execTickAlignUpdate a delay s) := by simp [execTickAlignUpdate]

/-! ### Machine/Storage -/

@[simp] theorem Dev.takeImage_roles (p : Nat → Bool) (m : Image) :
    (d.takeImage p m).roles = d.roles := by simp [Dev.takeImage]
@[simp] theorem Dev.refuseCommit_roles (cause : Nat) : (d.refuseCommit cause).roles = d.roles := by simp [Dev.refuseCommit]

@[simp] theorem Dev.commit_roles (run : CommitRun) (pages : List Nat) (first count : Nat) (write : Nat → Dev → Dev)
    (hw : ∀ k d, (write k d).roles = d.roles) :
    (d.commit run pages first count write).1.roles = d.roles := by
  unfold Dev.commit
  dsimp only
  split
  · simp
  · split <;> simp [hw]

@[simp] theorem Dev.runAtHand_roles : d.runAtHand.2.roles = d.roles := by
  unfold Dev.runAtHand
  split <;> simp
@[simp] theorem Dev.writeJob_roles (j : Job) (k : Nat) : (d.writeJob j k).roles = d.roles := by
  unfold Dev.writeJob
  split <;> simp
@[simp] theorem Dev.askCommits_roles (js : List Job) : (d.askCommits js).roles = d.roles := by simp [Dev.askCommits]
@[simp] theorem Dev.dropStore_roles : d.dropStore.roles = d.roles := by simp [Dev.dropStore]
@[simp] theorem Dev.startStore_roles : d.startStore.roles = d.roles := by simp [Dev.startStore]
@[simp] theorem Dev.notePending_roles : d.notePending.roles = d.roles := by simp [Dev.notePending]
@[simp] theorem Dev.storeEnds_roles : d.storeEnds.roles = d.roles := by simp [Dev.storeEnds]
@[simp] theorem Dev.afterJob_roles (j : Job) (rest : List Job) (e : CommitEnd) : (d.afterJob j rest e).roles = d.roles := by
  unfold Dev.afterJob
  split <;> simp
@[simp] theorem Dev.framCommit_roles (run : CommitRun) : (d.framCommit run).roles = d.roles := by
  unfold Dev.framCommit
  split <;> simp
@[simp] theorem Dev.runJobs_roles (cresMv : Nat) :
    (d.runJobs cresMv).roles = d.roles := by simp [Dev.runJobs, Dev.framCommitBefore]
@[simp] theorem Dev.commitPage55_roles (run : CommitRun) (m : Dev → Image) :
    (d.commitPage55 run m).1.roles = d.roles := by simp [Dev.commitPage55]
@[simp] theorem execCresMeasure_keepsRoles (voltageMv dropUv : Nat) :
    KeepsRoles s (execCresMeasure voltageMv dropUv s) := by simp [execCresMeasure, Dev.cresMeasure]
@[simp] theorem Dev.readMemberCounters_roles : d.readMemberCounters.roles = d.roles := by simp [Dev.readMemberCounters]
@[simp] theorem execCounterSave_keepsRoles : KeepsRoles s (execCounterSave s) := by simp [execCounterSave, Dev.counterSave]
@[simp] theorem Dev.nandDo_roles (ops : List NandOp) : (d.nandDo ops).roles = d.roles := by simp [Dev.nandDo]
@[simp] theorem Dev.refreshLog_roles : d.refreshLog.roles = d.roles := by simp [Dev.refreshLog]
@[simp] theorem Dev.refreshLogObjects_roles : d.refreshLogObjects.roles = d.roles := by simp [Dev.refreshLogObjects]
@[simp] theorem Dev.enterBlock_roles (b : Nat) : (d.enterBlock b).roles = d.roles := by simp [Dev.enterBlock]
@[simp] theorem Dev.advancePage_roles : d.advancePage.roles = d.roles := by simp [Dev.advancePage]

@[simp] theorem Dev.retireBlock_roles (b : Nat) : (d.retireBlock b).roles = d.roles := by
  unfold Dev.retireBlock
  split
  · dsimp only
    rw [Dev.roles_ite, Dev.enterBlock_roles, ite_self, Dev.refreshLog_roles]
    split <;> simp
  · rfl

@[simp] theorem execBlockRetire_keepsRoles (b : Nat) : KeepsRoles s (execBlockRetire b s) := by simp [execBlockRetire]
@[simp] theorem Dev.voidPage_roles (block page : Nat) (clears : Bool) :
    (d.voidPage block page clears).roles = d.roles := by simp [Dev.voidPage]
@[simp] theorem Dev.putEntry_roles (e : List Nat) (k : Nat) : (d.putEntry e k).roles = d.roles := by simp [Dev.putEntry]

@[simp] theorem Dev.logEntry_roles (ecc : Bool) (run : CommitRun) : (d.logEntry ecc run).roles = d.roles := by
  unfold Dev.logEntry
  dsimp only
  split
  · rfl
  next e rest =>
    split
    · rfl
    split
    · simp
    split
    · rfl
    split
    all_goals
      next h =>
        have hc := Dev.fst_roles_of_eq h
        simp [hc]

@[simp] theorem Dev.closeIntent_roles (b p : Nat) (r : ProgramResult) :
    (d.closeIntent b p r).roles = d.roles := by simp [Dev.closeIntent]

@[simp] theorem Dev.programEnds_roles (r : ProgramResult) (run : CommitRun) : (d.programEnds r run).roles = d.roles := by
  unfold Dev.programEnds
  dsimp only
  split
  · rfl
  · split
    all_goals
      next h =>
        have hc := Dev.fst_roles_of_eq h
        simp [hc]

@[simp] theorem Dev.programPage_roles (r : ProgramResult) (first second : CommitRun) :
    (d.programPage r first second).roles = d.roles := by
  unfold Dev.programPage
  dsimp only
  split
  · simp
  split
  · rfl
  split
  · simp
  split
  all_goals
    next h =>
      have hc := Dev.fst_roles_of_eq h
      simp [hc]

@[simp] theorem execSkeinErase_keepsRoles (failed : List Nat) :
    KeepsRoles s (execSkeinErase failed s) := by simp [execSkeinErase, Dev.eraseSkein]
@[simp] theorem Dev.writeReadSequence_roles (v : Nat) :
    (Written.dev d (d.writeReadSequence v)).roles = d.roles := by simp [Dev.writeReadSequence]
@[simp] theorem Dev.readLogPage_roles : d.readLogPage.2.roles = d.roles := by
  unfold Dev.readLogPage
  split <;> simp
@[simp] theorem Dev.writeLog_roles (b : List Nat) : (d.writeLog b).roles = d.roles := by simp [Dev.writeLog]
@[simp] theorem Dev.writeLogCommand_roles (commissioned : Bool) (v : Nat) :
    (Written.dev d (d.writeLogCommand commissioned v)).roles = d.roles := by simp [Dev.writeLogCommand, Dev.formatLog]

@[simp] theorem Dev.scanFram_roles (logDevice : Option NandDevice) : (d.scanFram logDevice).roles = d.roles := by
  unfold Dev.scanFram
  dsimp only
  rw [Dev.raiseIf_roles, Dev.roles_ite, Dev.nandDo_roles, ite_self, Dev.refreshLogObjects_roles, Dev.refreshLog_roles,
    Dev.setNat_roles]
  split <;> simp

@[simp] theorem Dev.raiseWaiting_roles : d.raiseWaiting.roles = d.roles := by simp [Dev.raiseWaiting]
@[simp] theorem Dev.noteWake_roles (bit : Nat) : (d.noteWake bit).roles = d.roles := by simp [Dev.noteWake]
@[simp] theorem Dev.calendarReached_roles (t : Nat) :
    (d.calendarReached t).roles = d.roles := by simp [Dev.calendarReached, Dev.raiseCalendar]

@[simp] theorem Dev.calendarTick_roles : d.calendarTick.roles = d.roles := by
  unfold Dev.calendarTick
  dsimp only
  split
  · rfl
  · split <;> simp

@[simp] theorem execCalendarTick_keepsRoles : KeepsRoles s (execCalendarTick s) := by simp [execCalendarTick]
@[simp] theorem Dev.writeCalendarTime_roles (v : Nat) :
    (Written.dev d (d.writeCalendarTime v)).roles = d.roles := by simp [Dev.writeCalendarTime]
@[simp] theorem execCompensationStep_keepsRoles :
    KeepsRoles s (execCompensationStep s) := by simp [execCompensationStep, Dev.compensationStep]
@[simp] theorem Dev.requestTemp_roles (controller : Bool) :
    (d.requestTemp controller).roles = d.roles := by simp [Dev.requestTemp]
@[simp] theorem Dev.dieTempDone_roles (controller : Bool) (t : Int) : (d.dieTempDone controller t).roles = d.roles := by
  simp [Dev.dieTempDone, Dev.gaugeTempTaken, Dev.compensate, Dev.brokenReading, Dev.goodReading]
@[simp] theorem Dev.controllerSwatch_roles (failed fails : Bool) :
    (d.controllerSwatch failed fails).roles = d.roles := by simp [Dev.controllerSwatch, Dev.swatchFailed]
@[simp] theorem execSwatch_keepsRoles (monitor failed : Bool) :
    KeepsRoles s (execSwatch monitor failed s) := by simp [execSwatch, Dev.monitorSwatch, Dev.monSwatchFailed]
@[simp] theorem Dev.writeSwatchControl_roles (monitor : Bool) (v : Nat) :
    (d.writeSwatchControl monitor v).roles = d.roles := by simp [Dev.writeSwatchControl]

/-! ### Machine/Converter -/

@[simp] theorem Dev.setPhase_roles (p : Nat) (v : Phase) : (d.setPhase p v).roles = d.roles := by simp [Dev.setPhase]
@[simp] theorem Dev.refreshPhases_roles : d.refreshPhases.roles = d.roles := by simp [Dev.refreshPhases]
@[simp] theorem Dev.refreshLimits_roles : d.refreshLimits.roles = d.roles := by simp [Dev.refreshLimits]
@[simp] theorem Dev.limitsWritten_roles : d.limitsWritten.roles = d.roles := by simp [Dev.limitsWritten]
@[simp] theorem Dev.gatesOff_roles : d.gatesOff.roles = d.roles := by simp [Dev.gatesOff]
@[simp] theorem Dev.convOff_roles : d.convOff.roles = d.roles := by simp [Dev.convOff]
@[simp] theorem Dev.convSafetyStop_roles : d.convSafetyStop.roles = d.roles := by simp [Dev.convSafetyStop]
@[simp] theorem Dev.convFault_roles (cause : Nat) : (d.convFault cause).roles = d.roles := by simp [Dev.convFault]
@[simp] theorem Dev.requestTurnOn_roles (p : Nat) : (d.requestTurnOn p).roles = d.roles := by simp [Dev.requestTurnOn]
@[simp] theorem execTurnOnGrant_keepsRoles (p sinceNs : Nat) :
    KeepsRoles s (execTurnOnGrant p sinceNs s) := by simp [execTurnOnGrant, Dev.turnOnGrant, Dev.newRound]
@[simp] theorem Dev.endIfShed_roles (p : Nat) : (d.endIfShed p).roles = d.roles := by simp [Dev.endIfShed]
@[simp] theorem execRisingPortionEnd_keepsRoles (p length : Nat) (ma : Int) :
    KeepsRoles s (execRisingPortionEnd p length ma s) := by simp [execRisingPortionEnd, Dev.risingEnd]
@[simp] theorem Dev.closeCycle_roles (p length : Nat) (fixed : Option Nat) :
    (d.closeCycle p length fixed).roles = d.roles := by simp [Dev.closeCycle, Dev.afterCycle]
@[simp] theorem execFallingPortionEnd_keepsRoles (p length : Nat) (ma : Int) :
    KeepsRoles s (execFallingPortionEnd p length ma s) := by simp [execFallingPortionEnd, Dev.fallingEnd]
@[simp] theorem execPortionForced_keepsRoles (p : Nat) (rising : Bool) :
    KeepsRoles s (execPortionForced p rising s) := by simp [execPortionForced, Dev.portionForced]
@[simp] theorem execBootstrapRefresh_keepsRoles (p since : Nat) :
    KeepsRoles s (execBootstrapRefresh p since s) := by simp [execBootstrapRefresh, Dev.bootstrap]
@[simp] theorem Dev.adaptWindow_roles (p cycle : Nat) : (d.adaptWindow p cycle).roles = d.roles := by simp [Dev.adaptWindow]
@[simp] theorem Dev.excludePhase_roles (p : Nat) : (d.excludePhase p).roles = d.roles := by simp [Dev.excludePhase]
@[simp] theorem Dev.showDeviation_roles (p : Nat) (mean : Int) :
    (d.showDeviation p mean).roles = d.roles := by simp [Dev.showDeviation]
@[simp] theorem Dev.testDeviation_roles (p : Nat) (mean : Int) :
    (d.testDeviation p mean).roles = d.roles := by simp [Dev.testDeviation]
@[simp] theorem Dev.addPhase_roles (p : Nat) : (d.addPhase p).roles = d.roles := by simp [Dev.addPhase]
@[simp] theorem Dev.cancelShed_roles : d.cancelShed.roles = d.roles := by
  unfold Dev.cancelShed
  split <;> simp

@[simp] theorem Dev.addTo_roles (fuel need : Nat) : (d.addTo fuel need).roles = d.roles := by
  induction fuel generalizing d with
  | zero => rfl
  | succ fuel ih =>
    unfold Dev.addTo
    split
    · rfl
    · split
      · simp [ih]
      · split <;> simp [ih]

@[simp] theorem Dev.judgeShed_roles (dem : Int) : (d.judgeShed dem).roles = d.roles := by
  cases h : d.priorityList.getLast? <;> simp [Dev.judgeShed, h]
@[simp] theorem Dev.limitFlag_roles (on : Bool) : (d.limitFlag on).roles = d.roles := by simp [Dev.limitFlag]
@[simp] theorem Dev.shareDemand_roles (dem : Int) : (d.shareDemand dem).roles = d.roles := by simp [Dev.shareDemand]
@[simp] theorem Dev.startProgress_roles (node : Int) (limited : Bool) :
    (d.startProgress node limited).roles = d.roles := by simp [Dev.startProgress]
@[simp] theorem Dev.resumePhases_roles : d.resumePhases.roles = d.roles := by simp [Dev.resumePhases]
@[simp] theorem Dev.outerUpdate_roles (vs vr : Nat) (demands : List Int) :
    (d.outerUpdate vs vr demands).roles = d.roles := by simp [Dev.outerUpdate]
@[simp] theorem execOuterLoopUpdate_keepsRoles (vs vr : Nat) (demands : List Int) :
    KeepsRoles s (execOuterLoopUpdate vs vr demands s) := by simp [execOuterLoopUpdate]
@[simp] theorem Dev.shedDone_roles : d.shedDone.roles = d.roles := by
  unfold Dev.shedDone
  split <;> simp
@[simp] theorem execShedComplete_keepsRoles : KeepsRoles s (execShedComplete s) := by simp [execShedComplete]
@[simp] theorem Dev.commandRun_roles (target : Nat) (reverse : Bool) :
    (d.commandRun target reverse).roles = d.roles := by simp [Dev.commandRun]
@[simp] theorem Dev.commandStop_roles : d.commandStop.roles = d.roles := by simp [Dev.commandStop]
@[simp] theorem execConverterRun_keepsRoles (vdrv node : Nat) :
    KeepsRoles s (execConverterRun vdrv node s) := by simp [execConverterRun, Dev.convRun]
@[simp] theorem execConverterStartDone_keepsRoles :
    KeepsRoles s (execConverterStartDone s) := by simp [execConverterStartDone, Dev.convStartDone]
@[simp] theorem execConverterStop_keepsRoles : KeepsRoles s (execConverterStop s) := by simp [execConverterStop, Dev.convStop]
@[simp] theorem execConverterStopped_keepsRoles : KeepsRoles s (execConverterStopped s) := by simp [execConverterStopped]
@[simp] theorem execThrottleInterval_keepsRoles :
    KeepsRoles s (execThrottleInterval s) := by simp [execThrottleInterval, Dev.throttleInterval]
@[simp] theorem execThrottleCompute_keepsRoles :
    KeepsRoles s (execThrottleCompute s) := by simp [execThrottleCompute, Dev.throttleCompute]
@[simp] theorem execConverterTelemetry_keepsRoles (vdrv vs : Nat) (node : Int) (sensed : List (List PhaseSense)) :
    KeepsRoles s (execConverterTelemetry vdrv vs node sensed s) := by
  simp [execConverterTelemetry, Dev.telemetry, Dev.checkBootstrap]
@[simp] theorem execSyncAcquired_keepsRoles (periods : List Nat) (us : Nat) :
    KeepsRoles s (execSyncAcquired periods us s) := by simp [execSyncAcquired, Dev.syncAcquired]
@[simp] theorem Dev.syncLeave_roles (hz : Nat) : (d.syncLeave hz).roles = d.roles := by simp [Dev.syncLeave]
@[simp] theorem execSyncLost_keepsRoles (period : Option Nat) (us : Nat) :
    KeepsRoles s (execSyncLost period us s) := by simp [execSyncLost, Dev.syncLost]
@[simp] theorem execHbSyncSlewEnd_keepsRoles : KeepsRoles s (execHbSyncSlewEnd s) := by simp [execHbSyncSlewEnd, Dev.slewEnd]
@[simp] theorem Dev.writeSyncEnable_roles (v : Nat) : (d.writeSyncEnable v).roles = d.roles := by simp [Dev.writeSyncEnable]

/-! ### Machine/PowerPath -/

@[simp] theorem Dev.refreshFrs_roles : d.refreshFrs.roles = d.roles := by simp [Dev.refreshFrs]
@[simp] theorem Dev.endSearch_roles (sagged : Bool) (result : Nat) :
    (d.endSearch sagged result).roles = d.roles := by simp [Dev.endSearch]
@[simp] theorem Dev.startLimit_roles (s : Nat) : (d.startLimit s).roles = d.roles := by simp [Dev.startLimit, Dev.plainLimit]

@[simp] theorem Dev.sourceSelect_roles (noLoadMv : Nat) : (d.sourceSelect noLoadMv).roles = d.roles := by
  unfold Dev.sourceSelect
  split
  · split <;> simp
  · rfl

@[simp] theorem execSourceSelect_keepsRoles (noLoadMv : Nat) :
    KeepsRoles s (execSourceSelect noLoadMv s) := by simp [execSourceSelect]
@[simp] theorem Dev.qualify_roles (s : Nat) : (d.qualify s).roles = d.roles := by simp [Dev.qualify]
@[simp] theorem execDockQualified_keepsRoles (mv : Nat) :
    KeepsRoles s (execDockQualified mv s) := by simp [execDockQualified, Dev.dockQualified]
@[simp] theorem execDockPresent_keepsRoles (mv : Nat) :
    KeepsRoles s (execDockPresent mv s) := by simp [execDockPresent, Dev.dockPresent]
@[simp] theorem Dev.handOver_roles : d.handOver.roles = d.roles := by simp [Dev.handOver]
@[simp] theorem Dev.loseSource_roles (s : Nat) : (d.loseSource s).roles = d.roles := by simp [Dev.loseSource]
@[simp] theorem execSourceLost_keepsRoles (vbus : Bool) (mv : Nat) (ma : Int) :
    KeepsRoles s (execSourceLost vbus mv ma s) := by simp [execSourceLost]
@[simp] theorem Dev.restPath_roles : d.restPath.roles = d.roles := by simp [Dev.restPath]
@[simp] theorem execHandOverComplete_keepsRoles (us : Nat) :
    KeepsRoles s (execHandOverComplete us s) := by simp [execHandOverComplete, Dev.handOverDone]
@[simp] theorem Dev.leaveReverse_roles : d.leaveReverse.roles = d.roles := by simp [Dev.leaveReverse]
@[simp] theorem Dev.pathAfterFault_roles : d.pathAfterFault.roles = d.roles := by simp [Dev.pathAfterFault]
@[simp] theorem execConverterFault_keepsRoles (cause : Nat) :
    KeepsRoles s (execConverterFault cause s) := by simp [execConverterFault]
@[simp] theorem execPhaseCycleEnd_keepsRoles (p : Nat) (mean : Int) :
    KeepsRoles s (execPhaseCycleEnd p mean s) := by simp [execPhaseCycleEnd, Dev.cycleEnd]
@[simp] theorem Dev.pathOpened_roles : d.pathOpened.roles = d.roles := by simp [Dev.pathOpened]
@[simp] theorem Dev.pathOff_roles : d.pathOff.roles = d.roles := by simp [Dev.pathOff, Dev.stopSourcing]
@[simp] theorem execSearchStep_keepsRoles (held : Bool) :
    KeepsRoles s (execSearchStep held s) := by simp [execSearchStep, Dev.searchStep]
@[simp] theorem execSearchEnd_keepsRoles (sag : Bool) :
    KeepsRoles s (execSearchEnd sag s) := by simp [execSearchEnd, Dev.searchEnd]
@[simp] theorem execBatfetDiodeOn_keepsRoles : KeepsRoles s (execBatfetDiodeOn s) := by simp [execBatfetDiodeOn]
@[simp] theorem execBatfetDiodeOff_keepsRoles : KeepsRoles s (execBatfetDiodeOff s) := by simp [execBatfetDiodeOff]
@[simp] theorem Dev.chargeFault_roles (bit : Nat) : (d.chargeFault bit).roles = d.roles := by simp [Dev.chargeFault]
@[simp] theorem execBatfetFault_keepsRoles : KeepsRoles s (execBatfetFault s) := by simp [execBatfetFault, Dev.batfetFault]
@[simp] theorem Dev.suspendCauses_roles : d.suspendCauses.roles = d.roles := by simp [Dev.suspendCauses]
@[simp] theorem Dev.enterCharge_roles (n : Nat) : (d.enterCharge n).roles = d.roles := by simp [Dev.enterCharge]
@[simp] theorem execChargeFault_keepsRoles (bit : Nat) : KeepsRoles s (execChargeFault bit s) := by simp [execChargeFault]
@[simp] theorem Dev.chargeOutputs_roles : d.chargeOutputs.roles = d.roles := by simp [Dev.chargeOutputs]
@[simp] theorem Dev.chargeEvaluate_roles (packMv sysMv ms : Nat) : (d.chargeEvaluate packMv sysMv ms).roles = d.roles := by
  simp [Dev.chargeEvaluate, Dev.chargeTimers, Dev.judgeChargeFaults, Dev.judgeSupplement]
@[simp] theorem execChargeEvaluation_keepsRoles (packMv sysMv ms : Nat) :
    KeepsRoles s (execChargeEvaluation packMv sysMv ms s) := by simp [execChargeEvaluation]
@[simp] theorem execChargeDone_keepsRoles (byTimer : Bool) :
    KeepsRoles s (execChargeDone byTimer s) := by simp [execChargeDone, Dev.chargeDone]
@[simp] theorem execDisconnectOpenInSource_keepsRoles :
    KeepsRoles s (execDisconnectOpenInSource s) := by simp [execDisconnectOpenInSource, Dev.openInSource]
@[simp] theorem Dev.enterNimh_roles (st : Nat) : (d.enterNimh st).roles = d.roles := by simp [Dev.enterNimh]
@[simp] theorem Dev.nimhStop_roles : d.nimhStop.roles = d.roles := by simp [Dev.nimhStop]
@[simp] theorem Dev.nimhSample_roles (mv : Nat) : (d.nimhSample mv).roles = d.roles := by simp [Dev.nimhSample]
@[simp] theorem Dev.nimhTempSample_roles : d.nimhTempSample.roles = d.roles := by simp [Dev.nimhTempSample]
@[simp] theorem Dev.takeKaTemp_roles (code : Nat) : (d.takeKaTemp code).roles = d.roles := by
  unfold Dev.takeKaTemp
  split <;> simp
@[simp] theorem Dev.leaveNimhFault_roles : d.leaveNimhFault.roles = d.roles := by simp [Dev.leaveNimhFault]

@[simp] theorem Dev.nimhDrive_roles (mv : Nat) : (d.nimhDrive mv).roles = d.roles := by
  unfold Dev.nimhDrive
  dsimp only
  split <;> simp

@[simp] theorem Dev.nimhSeconds_roles (mv n : Nat) : (Dev.nimhSeconds mv n d).roles = d.roles := by
  induction n generalizing d with
  | zero => rfl
  | succ n ih => simp [Dev.nimhSeconds, ih]

@[simp] theorem execKaChargerTransition_keepsRoles (mv code secs : Nat) :
    KeepsRoles s (execKaChargerTransition mv code secs s) := by
  simp [execKaChargerTransition, Dev.nimhStep, Dev.waitNimh, Dev.resumeNimh]
@[simp] theorem execKaTermination_keepsRoles (cause : Nat) :
    KeepsRoles s (execKaTermination cause s) := by simp [execKaTermination, Dev.nimhTerminate]
@[simp] theorem execKaFault_keepsRoles (bit : Nat) : KeepsRoles s (execKaFault bit s) := by simp [execKaFault, Dev.nimhFault]
@[simp] theorem Dev.refreshKaOut_roles : d.refreshKaOut.roles = d.roles := by simp [Dev.refreshKaOut]
@[simp] theorem Dev.refreshKa_roles : d.refreshKa.roles = d.roles := by simp [Dev.refreshKa, Dev.followCapacity]
@[simp] theorem execKaOutFault_keepsRoles (ms : Nat) :
    KeepsRoles s (execKaOutFault ms s) := by simp [execKaOutFault, Dev.kaOutFault]
@[simp] theorem execKaOutRestart_keepsRoles :
    KeepsRoles s (execKaOutRestart s) := by simp [execKaOutRestart, Dev.kaOutRestart]
@[simp] theorem Dev.kaBatLevel_roles (mv : Nat) : (d.kaBatLevel mv).roles = d.roles := by simp [Dev.kaBatLevel]
@[simp] theorem execKaBatThreshold_keepsRoles (mv : Nat) :
    KeepsRoles s (execKaBatThreshold mv s) := by simp [execKaBatThreshold]

/-! ### Machine/UsbPd -/

@[simp] theorem Dev.setPd_roles (f : Pd → Pd) : (d.setPd f).roles = d.roles := by simp [Dev.setPd]
@[simp] theorem Dev.send_roles (m : PdMessage) : (d.send m).roles = d.roles := by simp [Dev.send]
@[simp] theorem Dev.implicitContract_roles : d.implicitContract.roles = d.roles := by simp [Dev.implicitContract]
@[simp] theorem Dev.setAllowance_roles (ma : Nat) : (d.setAllowance ma).roles = d.roles := by simp [Dev.setAllowance]
@[simp] theorem Dev.reportLost_roles : d.reportLost.roles = d.roles := by simp [Dev.reportLost]
@[simp] theorem Dev.unattach_roles (st : Nat) : (d.unattach st).roles = d.roles := by simp [Dev.unattach]
@[simp] theorem Dev.portDisable_roles : d.portDisable.roles = d.roles := by simp [Dev.portDisable]
@[simp] theorem Dev.attach_roles (st role line current : Nat) :
    (d.attach st role line current).roles = d.roles := by simp [Dev.attach, Dev.takeCfg]
@[simp] theorem Dev.typecStep_roles (cc1 cc2 vbus us : Nat) : (d.typecStep cc1 cc2 vbus us).roles = d.roles := by
  cases hp : oneLine isRp cc1 cc2 <;> cases hd : oneLine (fun c => c == 1) cc1 cc2 <;>
    simp [Dev.typecStep, hp, hd]
@[simp] theorem execTypecTransition_keepsRoles (cc1 cc2 vbus us : Nat) :
    KeepsRoles s (execTypecTransition cc1 cc2 vbus us s) := by simp [execTypecTransition]
@[simp] theorem Dev.endSource_roles (after : Nat) : (d.endSource after).roles = d.roles := by simp [Dev.endSource]
@[simp] theorem Dev.vbusFail_roles (bit : Nat) : (d.vbusFail bit).roles = d.roles := by simp [Dev.vbusFail]
@[simp] theorem Dev.frsAbandoned_roles (discharge : Bool) :
    (d.frsAbandoned discharge).roles = d.roles := by simp [Dev.frsAbandoned]
@[simp] theorem execDetach_keepsRoles : KeepsRoles s (execDetach s) := by simp [execDetach, Dev.detach]
@[simp] theorem execEndSourcing_keepsRoles : KeepsRoles s (execEndSourcing s) := by simp [execEndSourcing, Dev.endSourcing]
@[simp] theorem Dev.afterDischarge_roles (low : Bool) : (d.afterDischarge low).roles = d.roles := by simp [Dev.afterDischarge]
@[simp] theorem execDischargeDone_keepsRoles (ms : Nat) :
    KeepsRoles s (execDischargeDone ms s) := by simp [execDischargeDone, Dev.dischargeDone]
@[simp] theorem execDischargeTimeout_keepsRoles :
    KeepsRoles s (execDischargeTimeout s) := by simp [execDischargeTimeout, Dev.dischargeTimeout]
@[simp] theorem Dev.doHardReset_roles (why : HardResetWhy) : (d.doHardReset why).roles = d.roles := by simp [Dev.doHardReset]
@[simp] theorem execHardReset_keepsRoles (why : HardResetWhy) : KeepsRoles s (execHardReset why s) := by simp [execHardReset]
@[simp] theorem execHardResetSourceRestart_keepsRoles :
    KeepsRoles s (execHardResetSourceRestart s) := by simp [execHardResetSourceRestart, Dev.sourceRestart]
@[simp] theorem execVbusUsable_keepsRoles (mv : Nat) :
    KeepsRoles s (execVbusUsable mv s) := by simp [execVbusUsable, Dev.vbusUsable]
@[simp] theorem execVbusLost_keepsRoles : KeepsRoles s (execVbusLost s) := by simp [execVbusLost, Dev.vbusLost]
@[simp] theorem execPolicyEngineStart_keepsRoles :
    KeepsRoles s (execPolicyEngineStart s) := by simp [execPolicyEngineStart, Dev.policyStart]
@[simp] theorem execSourceCapsTimeout_keepsRoles : KeepsRoles s (execSourceCapsTimeout s) := by simp [execSourceCapsTimeout]
@[simp] theorem Dev.sendRequest_roles (r : Nat × Nat × Nat × Nat) :
    (d.sendRequest r).roles = d.roles := by simp [Dev.sendRequest]

@[simp] theorem Dev.sourceCaps_roles (epr : Bool) (pdos : List SourcePdo) (raw : List Nat) :
    (d.sourceCaps epr pdos raw).roles = d.roles := by
  unfold Dev.sourceCaps
  dsimp only
  split
  · split <;> simp
  · rfl

@[simp] theorem execSourceCapabilities_keepsRoles (epr : Bool) (pdos : List SourcePdo) (raw : List Nat) :
    KeepsRoles s (execSourceCapabilities epr pdos raw s) := by simp [execSourceCapabilities]
@[simp] theorem execPpsRerequest_keepsRoles : KeepsRoles s (execPpsRerequest s) := by simp [execPpsRerequest, Dev.ppsAgain]
@[simp] theorem execUnsupportedMessage_keepsRoles (m : PdOther) :
    KeepsRoles s (execUnsupportedMessage m s) := by simp [execUnsupportedMessage, Dev.unsupported]
@[simp] theorem execBistCarrierMode_keepsRoles :
    KeepsRoles s (execBistCarrierMode s) := by simp [execBistCarrierMode, Dev.bistCarrier]
@[simp] theorem Dev.sinkAccept_roles : d.sinkAccept.roles = d.roles := by
  unfold Dev.sinkAccept
  split <;> simp
@[simp] theorem execSinkAccept_keepsRoles : KeepsRoles s (execSinkAccept s) := by simp [execSinkAccept]
@[simp] theorem Dev.sinkTx_roles (ok : Bool) : (d.sinkTx ok).roles = d.roles := by simp [Dev.sinkTx]
@[simp] theorem Dev.establish_roles (t : Transition) : (d.establish t).roles = d.roles := by simp [Dev.establish]
@[simp] theorem Dev.sinkPsRdy_roles (mean : Nat) : (d.sinkPsRdy mean).roles = d.roles := by
  unfold Dev.sinkPsRdy
  split <;> simp
@[simp] theorem execSinkPsRdy_keepsRoles (mean : Nat) : KeepsRoles s (execSinkPsRdy mean s) := by simp [execSinkPsRdy]
@[simp] theorem execPsRdyTimeout_keepsRoles : KeepsRoles s (execPsRdyTimeout s) := by simp [execPsRdyTimeout]
@[simp] theorem execSourceAttach_keepsRoles (ra : Bool) :
    KeepsRoles s (execSourceAttach ra s) := by simp [execSourceAttach, Dev.sourceAttach]
@[simp] theorem execReverseEntry_keepsRoles :
    KeepsRoles s (execReverseEntry s) := by simp [execReverseEntry, Dev.reverseEntry]
@[simp] theorem Dev.takeCable_roles (five epr : Bool) : (d.takeCable five epr).roles = d.roles := by simp [Dev.takeCable]

@[simp] theorem Dev.discover_roles (answered five epr farEnd : Bool) :
    (d.discover answered five epr farEnd).roles = d.roles := by
  unfold Dev.discover
  split
  · rfl
  · split <;> simp

@[simp] theorem execDiscoverIdentity_keepsRoles (answered five epr farEnd : Bool) :
    KeepsRoles s (execDiscoverIdentity answered five epr farEnd s) := by simp [execDiscoverIdentity]
@[simp] theorem execSendSourceCapabilities_keepsRoles (ack : Bool) :
    KeepsRoles s (execSendSourceCapabilities ack s) := by simp [execSendSourceCapabilities, Dev.sendCaps]
@[simp] theorem execEprModeEnter_keepsRoles (capable succeeded : Bool) :
    KeepsRoles s (execEprModeEnter capable succeeded s) := by simp [execEprModeEnter, Dev.eprEnter]
@[simp] theorem execEprKeepAlive_keepsRoles : KeepsRoles s (execEprKeepAlive s) := by simp [execEprKeepAlive]
@[simp] theorem execEprKeepAliveLost_keepsRoles : KeepsRoles s (execEprKeepAliveLost s) := by simp [execEprKeepAliveLost]
@[simp] theorem execEprModeExit_keepsRoles : KeepsRoles s (execEprModeExit s) := by simp [execEprModeExit, Dev.eprExit]

@[simp] theorem Dev.sourceRequest_roles (pos ma : Nat) : (d.sourceRequest pos ma).roles = d.roles := by
  unfold Dev.sourceRequest
  split
  · rfl
  split
  · rfl
  · split <;> simp

@[simp] theorem execSourceRequest_keepsRoles (pos ma : Nat) :
    KeepsRoles s (execSourceRequest pos ma s) := by simp [execSourceRequest]
@[simp] theorem Dev.sourceRamp_roles : d.sourceRamp.roles = d.roles := by
  unfold Dev.sourceRamp
  split <;> simp
@[simp] theorem execSourceRampStart_keepsRoles : KeepsRoles s (execSourceRampStart s) := by simp [execSourceRampStart]
@[simp] theorem Dev.sourcePsRdy_roles (vbus : Nat) : (d.sourcePsRdy vbus).roles = d.roles := by
  unfold Dev.sourcePsRdy
  split <;> simp
@[simp] theorem execSourcePsRdy_keepsRoles (vbus : Nat) : KeepsRoles s (execSourcePsRdy vbus s) := by simp [execSourcePsRdy]
@[simp] theorem execTransitionWatchdog_keepsRoles :
    KeepsRoles s (execTransitionWatchdog s) := by simp [execTransitionWatchdog]
@[simp] theorem Dev.envelope_roles (vbus : Nat) : (d.envelope vbus).roles = d.roles := by
  unfold Dev.envelope
  split <;> simp
@[simp] theorem execEnvelopeFault_keepsRoles (vbus : Nat) :
    KeepsRoles s (execEnvelopeFault vbus s) := by simp [execEnvelopeFault]
@[simp] theorem execSinkOvervoltage_keepsRoles (vbus : Nat) :
    KeepsRoles s (execSinkOvervoltage vbus s) := by simp [execSinkOvervoltage, Dev.sinkOver]
@[simp] theorem execSinkCapabilitiesReceived_keepsRoles (ma : Nat) :
    KeepsRoles s (execSinkCapabilitiesReceived ma s) := by simp [execSinkCapabilitiesReceived, Dev.sinkCaps]
@[simp] theorem execFrsSignal_keepsRoles : KeepsRoles s (execFrsSignal s) := by simp [execFrsSignal, Dev.frsSignal]
@[simp] theorem execFrsSourceStart_keepsRoles :
    KeepsRoles s (execFrsSourceStart s) := by simp [execFrsSourceStart, Dev.frsStart]
@[simp] theorem execFrsComplete_keepsRoles : KeepsRoles s (execFrsComplete s) := by simp [execFrsComplete, Dev.frsDone]
@[simp] theorem execFrsAbandon_keepsRoles : KeepsRoles s (execFrsAbandon s) := by simp [execFrsAbandon]
@[simp] theorem Dev.writeFrsEnable_roles (v : Nat) : (d.writeFrsEnable v).roles = d.roles := by simp [Dev.writeFrsEnable]

/-! ### Machine/Protection -/

@[simp] theorem Dev.refreshSafety_roles : d.refreshSafety.roles = d.roles := by simp [Dev.refreshSafety]
@[simp] theorem Dev.enterDegraded_roles : d.enterDegraded.roles = d.roles := by simp [Dev.enterDegraded]
@[simp] theorem Dev.leaveDegraded_roles : d.leaveDegraded.roles = d.roles := by simp [Dev.leaveDegraded]
@[simp] theorem Dev.driveOff_roles (byTrip : Bool) : (d.driveOff byTrip).roles = d.roles := by simp [Dev.driveOff]
@[simp] theorem Dev.detect_roles (n : Nat) : (d.detect n).roles = d.roles := by simp [Dev.detect, Dev.tripOn]
@[simp] theorem Dev.judge_roles (n : Nat) : (d.judge n).roles = d.roles := by simp [Dev.judge]
@[simp] theorem execSafetyFaultDetect_keepsRoles (n : Nat) (active : Bool) :
    KeepsRoles s (execSafetyFaultDetect n active s) := by simp [execSafetyFaultDetect]
@[simp] theorem Dev.beginClosing_roles : d.beginClosing.roles = d.roles := by simp [Dev.beginClosing]
@[simp] theorem Dev.writeClose_roles : (WriteResult.dev d.writeClose).roles = d.roles := by simp [Dev.writeClose]
@[simp] theorem Dev.openDisconnect_roles : d.openDisconnect.roles = d.roles := by simp [Dev.openDisconnect]
@[simp] theorem execEnableToggleLost_keepsRoles :
    KeepsRoles s (execEnableToggleLost s) := by simp [execEnableToggleLost, Dev.toggleLost]
@[simp] theorem Dev.showsClosed_roles : d.showsClosed.roles = d.roles := by simp [Dev.showsClosed, Dev.pathClosed]
@[simp] theorem Dev.showsOpen_roles (elapsedUs : Nat) : (d.showsOpen elapsedUs).roles = d.roles := by simp [Dev.showsOpen]
@[simp] theorem Dev.followPolarity_roles (before : Bool) :
    (d.followPolarity before).roles = d.roles := by simp [Dev.followPolarity]
@[simp] theorem execSdFbChange_keepsRoles (level : Bool) (elapsedUs : Nat) :
    KeepsRoles s (execSdFbChange level elapsedUs s) := by simp [execSdFbChange, Dev.feedback]
@[simp] theorem execSdCloseTimeout_keepsRoles :
    KeepsRoles s (execSdCloseTimeout s) := by simp [execSdCloseTimeout, Dev.closeTimeout]
@[simp] theorem execSdOpenTimeout_keepsRoles :
    KeepsRoles s (execSdOpenTimeout s) := by simp [execSdOpenTimeout, Dev.openTimeout]
@[simp] theorem Dev.pulseFailed_roles : d.pulseFailed.roles = d.roles := by simp [Dev.pulseFailed]

@[simp] theorem Dev.testPulse_roles (p : PulseStep) : (d.testPulse p).roles = d.roles := by
  cases p with
  | readback fell => cases fell <;> simp [Dev.testPulse]
  | _ => simp [Dev.testPulse]

@[simp] theorem execTestPulse_keepsRoles (p : PulseStep) : KeepsRoles s (execTestPulse p s) := by simp [execTestPulse]
@[simp] theorem execDecimatorOutput_keepsRoles (raw mirrorUa vdsUv : List Int) :
    KeepsRoles s (execDecimatorOutput raw mirrorUa vdsUv s) := by
  simp [execDecimatorOutput, Dev.decimatorOutput, Dev.countShort]
@[simp] theorem execShortCircuit_keepsRoles : KeepsRoles s (execShortCircuit s) := by simp [execShortCircuit]
@[simp] theorem Dev.takeTemp_roles (a : Nat) (t : Int) (ntc : Bool) :
    (d.takeTemp a t ntc).roles = d.roles := by simp [Dev.takeTemp]
@[simp] theorem execCellTempRead_keepsRoles (a : Nat) (t : Int) (ntc : Bool) :
    KeepsRoles s (execCellTempRead a t ntc s) := by simp [execCellTempRead]
@[simp] theorem execDcinSample_keepsRoles (levels : Nat) :
    KeepsRoles s (execDcinSample levels s) := by simp [execDcinSample, Dev.dcinSample]
@[simp] theorem execDegradedTick_keepsRoles :
    KeepsRoles s (execDegradedTick s) := by simp [execDegradedTick, Dev.degradedTick]
@[simp] theorem execDegradedReset_keepsRoles :
    KeepsRoles s (execDegradedReset s) := by simp [execDegradedReset, Dev.degradedReset]
@[simp] theorem execDegradedDischargeLimit_keepsRoles :
    KeepsRoles s (execDegradedDischargeLimit s) := by simp [execDegradedDischargeLimit]
@[simp] theorem Dev.dropStep_roles (a k : Nat) : (d.dropStep a k).roles = d.roles := by simp [Dev.dropStep]
@[simp] theorem Dev.latentResult_roles (a k result : Nat) :
    (d.latentResult a k result).roles = d.roles := by simp [Dev.latentResult]
@[simp] theorem Dev.notePass_roles (a : Nat) : (d.notePass a).roles = d.roles := by simp [Dev.notePass]
@[simp] theorem Dev.passSeen_roles (a : Nat) (running : Bool) :
    (d.passSeen a running).roles = d.roles := by simp [Dev.passSeen]
@[simp] theorem Dev.latentSwatch_roles (a cycles : Nat) :
    (d.latentSwatch a cycles).roles = d.roles := by simp [Dev.latentSwatch]

@[simp] theorem Dev.latentOwn_roles : d.latentOwn.roles = d.roles := by
  unfold Dev.latentOwn
  split
  · split
    · split
      next h => simp [Written.roles_of_ok h (Dev.writeOpenWire_roles d)]
      next => simp
    · simp
  · simp
  · split
    · rfl
    · split
      next h => exact Written.roles_of_ok h (Dev.writeComparatorTest_roles d _)
      next => simp
  · rfl

@[simp] theorem Dev.comparatorTested_roles (ov uv : Bool) : (d.comparatorTested ov uv).roles = d.roles := by
  unfold Dev.comparatorTested
  split <;> simp
@[simp] theorem execComparatorTestDone_keepsRoles (ov uv : Bool) :
    KeepsRoles s (execComparatorTestDone ov uv s) := by simp [execComparatorTestDone]
@[simp] theorem execOpenWireWindowEnd_keepsRoles :
    KeepsRoles s (execOpenWireWindowEnd s) := by simp [execOpenWireWindowEnd, Dev.wireWindowOver]
@[simp] theorem execLatentCycle_keepsRoles :
    KeepsRoles s (execLatentCycle s) := by simp [execLatentCycle, Dev.latentCycle, Dev.latentRequests]
@[simp] theorem execLatentOverdue_keepsRoles :
    KeepsRoles s (execLatentOverdue s) := by simp [execLatentOverdue, Dev.latentLate]
@[simp] theorem Dev.checkRecompute_roles :
    d.checkRecompute.roles = d.roles := by simp [Dev.checkRecompute, Dev.refreshConfirm]
@[simp] theorem execCheckValueRecompute_keepsRoles :
    KeepsRoles s (execCheckValueRecompute s) := by simp [execCheckValueRecompute]
@[simp] theorem Dev.withdraw_roles : d.withdraw.roles = d.roles := by simp [Dev.withdraw]

@[simp] theorem Dev.writeConfirm_roles (commissioned : Bool) (bytes : List Nat) :
    (WriteResult.dev (d.writeConfirm commissioned bytes)).roles = d.roles := by
  unfold Dev.writeConfirm
  dsimp only
  split
  · rfl
  split
  · rfl
  split
  · rfl
  split
  · rfl
  split
  all_goals
    next h =>
      have hc := Dev.fst_roles_of_eq h
      simp [hc]

@[simp] theorem Dev.countMs_roles : d.countMs.roles = d.roles := by simp [Dev.countMs, Dev.everySecond, Dev.askOnce]
@[simp] theorem execSafetyCycle_keepsRoles : KeepsRoles s (execSafetyCycle s) := by
  simp [execSafetyCycle, Dev.safetyCycle, Dev.countOver, Dev.latentComplete, Dev.countQuiet, Dev.judgeAll]
@[simp] theorem Dev.processorFault_roles (cause n : Nat) :
    (d.processorFault cause n).roles = d.roles := by simp [Dev.processorFault]
@[simp] theorem execWatchdogExpiry_keepsRoles : KeepsRoles s (execWatchdogExpiry s) := by simp [execWatchdogExpiry]
@[simp] theorem execLockstepDisagreement_keepsRoles :
    KeepsRoles s (execLockstepDisagreement s) := by simp [execLockstepDisagreement]

/-! ### Machine/PowerModes -/

@[simp] theorem Dev.refreshCrystal_roles : d.refreshCrystal.roles = d.roles := by simp [Dev.refreshCrystal]
@[simp] theorem Dev.kaSource_roles : d.kaSource.roles = d.roles := by simp [Dev.kaSource]
@[simp] theorem State.logicReset_roles (causeBit : Nat) (mode : LogicMode) :
    (s.logicReset causeBit mode).dev.roles = s.dev.roles := by simp [State.logicReset, Dev.logicReset, Dev.dropReads]
@[simp] theorem Dev.hvReset_roles : d.hvReset.roles = d.roles := by simp [Dev.hvReset, Dev.abandonedByReset]
@[simp] theorem Dev.setPorts_roles (st : Nat) : (d.setPorts st).roles = d.roles := by simp [Dev.setPorts]
@[simp] theorem Dev.hvStart_roles :
    d.hvStart.roles = (d.pwr.role, d.reportedRole) := by simp [Dev.hvStart, Dev.reportedRole, Dev.logicPowered]
@[simp] theorem execHvReset_keepsRoles : KeepsRoles s (execHvReset s) := by simp [execHvReset, Dev.vstkLost]
@[simp] theorem execVlogLowWarning_keepsRoles : KeepsRoles s (execVlogLowWarning s) := by simp [execVlogLowWarning]
@[simp] theorem execVlogLoss_keepsRoles : KeepsRoles s (execVlogLoss s) := by simp [execVlogLoss, State.vlogLoss]
@[simp] theorem execKaSupplyChangeover_keepsRoles (kaBatMv : Nat) :
    KeepsRoles s (execKaSupplyChangeover kaBatMv s) := by simp [execKaSupplyChangeover]
@[simp] theorem execKaPowerOnReset_keepsRoles :
    KeepsRoles s (execKaPowerOnReset s) := by simp [execKaPowerOnReset, Dev.kaReset]
@[simp] theorem execExternalReset_keepsRoles : KeepsRoles s (execExternalReset s) := by simp [execExternalReset]
@[simp] theorem Dev.monWake_roles : d.monWake.roles = d.roles := by simp [Dev.monWake]
@[simp] theorem Dev.monSleep_roles :
    d.monSleep.roles = d.roles := by simp [Dev.monSleep, Dev.abandonWirePass, Dev.endGroupTrips, Dev.abandonGauge]
@[simp] theorem Dev.laneFChange_roles (on : Bool) : (d.laneFChange on).roles = d.roles := by simp [Dev.laneFChange]
@[simp] theorem execLaneFLoss_keepsRoles : KeepsRoles s (execLaneFLoss s) := by simp [execLaneFLoss]
@[simp] theorem execLaneFReturn_keepsRoles : KeepsRoles s (execLaneFReturn s) := by simp [execLaneFReturn]
@[simp] theorem execKaReferenceMark_keepsRoles (cycles : Nat) :
    KeepsRoles s (execKaReferenceMark cycles s) := by simp [execKaReferenceMark]
@[simp] theorem execMonReferenceLost_keepsRoles : KeepsRoles s (execMonReferenceLost s) := by simp [execMonReferenceLost]
@[simp] theorem execCrossingRequest_keepsRoles (src dst : Island) (w : Word) :
    KeepsRoles s (execCrossingRequest src dst w s) := by simp [execCrossingRequest, Dev.crossing]
@[simp] theorem execStartupSelfTest_keepsRoles (romOk sramOk : Bool) :
    KeepsRoles s (execStartupSelfTest romOk sramOk s) := by simp [execStartupSelfTest, Dev.selfTested]
@[simp] theorem execFramScan_keepsRoles (logDevice : Option NandDevice) :
    KeepsRoles s (execFramScan logDevice s) := by simp [execFramScan, Dev.framScanned, Dev.enableTransports]
@[simp] theorem execMonitorDieReady_keepsRoles :
    KeepsRoles s (execMonitorDieReady s) := by simp [execMonitorDieReady, Dev.monReady]
@[simp] theorem Dev.stepFourEnds_roles : d.stepFourEnds.roles = d.roles := by simp [Dev.stepFourEnds]
@[simp] theorem execMonLock_keepsRoles : KeepsRoles s (execMonLock s) := by simp [execMonLock, Dev.monLocks]
@[simp] theorem execDieTempDone_keepsRoles (controller : Bool) (t : Int) :
    KeepsRoles s (execDieTempDone controller t s) := by simp [execDieTempDone]
@[simp] theorem execCrystalTimeout_keepsRoles : KeepsRoles s (execCrystalTimeout s) := by simp [execCrystalTimeout]
@[simp] theorem Dev.settingsInForce_roles (before : Dev) :
    (d.settingsInForce before).roles = d.roles := by simp [Dev.settingsInForce]

@[simp] theorem Dev.restoreOwn_roles : d.restoreOwn.roles = d.roles := by
  unfold Dev.restoreOwn
  split
  · split <;> simp
  · rfl

@[simp] theorem Dev.fieldLoad_roles : d.fieldLoad.roles = d.roles := by
  unfold Dev.fieldLoad
  split
  · dsimp only
    split
    · split
      next h => simp [Written.roles_of_ok h (Dev.writeSelfCal_roles _)]
      next => simp
    · simp
  · rfl

@[simp] theorem execFieldConfigLoad_keepsRoles :
    KeepsRoles s (execFieldConfigLoad s) := by simp [execFieldConfigLoad, Dev.memberLoaded]
@[simp] theorem Dev.castOnEnds_roles : d.castOnEnds.roles = d.roles := by simp [Dev.castOnEnds]
@[simp] theorem execPassClose_keepsRoles : KeepsRoles s (execPassClose s) := by simp [execPassClose, Dev.passClose]
@[simp] theorem execSelfCalDone_keepsRoles (offA : Int) (gainA : Nat) (offB : Int) (gainB : Nat) :
    KeepsRoles s (execSelfCalDone offA gainA offB gainB s) := by simp [execSelfCalDone, Dev.selfCalDone]
@[simp] theorem execStartupComplete_keepsRoles (us : Nat) :
    KeepsRoles s (execStartupComplete us s) := by simp [execStartupComplete, Dev.startupEnds]
@[simp] theorem Dev.restGoesOn_roles (refused : Bool) :
    (d.restGoesOn refused).roles = d.roles := by simp [Dev.restGoesOn, Dev.rest, Dev.haltHostChannels]
@[simp] theorem Dev.enterRest_roles : d.enterRest.roles = d.roles := by simp [Dev.enterRest]
@[simp] theorem execFramCommit_keepsRoles (cresMv : Nat) (ecc : Bool) (stop : Option Nat) :
    KeepsRoles s (execFramCommit cresMv ecc stop s) := by simp [execFramCommit]
@[simp] theorem execLogEntry_keepsRoles (ecc : Bool) (run : CommitRun) :
    KeepsRoles s (execLogEntry ecc run s) := by simp [execLogEntry]
@[simp] theorem execLogPageProgram_keepsRoles (r : ProgramResult) (first second : CommitRun) :
    KeepsRoles s (execLogPageProgram r first second s) := by simp [execLogPageProgram]
@[simp] theorem Dev.beginRest_roles (ship : Bool) : (d.beginRest ship).roles = d.roles := by simp [Dev.beginRest]

@[simp] theorem Dev.bindOffEffect_roles : d.bindOffEffect.roles = d.roles := by
  unfold Dev.bindOffEffect
  split
  · simp
  split
  · split <;> simp
  · split <;> simp

@[simp] theorem execBindOffEffect_keepsRoles : KeepsRoles s (execBindOffEffect s) := by simp [execBindOffEffect]
@[simp] theorem execWakeSource_keepsRoles (bit : Nat) : KeepsRoles s (execWakeSource bit s) := by simp [execWakeSource]
@[simp] theorem execWarmWake_keepsRoles : KeepsRoles s (execWarmWake s) := by simp [execWarmWake, Dev.warmWake]
@[simp] theorem execRowLossSleep_keepsRoles : KeepsRoles s (execRowLossSleep s) := by simp [execRowLossSleep]
@[simp] theorem Dev.lineActivity_roles (p : Port) : (d.lineActivity p).roles = d.roles := by simp [Dev.lineActivity]
@[simp] theorem execLineActivityWake_keepsRoles (p : Port) :
    KeepsRoles s (execLineActivityWake p s) := by simp [execLineActivityWake]
@[simp] theorem execAlarmSymbolReceived_keepsRoles (p : Port) (merged : Nat) :
    KeepsRoles s (execAlarmSymbolReceived p merged s) := by simp [execAlarmSymbolReceived, Dev.alarmReceived]
@[simp] theorem execHbCurrentLimitFault_keepsRoles (hb2 : Bool) :
    KeepsRoles s (execHbCurrentLimitFault hb2 s) := by simp [execHbCurrentLimitFault, State.hbFault, Dev.hb2Fault]
@[simp] theorem execHbRestart_keepsRoles (hb2 : Bool) : KeepsRoles s (execHbRestart hb2 s) := by simp [execHbRestart]
@[simp] theorem State.safetyReset_roles : s.safetyReset.dev.roles = s.dev.roles := by
  unfold State.safetyReset
  split <;> simp
@[simp] theorem execSafetyReset_keepsRoles : KeepsRoles s (execSafetyReset s) := by simp [execSafetyReset]
@[simp] theorem execSramEccError_keepsRoles (requestor addr : Nat) (double : Bool) :
    KeepsRoles s (execSramEccError requestor addr double s) := by simp [execSramEccError, Dev.sramError]

/-! ### Machine/Access -/

@[simp] theorem Dev.crossingTimedOut_roles : d.crossingTimedOut.roles = d.roles := by simp [Dev.crossingTimedOut]
@[simp] theorem Dev.afterRead_roles (key : Nat) :
    (d.afterRead key).roles = d.roles := by simp [Dev.afterRead, Dev.readChargeFault]
@[simp] theorem Dev.bulkValue_roles (r : ObjRow) (i sub : Nat) : (d.bulkValue r i sub).2.roles = d.roles := by
  cases h : r.ty <;> simp [Dev.bulkValue, h]

@[simp] theorem Dev.readObject_roles (agent : Bool) (i sub : Nat) : (d.readObject agent i sub).2.roles = d.roles := by
  unfold Dev.readObject
  split
  · rfl
  · split
    · rfl
    split
    · simp
    split
    · split
      · rfl
      · split
        all_goals
          next h => simp [Dev.snd_roles_of_eq h]
    · simp

@[simp] theorem Dev.clearLatch_roles (key v : Nat) :
    (d.clearLatch key v).roles = d.roles := by simp [Dev.clearLatch, Dev.clearSwitchFaults, Dev.clearKaFault, Dev.clearFaults]
@[simp] theorem Dev.wrongCodeWritten_roles : d.wrongCodeWritten.roles = d.roles := by simp [Dev.wrongCodeWritten]
@[simp] theorem Dev.codeAccepted_roles : d.codeAccepted.roles = d.roles := by simp [Dev.codeAccepted]
@[simp] theorem Dev.orRefuse_roles (w : Written) : (WriteResult.dev (d.orRefuse w)).roles = (Written.dev d w).roles := by
  cases w <;> rfl
@[simp] theorem Dev.closeUnlock_roles : d.closeUnlock.roles = d.roles := by simp [Dev.closeUnlock]
@[simp] theorem Dev.endCommissioning_roles : d.endCommissioning.roles = d.roles := by simp [Dev.endCommissioning]
@[simp] theorem Dev.writeExit_roles (rt : Rights) :
    (WriteResult.dev (d.writeExit rt)).roles = d.roles := by simp [Dev.writeExit]
@[simp] theorem Dev.rwsAccepted_roles : d.rwsAccepted.roles = d.roles := by simp [Dev.rwsAccepted]
@[simp] theorem Dev.writeDefaults_roles (rt : Rights) :
    (WriteResult.dev (d.writeDefaults rt)).roles = d.roles := by simp [Dev.writeDefaults, Dev.restoreDefaults]

@[simp] theorem Dev.writeCheckConfirm_roles (rt : Rights) (bytes : List Nat) :
    (WriteResult.dev (d.writeCheckConfirm rt bytes)).roles = d.roles := by
  unfold Dev.writeCheckConfirm
  split
  · rfl
  split
  · rfl
  split
  next h => simp [WriteResult.roles_of_ok h]
  next h => simp [WriteResult.roles_of_error h]

@[simp] theorem refuseIf_roles (c : Bool) (reason : Nat) (d' : Dev) (h : d'.roles = d.roles) :
    (WriteResult.dev (refuseIf c reason d d')).roles = d.roles := by simp [refuseIf, h]
@[simp] theorem Dev.applyService_roles (rt : Rights) (i sub : Nat) (v : Int) :
    (WriteResult.dev (d.applyService rt i sub v)).roles = d.roles := by
  simp [Dev.applyService, Dev.sleepRequest, Dev.shipRequest, Dev.writeEnter, Dev.writeUnlock, Dev.writeCode]
@[simp] theorem Dev.applyMeasure_roles (agent : Bool) (i sub : Nat) (v : Int) :
    (WriteResult.dev (d.applyMeasure agent i sub v)).roles = d.roles := by simp [Dev.applyMeasure]
@[simp] theorem Dev.applyBalance_roles (i sub : Nat) (v : Int) :
    (WriteResult.dev (d.applyBalance i sub v)).roles = d.roles := by simp [Dev.applyBalance]
@[simp] theorem Dev.applyPower_roles (i sub : Nat) (v : Int) : (WriteResult.dev (d.applyPower i sub v)).roles = d.roles := by
  simp [Dev.applyPower, Dev.writeFaultClear, Dev.writeExcludedClear, Dev.writePopulated, Dev.writeDockLimit,
    Dev.writePortEnable]
@[simp] theorem Dev.applySystem_roles (rt : Rights) (i sub : Nat) (v : Int) :
    (WriteResult.dev (d.applySystem rt i sub v)).roles = d.roles := by simp [Dev.applySystem]
@[simp] theorem Dev.applyFixed_roles (agent : Bool) (rt : Rights) (i sub : Nat) (v : Int) :
    (WriteResult.dev (d.applyFixed agent rt i sub v)).roles = d.roles := by simp [Dev.applyFixed]
@[simp] theorem Dev.applyBulk_roles (rt : Rights) (i sub : Nat) (b : List Nat) :
    (WriteResult.dev (d.applyBulk rt i sub b)).roles = d.roles := by simp [Dev.applyBulk]
@[simp] theorem Dev.accepted_roles (agent : Bool) (r : ObjRow) (key : Nat) :
    (d.accepted agent r key).roles = d.roles := by simp [Dev.accepted]
@[simp] theorem Dev.reachOr_roles (agent : Bool) (i : Nat) (w : WriteResult) (h : (WriteResult.dev w).roles = d.roles) :
    (WriteResult.dev (d.reachOr agent i w)).roles = d.roles := by simp [Dev.reachOr, h]

@[simp] theorem Dev.writeFixed_roles (agent : Bool) (rt : Rights) (i sub : Nat) (bytes : List Nat) :
    (WriteResult.dev (d.writeFixed agent rt i sub bytes)).roles = d.roles := by
  unfold Dev.writeFixed
  split
  · rfl
  · dsimp only
    split
    · rfl
    split
    · simp
    · split <;> simp

@[simp] theorem Dev.writeBulk_roles (agent : Bool) (rt : Rights) (i sub : Nat) (bytes : List Nat) :
    (WriteResult.dev (d.writeBulk agent rt i sub bytes)).roles = d.roles := by
  unfold Dev.writeBulk
  split <;> simp

/-! ### Machine/Server -/

@[simp] theorem Dev.setChannel_roles (who : Requester) (c : Channel) : (d.setChannel who c).roles = d.roles := by
  unfold Dev.setChannel
  split <;> simp
@[simp] theorem Dev.setTransfer_roles (who : Requester) (t : Transfer) :
    (d.setTransfer who t).roles = d.roles := by simp [Dev.setTransfer]
@[simp] theorem Dev.sendService_roles (b : Bool) (m : List Nat) :
    (d.sendService b m).roles = d.roles := by simp [Dev.sendService, Dev.sendCan]
@[simp] theorem Dev.countAbort_roles (m : List Nat) : (d.countAbort m).roles = d.roles := by simp [Dev.countAbort]
@[simp] theorem Dev.sendFloat_roles (m : List Nat) : (d.sendFloat m).roles = d.roles := by simp [Dev.sendFloat]
@[simp] theorem Dev.sendOn_roles (who : Requester) (m : List Nat) : (d.sendOn who m).roles = d.roles := by
  unfold Dev.sendOn
  split <;> simp
@[simp] theorem Dev.answer_roles (who : Requester) (m : List Nat) : (d.answer who m).roles = d.roles := by simp [Dev.answer]

@[simp] theorem Dev.endTransfer_roles (who : Requester) : (d.endTransfer who).roles = d.roles := by
  unfold Dev.endTransfer
  split
  · split
    · split <;> simp
    · simp
  · simp

@[simp] theorem Dev.abortTransfer_roles (who : Requester) (reason : Nat) : (d.abortTransfer who reason).roles = d.roles := by
  unfold Dev.abortTransfer
  split <;> simp

@[simp] theorem Dev.beforeRelay_roles (who : Requester) (op : Op) : (d.beforeRelay who op).roles = d.roles := by
  unfold Dev.beforeRelay
  split
  · simp
  · split <;> simp

@[simp] theorem Dev.beforeServing_roles (who : Requester) (op : Op) : (d.beforeServing who op).roles = d.roles := by
  unfold Dev.beforeServing
  split <;> simp

@[simp] theorem Dev.serveRead_roles (who : Requester) (a : Ask) : (d.serveRead who a).2.roles = d.roles := by
  unfold Dev.serveRead
  split
  all_goals
    next h => simp [Dev.snd_roles_of_eq h]

@[simp] theorem Dev.breakSequence_roles (who : Requester) (a : Ask) :
    (d.breakSequence who a).2.roles = d.roles := by simp [Dev.breakSequence]

@[simp] theorem Dev.bankData_roles (who : Requester) (i sub n size : Nat) (data : List Nat) :
    (d.bankData who i sub n size data).2.roles = d.roles := by
  unfold Dev.bankData
  split <;> simp

@[simp] theorem Dev.serveSegment_roles (who : Requester) (a : Ask) (n : Nat) :
    (d.serveSegment who a n).2.roles = d.roles := by
  unfold Dev.serveSegment
  dsimp only
  split
  next i _ _ _ _ _ => cases bankOf i <;> simp
  next => simp

@[simp] theorem Dev.serveInitiate_roles (who : Requester) (a : Ask) (size : Nat) :
    (d.serveInitiate who a size).2.roles = d.roles := by
  unfold Dev.serveInitiate
  split <;> simp

@[simp] theorem Dev.serveWriteSegment_roles (who : Requester) (a : Ask) (n : Nat) (last : Bool) (data : List Nat) :
    (d.serveWriteSegment who a n last data).2.roles = d.roles := by
  unfold Dev.serveWriteSegment
  split
  next answered _ => cases answered <;> simp
  next => simp

@[simp] theorem Dev.serveLocal_roles (who : Requester) (a : Ask) : (d.serveLocal who a).2.roles = d.roles := by
  cases h : a.op <;> simp [Dev.serveLocal, h]

/-! ### Machine/Relay -/

@[simp] theorem Dev.changeImage_roles (serial : Nat) (f : Image → Image) :
    (d.changeImage serial f).roles = d.roles := by simp [Dev.changeImage]

@[simp] theorem Dev.queueChain_roles (member : Nat) (messages : List (List Nat)) :
    (d.queueChain member messages).roles = d.roles := by
  unfold Dev.queueChain
  split <;> simp

@[simp] theorem Dev.createImage_roles (a : Nat) : (d.createImage a).roles = d.roles := by simp [Dev.createImage]

@[simp] theorem Dev.recordWrite_roles (a i sub : Nat) (bytes : List Nat) (bulk : Bool) :
    (d.recordWrite a i sub bytes bulk).roles = d.roles := by
  unfold Dev.recordWrite
  split
  next r _ => cases inRange r i (r.ty.value bytes) <;> simp
  next => rfl

@[simp] theorem Dev.dropChange_roles (a : Nat) : (d.dropChange a).roles = d.roles := by simp [Dev.dropChange]

theorem Dev.planWindows_roles {d e : Dev} {a : Nat} {shape : Nat × Nat} {before : Nat}
    (h : d.planWindows a shape before = some e) : e.roles = d.roles := by
  unfold Dev.planWindows at h
  obtain ⟨wa, -, rfl⟩ := Option.map_eq_some_iff.mp h
  simp

@[simp] theorem Dev.planLoad_roles (a : Nat) (writes done : List (Nat × Int)) :
    (Dev.planLoad a writes done d).2.roles = d.roles := by
  induction writes generalizing done d with
  | nil => rfl
  | cons e t ih =>
    unfold Dev.planLoad
    split
    next h => simp [ih, Dev.planWindows_roles h]
    next => exact ih ..

@[simp] theorem Dev.acceptChange_roles (a : Nat) : (d.acceptChange a).roles = d.roles := by
  unfold Dev.acceptChange
  split <;> simp
@[simp] theorem Dev.setRequests_roles (l : List MemberRequest) :
    (d.setRequests l).roles = d.roles := by simp [Dev.setRequests]
@[simp] theorem Dev.dropAsked_roles (a : Nat) : (d.dropAsked a).roles = d.roles := by simp [Dev.dropAsked]
@[simp] theorem Dev.endRequest_roles (r : MemberRequest) (reason : Nat) :
    (d.endRequest r reason).roles = d.roles := by simp [Dev.endRequest]
@[simp] theorem Dev.endMember_roles (a : Nat) : (d.endMember a).roles = d.roles := by simp [Dev.endMember]
@[simp] theorem Dev.sendDown_roles (r : MemberRequest) : (d.sendDown r).roles = d.roles := by simp [Dev.sendDown]
@[simp] theorem Dev.sendOldest_roles (r : MemberRequest) : (d.sendOldest r).roles = d.roles := by simp [Dev.sendOldest]

@[simp] theorem Dev.launchOldest_roles (a n : Nat) : (Dev.launchOldest a n d).roles = d.roles := by
  induction n generalizing d with
  | zero => rfl
  | succ n ih =>
    unfold Dev.launchOldest
    split
    · split <;> simp [ih]
    · rfl

@[simp] theorem Dev.launch_roles : d.launch.roles = d.roles := by simp [Dev.launch, Dev.launchMember]

@[simp] theorem Dev.relay_roles (who : Requester) (a : Ask) : (d.relay who a).roles = d.roles := by
  unfold Dev.relay
  split
  · simp
  · dsimp only
    split
    · simp
    next e h =>
      have he : e.roles = d.roles := by
        split at h
        · exact Dev.planWindows_roles h
        · exact congrArg Dev.roles (Option.some.inj h).symm
      simp [he]

@[simp] theorem Dev.refuseBusy_roles (who : Requester) : (d.refuseBusy who).roles = d.roles := by
  unfold Dev.refuseBusy
  split <;> simp
@[simp] theorem Dev.acceptFrame_roles (who : Requester) : (d.acceptFrame who).roles = d.roles := by simp [Dev.acceptFrame]

@[simp] theorem Dev.serve_roles (who : Requester) (a : Ask) : (d.serve who a).roles = d.roles := by
  unfold Dev.serve
  split
  · split
    all_goals
      next h => simp [Dev.snd_roles_of_eq h]
  · dsimp only
    split
    · simp
    · split <;> simp

@[simp] theorem Dev.request_roles (who : Requester) (a : Ask) :
    (d.request who a).roles = d.roles := by simp [Dev.request, Dev.unserved]
@[simp] theorem State.request_roles (who : Requester) (a : Ask) :
    (s.request who a).dev.roles = s.dev.roles := by simp [State.request]
@[simp] theorem State.hostWrite_roles (who : Requester) (index sub : Nat) (value : List Nat) :
    (s.hostWrite who index sub value).dev.roles = s.dev.roles := by simp [State.hostWrite]

@[simp] theorem Dev.firmwareWrite_roles (index sub : Nat) (bytes : List Nat) :
    (d.firmwareWrite index sub bytes).roles = d.roles := by
  unfold Dev.firmwareWrite
  split
  · split
    next h => simp [WriteResult.roles_of_ok h]
    next h => simp [WriteResult.roles_of_error h]
  · rfl

@[simp] theorem Dev.relayTransfer_roles (who : Requester) (q : Ask) (m : List Nat) :
    (d.relayTransfer who q m).roles = d.roles := by
  unfold Dev.relayTransfer
  dsimp only
  split
  case h_4 =>
    split <;> simp
  all_goals simp

@[simp] theorem Dev.decideLoad_roles (a monResetCause : Nat) : (d.decideLoad a monResetCause).roles = d.roles := by
  unfold Dev.decideLoad
  split
  · simp
  · split
    · rfl
    · extract_lets writes
      split
      next h =>
        have he := Dev.snd_roles_of_eq h
        split <;> simp [he]

@[simp] theorem Dev.takeOwnRead_roles (a i sub : Nat) (b : List Nat) (last : Bool) :
    (d.takeOwnRead a i sub b last).roles = d.roles := by simp [Dev.takeOwnRead, Dev.takeCounters, Dev.takeDelay]
@[simp] theorem Dev.stepAborted_roles (a : Nat) (q : Ask) (m : List Nat) :
    (d.stepAborted a q m).roles = d.roles := by simp [Dev.stepAborted]

@[simp] theorem Dev.ownAnswer_roles (r : MemberRequest) (m : List Nat) : (d.ownAnswer r m).roles = d.roles := by
  unfold Dev.ownAnswer
  split
  · split <;> simp
  · split <;> simp

@[simp] theorem Dev.hostAnswer_roles (r : MemberRequest) (m : List Nat) :
    (d.hostAnswer r m).roles = d.roles := by simp [Dev.hostAnswer]

@[simp] theorem Dev.memberResponse_roles (a seq : Nat) (m : List Nat) : (d.memberResponse a seq m).roles = d.roles := by
  unfold Dev.memberResponse
  split
  · rfl
  · split <;> simp

@[simp] theorem execMemberResponse_keepsRoles (a seq : Nat) (m : List Nat) :
    KeepsRoles s (execMemberResponse a seq m s) := by simp [execMemberResponse]
@[simp] theorem Dev.responseTimeout_roles (a : Nat) : (d.responseTimeout a).roles = d.roles := by
  unfold Dev.responseTimeout
  split <;> simp
@[simp] theorem execMemberResponseTimeout_keepsRoles (a : Nat) :
    KeepsRoles s (execMemberResponseTimeout a s) := by simp [execMemberResponseTimeout]
@[simp] theorem Dev.lostMember_roles (a : Nat) : (d.lostMember a).roles = d.roles := by simp [Dev.lostMember]
@[simp] theorem execCastOnHole_keepsRoles (a : Nat) :
    KeepsRoles s (execCastOnHole a s) := by simp [execCastOnHole, Dev.castOnHole]
@[simp] theorem execMemberAbsent_keepsRoles (a : Nat) :
    KeepsRoles s (execMemberAbsent a s) := by simp [execMemberAbsent, Dev.memberAbsent]
@[simp] theorem execRowStart_keepsRoles : KeepsRoles s (execRowStart s) := by simp [execRowStart, Dev.rowStart]
@[simp] theorem Dev.agentFrame_roles (seq : Nat) (payload : List Nat) :
    (d.agentFrame seq payload).roles = d.roles := by simp [Dev.agentFrame]
@[simp] theorem Dev.downFrame_roles (frame : Option (List Nat)) : (d.downFrame frame).roles = d.roles := by
  unfold Dev.downFrame
  split <;> simp

@[simp] theorem Dev.insertWindow_roles (w : RxWindow) : (d.insertWindow w).roles = d.roles := by
  unfold Dev.insertWindow
  dsimp only
  split
  · split <;> simp
  · simp

@[simp] theorem execStitchInsert_keepsRoles (w : RxWindow) : KeepsRoles s (execStitchInsert w s) := by simp [execStitchInsert]
@[simp] theorem execFloatFrameMember_keepsRoles (bytes : List Nat) (intact : Bool) :
    KeepsRoles s (execFloatFrameMember bytes intact s) := by simp [execFloatFrameMember, Dev.frameAtMember]
@[simp] theorem Dev.takeReport_roles (a : Nat) (payload : List Nat) :
    (d.takeReport a payload).roles = d.roles := by simp [Dev.takeReport]
@[simp] theorem Dev.upFrame_roles (a : Nat) (frame : Option (List Nat)) : (d.upFrame a frame).roles = d.roles := by
  unfold Dev.upFrame
  split <;> simp
@[simp] theorem Dev.takeUpFrames_roles : d.takeUpFrames.roles = d.roles := by simp [Dev.takeUpFrames]
@[simp] theorem Dev.askDelays_roles : d.askDelays.roles = d.roles := by simp [Dev.askDelays]

@[simp] theorem execRowReturn_keepsRoles (p : Port) (row : Nat) (headerOk periodOk : Bool) (timing : MarkTiming)
    (windows : List RxWindow) (slots : List ServiceSlot) :
    KeepsRoles s (execRowReturn p row headerOk periodOk timing windows slots s) := by
  simp [execRowReturn]

@[simp] theorem execReturnLimitExpiry_keepsRoles (p : Port) :
    KeepsRoles s (execReturnLimitExpiry p s) := by simp [execReturnLimitExpiry]
@[simp] theorem execFloatFrameHead_keepsRoles (a : Nat) (bytes : List Nat) (intact : Bool) :
    KeepsRoles s (execFloatFrameHead a bytes intact s) := by simp [execFloatFrameHead, Dev.frameAtHead]

/-! ### Machine/Transports -/

@[simp] theorem execRead_keepsRoles (who : Requester) (t i sub : Nat) :
    KeepsRoles s (execRead who t i sub s) := by simp [execRead]
@[simp] theorem execWrite_keepsRoles (who : Requester) (t i sub : Nat) (v : List Nat) :
    KeepsRoles s (execWrite who t i sub v s) := by simp [execWrite]
@[simp] theorem execReadSegment_keepsRoles (who : Requester) (t i sub n : Nat) :
    KeepsRoles s (execReadSegment who t i sub n s) := by simp [execReadSegment]
@[simp] theorem execWriteInitiate_keepsRoles (who : Requester) (t i sub size : Nat) :
    KeepsRoles s (execWriteInitiate who t i sub size s) := by simp [execWriteInitiate]
@[simp] theorem execWriteSegment_keepsRoles (who : Requester) (t i sub n : Nat) (last : Bool) (data : List Nat) :
    KeepsRoles s (execWriteSegment who t i sub n last data s) := by simp [execWriteSegment]
@[simp] theorem execClientAbort_keepsRoles (who : Requester) (t i sub : Nat) :
    KeepsRoles s (execClientAbort who t i sub s) := by simp [execClientAbort]
@[simp] theorem execUnknownCommand_keepsRoles (who : Requester) (m : List Nat) :
    KeepsRoles s (execUnknownCommand who m s) := by simp [execUnknownCommand]
@[simp] theorem execMemberRequestRelay_keepsRoles (who : Requester) (t i sub : Nat) (m : List Nat) :
    KeepsRoles s (execMemberRequestRelay who t i sub m s) := by simp [execMemberRequestRelay]
@[simp] theorem execServiceTimeout_keepsRoles (who : Requester) :
    KeepsRoles s (execServiceTimeout who s) := by simp [execServiceTimeout]
@[simp] theorem execCommissioningTimeout_keepsRoles :
    KeepsRoles s (execCommissioningTimeout s) := by simp [execCommissioningTimeout]
@[simp] theorem execCodeLockExpiry_keepsRoles : KeepsRoles s (execCodeLockExpiry s) := by simp [execCodeLockExpiry]
@[simp] theorem Dev.busOff_roles (c : Nat) : (d.busOff c).roles = d.roles := by simp [Dev.busOff]
@[simp] theorem execCanFrameReceived_keepsRoles (b : Bool) (ident : Nat) (fd : Bool) (data : List Nat) (bus : List CanStep) :
    KeepsRoles s (execCanFrameReceived b ident fd data bus s) := by simp [execCanFrameReceived, State.canFrame, Dev.canStep]
@[simp] theorem execCanBusOff_keepsRoles (b : Bool) : KeepsRoles s (execCanBusOff b s) := by simp [execCanBusOff]
@[simp] theorem execCanBusOffRecovery_keepsRoles (b : Bool) :
    KeepsRoles s (execCanBusOffRecovery b s) := by simp [execCanBusOffRecovery]
@[simp] theorem execPublicationDue_keepsRoles (p : Nat) :
    KeepsRoles s (execPublicationDue p s) := by simp [execPublicationDue, Dev.publish, Dev.queueFrame]
@[simp] theorem Dev.clockOut_roles (fetch : Bool) (n : Nat) : (d.clockOut fetch n).roles = d.roles := by simp [Dev.clockOut]
@[simp] theorem Dev.refuseFrame_roles (crcFailed : Bool) :
    (d.refuseFrame crcFailed).roles = d.roles := by simp [Dev.refuseFrame]
@[simp] theorem State.spiObject_roles (m : List Nat) (n : Nat) :
    (s.spiObject m n).dev.roles = s.dev.roles := by simp [State.spiObject]
@[simp] theorem execSpiObjectRequest_keepsRoles (m : List Nat) :
    KeepsRoles s (execSpiObjectRequest m s) := by simp [execSpiObjectRequest]
@[simp] theorem Dev.spiFetched_roles (n : Nat) : (d.spiFetched n).roles = d.roles := by simp [Dev.spiFetched]
@[simp] theorem execSpiFetch_keepsRoles : KeepsRoles s (execSpiFetch s) := by simp [execSpiFetch]
@[simp] theorem Dev.windowFault_roles (v : Nat) (write : Bool) (kind phys : Nat) :
    (d.windowFault v write kind phys).roles = d.roles := by simp [Dev.windowFault]

@[simp] theorem State.windowWords_roles (v n : Nat) (acc : List Nat) : (s.windowWords v n acc).dev.roles = s.dev.roles := by
  induction n generalizing s v acc with
  | zero => rfl
  | succ n ih =>
    unfold State.windowWords
    split <;> simp [ih]

@[simp] theorem State.windowRead_roles (v n clocked : Nat) :
    (s.windowRead v n clocked).dev.roles = s.dev.roles := by simp [State.windowRead]
@[simp] theorem execSpiWindowRead_keepsRoles (v n : Nat) :
    KeepsRoles s (execSpiWindowRead v n s) := by simp [execSpiWindowRead]

@[simp] theorem State.windowStore_roles (v : Nat) (words : List Nat) : (s.windowStore v words).dev.roles = s.dev.roles := by
  induction words generalizing s v with
  | nil => rfl
  | cons w rest ih =>
    unfold State.windowStore
    split <;> simp [ih]

@[simp] theorem State.windowWrite_roles (v : Nat) (words : List Nat) (clocked : Nat) :
    (s.windowWrite v words clocked).dev.roles = s.dev.roles := by simp [State.windowWrite]
@[simp] theorem execSpiWindowWrite_keepsRoles (v : Nat) (words : List (BitVec 32)) :
    KeepsRoles s (execSpiWindowWrite v words s) := by simp [execSpiWindowWrite]
@[simp] theorem State.hostFrame_roles (b : List Nat) : (s.hostFrame b).dev.roles = s.dev.roles := by
  unfold State.hostFrame
  split <;> simp
@[simp] theorem execSpiFrameRefused_keepsRoles (b : List Nat) :
    KeepsRoles s (execSpiFrameRefused b s) := by simp [execSpiFrameRefused]
@[simp] theorem execVioChange_keepsRoles (mv : Nat) :
    KeepsRoles s (execVioChange mv s) := by simp [execVioChange, Dev.vioChange, Dev.idleTransports]

@[simp] theorem Dev.crossingTimeout_roles (use : CrossingUse) (who : Requester) (i sub : Nat) (value : List Nat) :
    (d.crossingTimeout use who i sub value).roles = d.roles := by
  cases use with
  | dma => simp [Dev.crossingTimeout]
  | read => simp [Dev.crossingTimeout]
  | write =>
    simp only [Dev.crossingTimeout, Dev.roles_ite, Dev.answer_roles, ite_self]
    split
    · split
      next h => simp [WriteResult.roles_of_ok h]
      next => simp
    · simp

@[simp] theorem execCrossingTimeout_keepsRoles (use : CrossingUse) (who : Requester) (i sub : Nat) (value : List Nat) :
    KeepsRoles s (execCrossingTimeout use who i sub value s) := by simp [execCrossingTimeout]

/-! ### Machine/HostCommands -/

@[simp] theorem State.writeObject_roles (who : Requester) (r : Reg) (v : Int) :
    (s.writeObject who r v).dev.roles = s.dev.roles := by simp [State.writeObject]
@[simp] theorem State.writeBytes_roles (who : Requester) (r : Reg) (b : List Nat) :
    (s.writeBytes who r b).dev.roles = s.dev.roles := by simp [State.writeBytes, State.hostWriteBulk]
@[simp] theorem execSoftReset_keepsRoles (who : Requester) (value : Nat) :
    KeepsRoles s (execSoftReset who value s) := by simp [execSoftReset]
@[simp] theorem execSleepRequest_keepsRoles (who : Requester) :
    KeepsRoles s (execSleepRequest who s) := by simp [execSleepRequest]
@[simp] theorem execShipRequest_keepsRoles (who : Requester) :
    KeepsRoles s (execShipRequest who s) := by simp [execShipRequest]
@[simp] theorem execSnapLatch_keepsRoles (who : Requester) (value : Nat) :
    KeepsRoles s (execSnapLatch who value s) := by simp [execSnapLatch]
@[simp] theorem execBufferRearm_keepsRoles (who : Requester) :
    KeepsRoles s (execBufferRearm who s) := by simp [execBufferRearm]
@[simp] theorem execAuxStart_keepsRoles (who : Requester) (value : Nat) :
    KeepsRoles s (execAuxStart who value s) := by simp [execAuxStart]
@[simp] theorem execAuxRefSelect_keepsRoles (who : Requester) (converter value : Nat) :
    KeepsRoles s (execAuxRefSelect who converter value s) := by simp [execAuxRefSelect]
@[simp] theorem execAuxUrgent_keepsRoles (who : Requester) (input : Nat) :
    KeepsRoles s (execAuxUrgent who input s) := by simp [execAuxUrgent]
@[simp] theorem execSelfCalCommand_keepsRoles (who : Requester) (value : Nat) :
    KeepsRoles s (execSelfCalCommand who value s) := by simp [execSelfCalCommand]
@[simp] theorem execThresholdWrite_keepsRoles (who : Requester) (sub value : Nat) :
    KeepsRoles s (execThresholdWrite who sub value s) := by simp [execThresholdWrite]
@[simp] theorem execComparatorTest_keepsRoles (who : Requester) (cell : Nat) :
    KeepsRoles s (execComparatorTest who cell s) := by simp [execComparatorTest]
@[simp] theorem execOpenWireCommand_keepsRoles (who : Requester) (value : Nat) :
    KeepsRoles s (execOpenWireCommand who value s) := by simp [execOpenWireCommand]
@[simp] theorem execGaugeFieldWrite_keepsRoles (who : Requester) (set : Nat) (bytes : List Nat) :
    KeepsRoles s (execGaugeFieldWrite who set bytes s) := by simp [execGaugeFieldWrite]
@[simp] theorem execGaugeFieldRemove_keepsRoles (who : Requester) (set value : Nat) :
    KeepsRoles s (execGaugeFieldRemove who set value s) := by simp [execGaugeFieldRemove]
@[simp] theorem execBalRequestWrite_keepsRoles (who : Requester) (value : Nat) :
    KeepsRoles s (execBalRequestWrite who value s) := by simp [execBalRequestWrite]
@[simp] theorem execWireGaugeCommand_keepsRoles (who : Requester) (value : Nat) :
    KeepsRoles s (execWireGaugeCommand who value s) := by simp [execWireGaugeCommand]
@[simp] theorem execImpCommand_keepsRoles (who : Requester) (value : Nat) :
    KeepsRoles s (execImpCommand who value s) := by simp [execImpCommand]
@[simp] theorem execCounterClear_keepsRoles (who : Requester) (value : Nat) :
    KeepsRoles s (execCounterClear who value s) := by simp [execCounterClear]
@[simp] theorem execCounterRestore_keepsRoles (who : Requester) (bytes : List Nat) :
    KeepsRoles s (execCounterRestore who bytes s) := by simp [execCounterRestore]
@[simp] theorem execStatsClear_keepsRoles (who : Requester) (port : Port) (value : Nat) :
    KeepsRoles s (execStatsClear who port value s) := by simp [execStatsClear]
@[simp] theorem execRegisterWrite_keepsRoles (who : Requester) (index sub : Nat) (value : List Nat) :
    KeepsRoles s (execRegisterWrite who index sub value s) := by simp [execRegisterWrite]
@[simp] theorem execLatchClearWrite_keepsRoles (who : Requester) (index sub : Nat) (value : List Nat) :
    KeepsRoles s (execLatchClearWrite who index sub value s) := by simp [execLatchClearWrite]
@[simp] theorem execCommissioningEnter_keepsRoles (who : Requester) (code : Nat) :
    KeepsRoles s (execCommissioningEnter who code s) := by simp [execCommissioningEnter]
@[simp] theorem execSafetyUnlock_keepsRoles (who : Requester) (code : Nat) :
    KeepsRoles s (execSafetyUnlock who code s) := by simp [execSafetyUnlock]
@[simp] theorem execCommissioningCode_keepsRoles (who : Requester) (code : Nat) :
    KeepsRoles s (execCommissioningCode who code s) := by simp [execCommissioningCode]
@[simp] theorem execCommissioningExit_keepsRoles (who : Requester) (value : Nat) :
    KeepsRoles s (execCommissioningExit who value s) := by simp [execCommissioningExit]
@[simp] theorem execConfigStore_keepsRoles (who : Requester) (value : Nat) :
    KeepsRoles s (execConfigStore who value s) := by simp [execConfigStore]
@[simp] theorem execConfigDefaults_keepsRoles (who : Requester) (value : Nat) :
    KeepsRoles s (execConfigDefaults who value s) := by simp [execConfigDefaults]
@[simp] theorem execPageTableWrite_keepsRoles (who : Requester) (requestor : Nat) (entries : List (BitVec 32)) :
    KeepsRoles s (execPageTableWrite who requestor entries s) := by simp [execPageTableWrite]
@[simp] theorem execDmaStart_keepsRoles (who : Requester) (channel : Nat) :
    KeepsRoles s (execDmaStart who channel s) := by simp [execDmaStart]
@[simp] theorem execDmaHalt_keepsRoles (who : Requester) (channel : Nat) :
    KeepsRoles s (execDmaHalt who channel s) := by simp [execDmaHalt]
@[simp] theorem execDmaResume_keepsRoles (who : Requester) (channel : Nat) :
    KeepsRoles s (execDmaResume who channel s) := by simp [execDmaResume]
@[simp] theorem execDmaAbort_keepsRoles (who : Requester) (channel : Nat) :
    KeepsRoles s (execDmaAbort who channel s) := by simp [execDmaAbort]
@[simp] theorem execEventFlagClear_keepsRoles (who : Requester) (source value : Nat) :
    KeepsRoles s (execEventFlagClear who source value s) := by simp [execEventFlagClear]
@[simp] theorem execEventEnableWrite_keepsRoles (who : Requester) (source value : Nat) :
    KeepsRoles s (execEventEnableWrite who source value s) := by simp [execEventEnableWrite]
@[simp] theorem execConverterFaultClear_keepsRoles (who : Requester) (value : Nat) :
    KeepsRoles s (execConverterFaultClear who value s) := by simp [execConverterFaultClear]
@[simp] theorem execPhaseExcludedClear_keepsRoles (who : Requester) (value : Nat) :
    KeepsRoles s (execPhaseExcludedClear who value s) := by simp [execPhaseExcludedClear]
@[simp] theorem execPhasePopulatedWrite_keepsRoles (who : Requester) (value : Nat) :
    KeepsRoles s (execPhasePopulatedWrite who value s) := by simp [execPhasePopulatedWrite]
@[simp] theorem execChargeFaultRead_keepsRoles (who : Requester) :
    KeepsRoles s (execChargeFaultRead who s) := by simp [execChargeFaultRead, State.hostRead]
@[simp] theorem execDisconnectClose_keepsRoles (who : Requester) (auto : Bool) :
    KeepsRoles s (execDisconnectClose who auto s) := by simp [execDisconnectClose, Dev.autoClose]
@[simp] theorem execDisconnectOpen_keepsRoles (who : Requester) :
    KeepsRoles s (execDisconnectOpen who s) := by simp [execDisconnectOpen]
@[simp] theorem execCheckValueConfirm_keepsRoles (who : Requester) (value code : Nat) (run : CommitRun) :
    KeepsRoles s (execCheckValueConfirm who value code run s) := by simp [execCheckValueConfirm, Dev.withRun]
@[simp] theorem execLogFormat_keepsRoles (who : Requester) : KeepsRoles s (execLogFormat who s) := by simp [execLogFormat]
@[simp] theorem execLogClosePage_keepsRoles (who : Requester) :
    KeepsRoles s (execLogClosePage who s) := by simp [execLogClosePage]
@[simp] theorem execLogWrite_keepsRoles (who : Requester) (bytes : List Nat) :
    KeepsRoles s (execLogWrite who bytes s) := by simp [execLogWrite]
@[simp] theorem execLogReadSequence_keepsRoles (who : Requester) (sequence : Nat) (crcOk : Bool) :
    KeepsRoles s (execLogReadSequence who sequence crcOk s) := by simp [execLogReadSequence, Dev.markPage]
@[simp] theorem execCalendarTimeWrite_keepsRoles (who : Requester) (value : Nat) :
    KeepsRoles s (execCalendarTimeWrite who value s) := by simp [execCalendarTimeWrite]
@[simp] theorem execDieTempRequest_keepsRoles (controller : Bool) (who : Requester) :
    KeepsRoles s (execDieTempRequest controller who s) := by simp [execDieTempRequest]
@[simp] theorem execSwatchControl_keepsRoles (who : Requester) (monitor : Bool) (value : Nat) :
    KeepsRoles s (execSwatchControl who monitor value s) := by simp [execSwatchControl]
end

/-! ## The role of the monitor die -/

theorem Dev.reportedRole_congr {d e : Dev} (hh : e.pwr.laneH = d.pwr.laneH) (hr : e.pwr.role = d.pwr.role)
    (hl : e.pwr.logic = d.pwr.logic) : e.reportedRole = d.reportedRole := by
  simp [Dev.reportedRole, Dev.logicPowered, hh, hr, hl]

/-- The monitor die hears of the head role only over a lane H that runs, from a controller die in that role (R20). -/
theorem Dev.of_reportedRole_head {d : Dev} (h : d.reportedRole = .head) : d.pwr.role = .head ∧ d.pwr.laneH = true := by
  unfold Dev.reportedRole at h
  split at h
  next hc =>
    simp only [Bool.and_eq_true, beq_iff_eq] at hc
    obtain ⟨⟨hlane, hrole⟩, -⟩ := hc
    exact ⟨hrole, hlane⟩
  next => contradiction

theorem Dev.reportedRole_inReset {d : Dev} (h : d.pwr.logic = .inReset) : d.reportedRole = .member := by
  simp [Dev.reportedRole, Dev.logicPowered, h]

@[simp] theorem Dev.abandonedByReset_pwr (d before : Dev) : (d.abandonedByReset before).pwr = d.pwr := by
  simp [Dev.abandonedByReset, apply_ite Dev.pwr]

@[simp] theorem Dev.hvReset_reportedRole (d : Dev) : d.hvReset.reportedRole = d.reportedRole := by
  apply Dev.reportedRole_congr <;> simp [Dev.hvReset, Dev.dropBlobs, Dev.dropRegs]

theorem Dev.role_eq_of_roles_eq {d e : Dev} (h : e.roles = d.roles) : e.pwr.role = d.pwr.role := congrArg Prod.fst h
theorem Dev.monRole_eq_of_roles_eq {d e : Dev} (h : e.roles = d.roles) : e.pwr.monRole = d.pwr.monRole := congrArg Prod.snd h

theorem Dev.hvReset_hvStart_roles (d : Dev) : d.hvReset.hvStart.roles = (d.pwr.role, d.reportedRole) := by
  rw [Dev.hvStart_roles, Dev.hvReset_reportedRole, Dev.role_eq_of_roles_eq (Dev.hvReset_roles d)]

@[simp] theorem Dev.refreshKa_pwr (d : Dev) : d.refreshKa.pwr = d.pwr := by
  simp [Dev.refreshKa, Dev.followCapacity, Dev.nimhStop, Dev.enterNimh, apply_ite Dev.pwr]

theorem State.logicReset_logic (s : State) (causeBit : Nat) (mode : LogicMode) :
    (s.logicReset causeBit mode).dev.pwr.logic = mode := by
  simp [State.logicReset, Dev.logicReset, Dev.refreshCrystal, Dev.dropBlobs, Dev.dropRegs, Dev.dropReads, Dev.setGroup]

/-- Both roles stay, or the monitor die alone takes role `r`. -/
def MonRoleTakes (r : Role) (d e : Dev) : Prop := e.roles = d.roles ∨ e.roles = (d.pwr.role, r)

theorem MonRoleTakes.of_roles_eq {r : Role} {d e f : Dev} (h : e.roles = d.roles) (k : MonRoleTakes r e f) :
    MonRoleTakes r d f := by
  have hr := Dev.role_eq_of_roles_eq h
  rcases k with k | k
  · exact .inl (k.trans h)
  · exact .inr (hr ▸ k)

theorem MonRoleTakes.role_eq {r : Role} {d e : Dev} (h : MonRoleTakes r d e) : e.pwr.role = d.pwr.role := by
  rcases h with h | h <;> exact congrArg Prod.fst h

theorem MonRoleTakes.monRole_eq {r : Role} {d e : Dev} (h : MonRoleTakes r d e) :
    e.pwr.monRole = d.pwr.monRole ∨ e.pwr.monRole = r :=
  h.imp (congrArg Prod.snd) (congrArg Prod.snd)

theorem Dev.roleChange_takes (d : Dev) : MonRoleTakes d.reportedRole d d.roleChange := by
  unfold Dev.roleChange
  split
  · right
    have h : d.monWake.abandonSelfCal.unbind.roles = d.roles := by simp
    simp [Dev.role_eq_of_roles_eq h]
  · exact .inl rfl

theorem Dev.laneHLost_takes (d : Dev) : MonRoleTakes .member d d.laneHLost := by
  simp only [Dev.laneHLost]
  split
  · right; simp
  · left; simp

/-- The HV field starts anew beside a controller die that is held in reset: its monitor die is a member (R20). -/
theorem Dev.hvRestart_takes {d : Dev} (h : d.pwr.logic = .inReset) :
    MonRoleTakes .member d (if d.pwr.vstk then d.hvReset.hvStart else d) := by
  split
  · right; rw [Dev.hvReset_hvStart_roles, Dev.reportedRole_inReset h]
  · exact .inl rfl

theorem State.vlogRise_takes (s : State) : MonRoleTakes .member s.dev s.vlogRise.dev := by
  unfold State.vlogRise
  extract_lets s1
  have h1 : s1.dev.roles = s.dev.roles := by simp [s1]
  split
  · left; simp [h1]
  split
  · refine MonRoleTakes.of_roles_eq ?_ (Dev.hvRestart_takes ?_)
    · simp [h1]
    · simp [State.logicReset_logic]
  · left; simp [h1]

theorem State.shipExitMet_takes (s : State) (bit : Nat) : MonRoleTakes .member s.dev (s.shipExitMet bit).dev := by
  unfold State.shipExitMet
  dsimp only
  split
  · exact .inl rfl
  split
  · left; simp
  split
  · split
    · refine MonRoleTakes.of_roles_eq ?_ (Dev.hvRestart_takes ?_)
      · simp
      · simp [State.logicReset_logic]
    · left; simp
  · exact .inl rfl

theorem execHvPowerOn_takes {mv : Nat} {s t : State} (h : execHvPowerOn mv s = .next t) :
    MonRoleTakes s.dev.reportedRole s.dev t.dev := by
  unfold execHvPowerOn at h
  split at h
  · contradiction
  · obtain rfl := Host.Outcome.next.inj h
    simp only [State.onDev_dev]
    split
    · exact .inr (Dev.hvReset_hvStart_roles _)
    · exact .inl rfl

theorem execVlogRise_takes {mv : Nat} {s t : State} (h : execVlogRise mv s = .next t) :
    MonRoleTakes .member s.dev t.dev := by
  unfold execVlogRise at h
  split at h
  · contradiction
  split at h
  · obtain rfl := Host.Outcome.next.inj h
    exact .inl rfl
  · obtain rfl := Host.Outcome.next.inj h
    split
    · left; simp
    · exact State.vlogRise_takes s

/-! ## Every command -/

/-- The commands that may change a role. -/
def setsRole : Instr → Bool
  | .resetRelease _ _ | .hvPowerOn _ | .roleChangeReset | .laneHLoss | .vlogRise _ | .shipExit _ => true
  | _ => false

theorem exec_keepsRoles (c : Instr) (s : State) (h : setsRole c = false) : KeepsRoles s (exec c s) := by
  cases c with
  | resetRelease | hvPowerOn | roleChangeReset | laneHLoss | vlogRise | shipExit => contradiction
  | _ => simp [exec]

/-- What a command other than the release of reset does to the roles. -/
theorem exec_roles {c : Instr} {s t : State} (hc : ∀ h mv, c ≠ .resetRelease h mv) (h : exec c s = .next t) :
    t.dev.roles = s.dev.roles
      ∨ ((∃ mv, c = .hvPowerOn mv) ∨ c = .roleChangeReset) ∧ MonRoleTakes s.dev.reportedRole s.dev t.dev
      ∨ (c = .laneHLoss ∨ (∃ mv, c = .vlogRise mv) ∨ ∃ bit, c = .shipExit bit)
        ∧ MonRoleTakes .member s.dev t.dev := by
  cases hs : setsRole c with
  | false => exact .inl (exec_keepsRoles c s hs t h)
  | true =>
    right
    unfold setsRole at hs
    split at hs
    next => exact absurd rfl (hc _ _)
    next mv => exact .inl ⟨.inl ⟨mv, rfl⟩, execHvPowerOn_takes h⟩
    next => exact .inl ⟨.inr rfl, Host.Outcome.next.inj h ▸ Dev.roleChange_takes s.dev⟩
    next => exact .inr ⟨.inl rfl, Host.Outcome.next.inj h ▸ Dev.laneHLost_takes s.dev⟩
    next mv => exact .inr ⟨.inr (.inl ⟨mv, rfl⟩), execVlogRise_takes h⟩
    next bit => exact .inr ⟨.inr (.inr ⟨bit, rfl⟩), Host.Outcome.next.inj h ▸ State.shipExitMet_takes s bit⟩
    next => contradiction

/-- Settles O7: a command either keeps both roles, or it is one of the five that let the monitor die take a role, the one that
lane H reports or the member role. -/
theorem roleOnlyAtRelease : Obligations.RoleOnlyAtRelease := by
  intro c s t hc h
  rcases exec_roles hc h with same | ⟨hcmd, takes⟩ | ⟨hcmd, takes⟩
  · have hm := Dev.monRole_eq_of_roles_eq same
    exact ⟨Dev.role_eq_of_roles_eq same, fun hn => absurd hm hn, fun hh => .inl (hm ▸ hh)⟩
  · refine ⟨takes.role_eq, fun _ => hcmd.imp_right .inl, fun hh => ?_⟩
    rcases takes.monRole_eq with hm | hm
    · exact .inl (hm ▸ hh)
    · exact .inr (Dev.of_reportedRole_head (hm ▸ hh))
  · refine ⟨takes.role_eq, fun hn => .inr (.inr ⟨hcmd, takes.monRole_eq.resolve_left hn⟩), fun hh => ?_⟩
    rcases takes.monRole_eq with hm | hm
    · exact .inl (hm ▸ hh)
    · exact absurd (hm.symm.trans hh) (by decide)

end Sys2Proof.Machine
